-- ==== Sys2Proof/Word.lean ====
section
/-! DEFINITION. The word types of the part: bytes, 40-bit addresses, slot, lane, block, window,
pattern, profile and Insert Queue place numbers. -/

namespace Sys2Proof

/-- One byte of a request, block, record or descriptor. -/
abbrev Byte := BitVec 8

/-- A memory address: 40 bits on both ports (R1). -/
abbrev Addr := BitVec 40

/-- A payload slot, 0..11. -/
abbrev SlotId := Fin 12

/-- A lane of a slot, 0..3. -/
abbrev LaneId := Fin 4

/-- A command block of window 0, 0..63 (R18). -/
abbrev BlockId := BitVec 6

/-- The twelve slots in ascending order. -/
def allSlots : List SlotId := [0, 1, 2, 3, 4, 5, 6, 7, 8, 9, 10, 11]

/-- The four lanes of a slot in ascending order. -/
def allLanes : List LaneId := [0, 1, 2, 3]

end Sys2Proof
end

