-- ==== Sys2Proof/Syntax.lean ====
section
/-! DEFINITION. The commands of the part: one constructor of `Instr` for each row of the table of
operations and events, with the operands the row's rule gives it. -/

namespace Sys2Proof

/-- The kind of a memory request (R1). -/
inductive ReqKind where
  | read
  | write
deriving DecidableEq, Repr

/-- The status of a memory response (R1). -/
inductive RespStatus where
  | ok
  | error
deriving DecidableEq, Repr

/-- A request as the test controller presents it at the system port (R1). -/
structure Request where
  kind    : ReqKind
  addr    : Addr
  /-- 1..16 beats of 16 bytes. -/
  beats   : Nat
  /-- The 8-bit system port ID. -/
  id      : BitVec 8
  /-- For a WRITE, 16 × beats bytes, the byte at `addr` first. -/
  data    : List Byte
  /-- For a WRITE, one enable for each data byte. -/
  enables : List Bool
deriving DecidableEq, Repr

/-- The fields every command block has before its parameters, less the code (R18, chapter 11.1). -/
structure BlockHead where
  zero     : Byte
  tag      : BitVec 16
  slotMask : BitVec 16
  selector : BitVec 16
deriving DecidableEq, Repr

/-- SET_WINDOW's parameters as written (chapter 11.1). -/
structure WindowParams where
  role    : Byte
  pattern : Byte
  base    : Addr
  size    : BitVec 32
deriving DecidableEq, Repr

/-- SET_PROFILE's parameters as written, offsets 8..33 (chapter 11.1). -/
structure ProfileParams where
  laneMask        : Byte
  rate            : Byte
  payload         : Byte
  presenceSource  : Byte
  debounce        : Byte
  settle          : Byte
  plugPolicy      : Byte
  sidebandSpeed   : Byte
  trainTimeout    : Byte
  allowInversion  : Byte
  allowReorder    : Byte
  stopOnFail      : Byte
  relockTimeout   : BitVec 16
  soakLength      : Byte
  berM            : Byte
  berX            : Byte
  maxLockDrops    : Byte
  errorCeiling    : BitVec 16
  marginMode      : Byte
  dwell           : Byte
  tolerance       : Byte
  minEyeWidth     : Byte
  progressReports : Byte
  presenceEdges   : Byte
deriving DecidableEq, Repr

/-- SET_TIMEBASE's parameters as written (chapter 11.1). -/
structure TimebaseParams where
  prescale  : Byte
  period    : BitVec 16
  postscale : Byte
deriving DecidableEq, Repr

/-- SET_ATTENTION's parameters as written (chapter 11.1). -/
structure AttentionParams where
  lineEnable : Byte
  wordEnable : Byte
  kindMask   : Byte
  threshold  : Byte
  delay      : Byte
  address    : Addr
deriving DecidableEq, Repr

/-- SIDEBAND's parameters and data field as written (R38, chapter 11.1). -/
structure SidebandParams where
  direction : Byte
  offset    : Byte
  count     : Byte
  postWait  : BitVec 32
  data      : Vector Byte 8
deriving DecidableEq, Repr

/-- How a sideband try reached its STOP (R105). `success` carries the bytes a read received, the
first `n` of the eight for a read of `n` bytes; for a write they mean nothing. `addressNak` carries which
of the address and offset bytes drew the NAK: 0 the address byte 0x58, 1 the offset, 2 the address byte
0x59 of a read. `dataNak` carries the number of data bytes acknowledged before the NAK, 0..7. -/
inductive TryResult where
  | success (bytes : Vector Byte 8)
  | addressNak (byte : Fin 3)
  | dataNak (acked : Fin 8)
deriving DecidableEq, Repr

/-- The commands: one constructor for each row of the table, in the table's order but for
PRESCALER_WRAP, which the table puts last too. A command is the occurrence of its row's event. The
operands are what the event brings from outside the part (a request, a response, a command block's
fields, received bits, a pin's level) and the slot and lane it happens at. -/
inductive Instr where
  /-- R2: the test controller presents a request and the system port accepts it. -/
  | requestAccept (r : Request)
  /-- R13: the arbiter issues the Forwarding Queue head. -/
  | forwardedIssue
  /-- R13: the arbiter issues the Insert Queue head. -/
  | insertedIssue
  /-- R3: a memory response with the top ID bit clear. -/
  | forwardedResponse (id : BitVec 8) (status : RespStatus) (data : List Byte)
  /-- R10: the rotation serves a waiting producer. -/
  | insertJoin
  /-- R14: a memory response with the top ID bit set; `place` is its low 8 bits. -/
  | insertAck (place : BitVec 8) (status : RespStatus)
  /-- R16: PRST_N is asserted. -/
  | portReset
  /-- R16: PRST_N is released. -/
  | portResetRelease
  /-- R17: PORST_N is asserted. -/
  | powerOnReset
  /-- R17: PORST_N is released with WBASE[15:0] at `wbase`. -/
  | powerOnResetRelease (wbase : BitVec 16)
  /-- R22 step 1: a block whose code is NONE is taken. -/
  | noneBlock (block : BlockId)
  /-- R22 step 3: a block whose code names no command is taken. -/
  | unknownCode (block : BlockId) (code : Byte) (head : BlockHead)
  | setWindow (block : BlockId) (head : BlockHead) (params : WindowParams)
  | setProfile (block : BlockId) (head : BlockHead) (params : ProfileParams)
  | definePattern (block : BlockId) (head : BlockHead) (length : Byte)
  | setTimebase (block : BlockId) (head : BlockHead) (params : TimebaseParams)
  | setAttention (block : BlockId) (head : BlockHead) (params : AttentionParams)
  | start (block : BlockId) (head : BlockHead)
  | abort (block : BlockId) (head : BlockHead)
  | retest (block : BlockId) (head : BlockHead)
  | clear (block : BlockId) (head : BlockHead)
  | snapshot (block : BlockId) (head : BlockHead)
  | sideband (block : BlockId) (head : BlockHead) (params : SidebandParams)
  | status (block : BlockId) (head : BlockHead)
  /-- R61: the transmitter of the lane begins a new frame. -/
  | frameStart (slot : SlotId) (lane : LaneId)
  /-- R65: the 48 line bits at the place the searching receiver examines, the first received most
  significant, before any polarity is applied. -/
  | headerInHunt (slot : SlotId) (lane : LaneId) (bits : BitVec 48)
  /-- R67: the 48 line bits at the next header place of a LOCKED receiver. -/
  | headerInLock (slot : SlotId) (lane : LaneId) (bits : BitVec 48)
  /-- R72: the 4096 payload bits of the frame, the first received most significant, before any
  polarity is applied. -/
  | frameReceived (slot : SlotId) (lane : LaneId) (payload : BitVec 4096)
  /-- R68: the lane's relock timer expires. -/
  | relockTimeout (slot : SlotId) (lane : LaneId)
  /-- R80: PRES_N of the slot goes to its asserted (low) or its released level. -/
  | presNChange (slot : SlotId) (asserted : Bool)
  /-- R59: the lane's energy detector goes to signal present or absent. -/
  | energyDetectChange (slot : SlotId) (lane : LaneId) (present : Bool)
  /-- R81: the slot's debounce timer expires. -/
  | debounceExpiry (slot : SlotId)
  /-- R87: the slot's state timer expires in SETTLE. -/
  | settleExpiry (slot : SlotId)
  /-- R122: the slot's state timer expires in TRAIN. -/
  | trainTimeout (slot : SlotId)
  /-- R105: the try on the line reaches its STOP. -/
  | tryEnd (result : TryResult)
  /-- R105: the 1 ms wait between tries ends. -/
  | retryWaitExpiry
  /-- R106: SBC stays low for more than 25 ms after the part released it. -/
  | clockHeldLow
  /-- R106: SBD is found low where the framing needs it high. -/
  | dataStuckLow
  /-- R106: the recovery's STOP is sent. -/
  | recoveryEnd
  /-- R114: the plug settle wait ends. -/
  | plugSettleExpiry
  /-- R116: the post-wait of the host entry in service ends. -/
  | postWaitExpiry
  /-- R132: an increment of the µs counter that makes an interval. -/
  | interval
  /-- R132: an increment of the µs counter that makes a checkpoint. -/
  | checkpoint
  /-- R167: the selected record's write, or the PAD before it, starts. -/
  | recordWriteStart
  /-- R174: the age timer expires. -/
  | ageTimerExpiry
  /-- R132: an increment of the µs counter that makes the prescaler count wrap. -/
  | prescalerWrap
deriving DecidableEq, Repr

end Sys2Proof
end

