-- ==== Sys2Proof/WellFormed.lean ====
section
/-! DEFINITION. Which commands the part's ports and command blocks can carry. -/

namespace Sys2Proof

/-- R1: the address is a multiple of 16, there are 1..16 beats, and a WRITE carries 16 × beats bytes
and as many enables, where a READ carries neither. -/
def Request.wf (r : Request) : Bool :=
  decide (r.addr.toNat % 16 = 0) && decide (1 ≤ r.beats) && decide (r.beats ≤ 16) &&
    (match r.kind with
     | .read => r.data.isEmpty && r.enables.isEmpty
     | .write => decide (r.data.length = 16 * r.beats) && decide (r.enables.length = 16 * r.beats))

/-- The command codes of chapter 11.1, NONE among them. -/
def knownCodes : List Byte :=
  [0x00, 0x01, 0x02, 0x03, 0x04, 0x05, 0x10, 0x11, 0x12, 0x13, 0x14, 0x20, 0x30]

/-- A command as its port or block can carry it. -/
def Instr.wf : Instr → Bool
  | .requestAccept r => r.wf
  | .forwardedResponse _ _ data => decide (data.length % 16 = 0) && decide (data.length ≤ 256)
  | .unknownCode _ code _ => !knownCodes.contains code
  | .forwardedIssue | .insertedIssue | .insertJoin | .insertAck .. | .portReset
  | .portResetRelease | .powerOnReset | .powerOnResetRelease .. | .noneBlock .. | .setWindow ..
  | .setProfile .. | .definePattern .. | .setTimebase .. | .setAttention .. | .start ..
  | .abort .. | .retest .. | .clear .. | .snapshot .. | .sideband .. | .status ..
  | .frameStart .. | .headerInHunt .. | .headerInLock .. | .frameReceived ..
  | .relockTimeout .. | .presNChange .. | .energyDetectChange .. | .debounceExpiry ..
  | .settleExpiry .. | .trainTimeout .. | .tryEnd .. | .retryWaitExpiry | .clockHeldLow
  | .dataStuckLow | .recoveryEnd | .plugSettleExpiry | .postWaitExpiry | .interval
  | .checkpoint | .recordWriteStart | .ageTimerExpiry | .prescalerWrap => true

end Sys2Proof
end

