-- ==== Sys2Proof/Decode.lean ====
section
/-! DEFINITION. Decoding: the table of operations gives no row bits, so no word spells a command;
a command block's 64 bytes do (chapter 11.1, R178), and their decoding and encoding stand here. -/

namespace Sys2Proof

/-- The table of operations gives no row any bits: no word spells a command (log 33). -/
def decodeTableWord (_nbits _w : Nat) : Option Instr := none

/-- The little-endian number that `bytes` hold, the byte at the lowest offset first. -/
def leNat : List Byte → Nat
  | [] => 0
  | b :: bs => b.toNat + 256 * leNat bs

/-- The `k` little-endian bytes of `n`. -/
def leBytes : Nat → Nat → List Byte
  | 0, _ => []
  | k + 1, n => BitVec.ofNat 8 n :: leBytes k (n / 256)

/-- `k` bytes of value 0. -/
def zeroBytes (k : Nat) : List Byte := List.replicate k 0

/-- The byte of a block at `offset` (0 past its end). -/
def blockByte (bytes : List Byte) (offset : Nat) : Byte := bytes.getD offset 0

/-- The `k`-byte little-endian field of a block at `offset`. -/
def blockField (bytes : List Byte) (offset k : Nat) : Nat := leNat ((bytes.drop offset).take k)

/-- The head fields of a command block (chapter 11.1). -/
def BlockHead.ofBytes (b : List Byte) : BlockHead where
  zero     := blockByte b 1
  tag      := BitVec.ofNat 16 (blockField b 2 2)
  slotMask := BitVec.ofNat 16 (blockField b 4 2)
  selector := BitVec.ofNat 16 (blockField b 6 2)

/-- SET_WINDOW's parameters in a block (chapter 11.1). -/
def WindowParams.ofBytes (b : List Byte) : WindowParams where
  role    := blockByte b 8
  pattern := blockByte b 9
  base    := BitVec.ofNat 40 (blockField b 16 5)
  size    := BitVec.ofNat 32 (blockField b 24 4)

/-- SET_PROFILE's parameters in a block (chapter 11.1). -/
def ProfileParams.ofBytes (b : List Byte) : ProfileParams where
  laneMask        := blockByte b 8
  rate            := blockByte b 9
  payload         := blockByte b 10
  presenceSource  := blockByte b 11
  debounce        := blockByte b 12
  settle          := blockByte b 13
  plugPolicy      := blockByte b 14
  sidebandSpeed   := blockByte b 15
  trainTimeout    := blockByte b 16
  allowInversion  := blockByte b 17
  allowReorder    := blockByte b 18
  stopOnFail      := blockByte b 19
  relockTimeout   := BitVec.ofNat 16 (blockField b 20 2)
  soakLength      := blockByte b 22
  berM            := blockByte b 23
  berX            := blockByte b 24
  maxLockDrops    := blockByte b 25
  errorCeiling    := BitVec.ofNat 16 (blockField b 26 2)
  marginMode      := blockByte b 28
  dwell           := blockByte b 29
  tolerance       := blockByte b 30
  minEyeWidth     := blockByte b 31
  progressReports := blockByte b 32
  presenceEdges   := blockByte b 33

/-- SET_TIMEBASE's parameters in a block (chapter 11.1). -/
def TimebaseParams.ofBytes (b : List Byte) : TimebaseParams where
  prescale  := blockByte b 8
  period    := BitVec.ofNat 16 (blockField b 10 2)
  postscale := blockByte b 12

/-- SET_ATTENTION's parameters in a block (chapter 11.1). -/
def AttentionParams.ofBytes (b : List Byte) : AttentionParams where
  lineEnable := blockByte b 8
  wordEnable := blockByte b 9
  kindMask   := blockByte b 10
  threshold  := blockByte b 11
  delay      := blockByte b 12
  address    := BitVec.ofNat 40 (blockField b 16 5)

/-- SIDEBAND's parameters and data field in a block (chapter 11.1). -/
def SidebandParams.ofBytes (b : List Byte) : SidebandParams where
  direction := blockByte b 8
  offset    := blockByte b 9
  count     := blockByte b 10
  postWait  := BitVec.ofNat 32 (blockField b 12 4)
  data      := #v[blockByte b 48, blockByte b 49, blockByte b 50, blockByte b 51,
                  blockByte b 52, blockByte b 53, blockByte b 54, blockByte b 55]

/-- The command that block `n` carries when its 64 bytes are `b` (chapter 11.1, R178): the code at
offset 0 names it, and only the fields that command reads are taken. -/
def decodeBlock (n : BlockId) (b : List Byte) : Instr :=
  match (blockByte b 0).toNat with
  | 0x00 => .noneBlock n
  | 0x01 => .setWindow n (.ofBytes b) (.ofBytes b)
  | 0x02 => .setProfile n (.ofBytes b) (.ofBytes b)
  | 0x03 => .definePattern n (.ofBytes b) (blockByte b 8)
  | 0x04 => .setTimebase n (.ofBytes b) (.ofBytes b)
  | 0x05 => .setAttention n (.ofBytes b) (.ofBytes b)
  | 0x10 => .start n (.ofBytes b)
  | 0x11 => .abort n (.ofBytes b)
  | 0x12 => .retest n (.ofBytes b)
  | 0x13 => .clear n (.ofBytes b)
  | 0x14 => .snapshot n (.ofBytes b)
  | 0x20 => .sideband n (.ofBytes b) (.ofBytes b)
  | 0x30 => .status n (.ofBytes b)
  | _ => .unknownCode n (blockByte b 0) (.ofBytes b)

/-- Bytes 0..7 of a command block. -/
def BlockHead.toBytes (code : Byte) (h : BlockHead) : List Byte :=
  [code, h.zero] ++ leBytes 2 h.tag.toNat ++ leBytes 2 h.slotMask.toNat ++ leBytes 2 h.selector.toNat

/-- SET_WINDOW's 40 parameter bytes. -/
def WindowParams.toBytes (p : WindowParams) : List Byte :=
  [p.role, p.pattern] ++ zeroBytes 6 ++ leBytes 5 p.base.toNat ++ zeroBytes 3 ++
    leBytes 4 p.size.toNat ++ zeroBytes 20

/-- SET_PROFILE's 40 parameter bytes. -/
def ProfileParams.toBytes (p : ProfileParams) : List Byte :=
  [p.laneMask, p.rate, p.payload, p.presenceSource, p.debounce, p.settle, p.plugPolicy,
   p.sidebandSpeed, p.trainTimeout, p.allowInversion, p.allowReorder, p.stopOnFail] ++
    leBytes 2 p.relockTimeout.toNat ++ [p.soakLength, p.berM, p.berX, p.maxLockDrops] ++
    leBytes 2 p.errorCeiling.toNat ++
    [p.marginMode, p.dwell, p.tolerance, p.minEyeWidth, p.progressReports, p.presenceEdges] ++
    zeroBytes 14

/-- SET_TIMEBASE's 40 parameter bytes. -/
def TimebaseParams.toBytes (p : TimebaseParams) : List Byte :=
  [p.prescale, 0] ++ leBytes 2 p.period.toNat ++ [p.postscale] ++ zeroBytes 35

/-- SET_ATTENTION's 40 parameter bytes. -/
def AttentionParams.toBytes (p : AttentionParams) : List Byte :=
  [p.lineEnable, p.wordEnable, p.kindMask, p.threshold, p.delay, 0, 0, 0] ++
    leBytes 5 p.address.toNat ++ zeroBytes 27

/-- SIDEBAND's 40 parameter bytes and its 8 data bytes. -/
def SidebandParams.toBytes (p : SidebandParams) : List Byte :=
  [p.direction, p.offset, p.count, 0] ++ leBytes 4 p.postWait.toNat ++ zeroBytes 32 ++
    p.data.toList

/-- The 64 bytes of a command block that carries `i`, every byte `i` does not read written 0, and
`none` where `i` is no command of a block. -/
def encodeBlock : Instr → Option (List Byte)
  | .noneBlock _ => some (zeroBytes 64)
  | .unknownCode _ c h => some (h.toBytes c ++ zeroBytes 56)
  | .setWindow _ h p => some (h.toBytes 0x01 ++ p.toBytes ++ zeroBytes 16)
  | .setProfile _ h p => some (h.toBytes 0x02 ++ p.toBytes ++ zeroBytes 16)
  | .definePattern _ h l => some (h.toBytes 0x03 ++ [l] ++ zeroBytes 55)
  | .setTimebase _ h p => some (h.toBytes 0x04 ++ p.toBytes ++ zeroBytes 16)
  | .setAttention _ h p => some (h.toBytes 0x05 ++ p.toBytes ++ zeroBytes 16)
  | .start _ h => some (h.toBytes 0x10 ++ zeroBytes 56)
  | .abort _ h => some (h.toBytes 0x11 ++ zeroBytes 56)
  | .retest _ h => some (h.toBytes 0x12 ++ zeroBytes 56)
  | .clear _ h => some (h.toBytes 0x13 ++ zeroBytes 56)
  | .snapshot _ h => some (h.toBytes 0x14 ++ zeroBytes 56)
  | .sideband _ h p => some (h.toBytes 0x20 ++ p.toBytes ++ zeroBytes 8)
  | .status _ h => some (h.toBytes 0x30 ++ zeroBytes 56)
  | .requestAccept .. | .forwardedIssue | .insertedIssue | .forwardedResponse .. | .insertJoin
  | .insertAck .. | .portReset | .portResetRelease | .powerOnReset | .powerOnResetRelease ..
  | .frameStart .. | .headerInHunt .. | .headerInLock .. | .frameReceived ..
  | .relockTimeout .. | .presNChange .. | .energyDetectChange .. | .debounceExpiry ..
  | .settleExpiry .. | .trainTimeout .. | .tryEnd .. | .retryWaitExpiry | .clockHeldLow
  | .dataStuckLow | .recoveryEnd | .plugSettleExpiry | .postWaitExpiry | .interval
  | .checkpoint | .recordWriteStart | .ageTimerExpiry | .prescalerWrap => none

/-- The block number of a command that stands in a command block. -/
def Instr.block? : Instr → Option BlockId
  | .noneBlock n | .unknownCode n _ _ | .setWindow n _ _ | .setProfile n _ _
  | .definePattern n _ _ | .setTimebase n _ _ | .setAttention n _ _ | .start n _ | .abort n _
  | .retest n _ | .clear n _ | .snapshot n _ | .sideband n _ _ | .status n _ => some n
  | .requestAccept .. | .forwardedIssue | .insertedIssue | .forwardedResponse .. | .insertJoin
  | .insertAck .. | .portReset | .portResetRelease | .powerOnReset | .powerOnResetRelease ..
  | .frameStart .. | .headerInHunt .. | .headerInLock .. | .frameReceived ..
  | .relockTimeout .. | .presNChange .. | .energyDetectChange .. | .debounceExpiry ..
  | .settleExpiry .. | .trainTimeout .. | .tryEnd .. | .retryWaitExpiry | .clockHeldLow
  | .dataStuckLow | .recoveryEnd | .plugSettleExpiry | .postWaitExpiry | .interval
  | .checkpoint | .recordWriteStart | .ageTimerExpiry | .prescalerWrap => none

end Sys2Proof
end

