-- ==== Sys2Proof/Config.lean ====
section
/-! DEFINITION. The free values of the model: what the manual leaves open and the part decides. -/

namespace Sys2Proof

/-- The order in which the soaking slots act on the `k`-th checkpoint. R145 and R148 leave it open
("their entries to the Scan Queue take places in either order"); it decides the places the slots take
in the Scan Queue and nothing else. FREE VALUE: it has no body a proof could read. Slots it does not
name, and repetitions, are put right by `Machine.slotOrder`. DESIGN CHOICE in form (log 9), safe. -/
opaque Config.checkpointOrder : Nat → List SlotId

/-- The value of the `k`-th finding whose value the manual does not state: ABORTED (R93), and
PLUG_ANONYMOUS where byte 0 of the plug reads 0 (R111). FREE VALUE: it has no body a proof could read.
DESIGN CHOICE in form (log 8), safe. -/
opaque Config.findingValue : Nat → BitVec 32

end Sys2Proof
end

