-- ==== Sys2Proof/Machine/State.lean ====
section
/-! DEFINITION. The state of the part: every register, queue, list, count, timer, mark and pin the
manual gives it, grouped by the block that owns it, and the state right after reset. -/

namespace Sys2Proof.Machine

open Sys2Proof

/-- Why the part stops. -/
inductive Fault where
  /-- Raised by REQUEST_ACCEPT on a request whose fields are not those of R1 (an address that is no
  multiple of 16, 0 or more than 16 beats, data or enables of another length). The protocol of R1 has
  no such request and the manual gives it no effect. Safe: the model stops where no request exists. -/
  | malformedRequest
  /-- Raised by UNKNOWN_CODE on a code that chapter 11.1 gives to a command: such a block is that
  command's, so the command is not the event of R22 step 3. Safe, for the same reason. -/
  | knownCommandCode
deriving DecidableEq, Repr

/-- Why a command has no meaning. -/
inductive Refusal where
  /-- Raised by an arm of `exec` whose command has no meaning yet; no arm does. Safe. -/
  | notModelled (mnemonic : String)
deriving DecidableEq, Repr

/-- A timer on the µs counter: stopped, or running with its expiry time. -/
abbrev Timer := Option (BitVec 48)

/-- A byte store in canonical form: addresses strictly rising, no entry equal to 0, which is what an
unlisted byte reads as (R46). -/
abbrev Memory := List Host.Cell

/-! ### Memory path (chapter 1) -/

/-- A window's role (R4). -/
inductive Role where
  | off
  | command
  | pattern
  | report
deriving DecidableEq, Repr

/-- A window of the Window Table (R4). -/
structure Window where
  base    : Addr
  size    : Nat
  role    : Role
  pattern : Fin 4
deriving DecidableEq, Repr

/-- A window of role OFF (R4). -/
def Window.none : Window := { base := 0, size := 0, role := .off, pattern := 0 }

/-- The classification a request takes at its acceptance (R5), with what R6 and R7 record beside it.
`role` is `off` for a request that takes no role. -/
structure Class where
  role    : Role
  window  : Fin 8
  pattern : Fin 4
  /-- R6: the covered blocks in ascending order, each with the 64 bytes the write carried (R19). -/
  covered : List (BlockId × List Byte)
  /-- R6: some block is partly touched. -/
  partly  : Bool
  /-- R7: the enabled bytes of the capture part, each with its pattern offset. -/
  capture : List (Nat × Byte)
deriving DecidableEq, Repr

/-- Plain traffic. -/
def Class.plain : Class :=
  { role := .off, window := 0, pattern := 0, covered := [], partly := false, capture := [] }

/-- An entry of the Forwarding Queue (R2). -/
structure FwdEntry where
  req     : Request
  arrival : Nat
  cls     : Class
deriving DecidableEq, Repr

/-- An entry of the Outstanding List (R3), with the discarded mark of R16. -/
structure OutEntry where
  id        : BitVec 8
  kind      : ReqKind
  addr      : Addr
  beats     : Nat
  arrival   : Nat
  cls       : Class
  discarded : Bool
deriving DecidableEq, Repr

/-- The producers of inserted writes (section 1.5). -/
inductive Producer where
  | decoder
  | record
  | attention
deriving DecidableEq, Repr

/-- A write a producer has in hand: its address and, for each byte of its beats, the byte it writes
or `none` where the enable is clear (R1). -/
structure InsWrite where
  addr  : Addr
  bytes : List (Option Byte)
deriving DecidableEq, Repr

/-- An entry of the Insert Queue (R10). -/
structure InsEntry where
  producer : Producer
  place    : Fin 8
  write    : InsWrite
  arrival  : Nat
  issued   : Bool
  void     : Bool
deriving DecidableEq, Repr

/-- A request on the memory port (R1, R3): a forwarded one with its system port ID, or an inserted
write with its place. -/
inductive MemRequest where
  | forwarded (r : Request)
  | inserted (place : Fin 8) (w : InsWrite)
deriving DecidableEq, Repr

/-- A response on the system port (R1). -/
structure SysResponse where
  id     : BitVec 8
  status : RespStatus
  data   : List Byte
deriving DecidableEq, Repr

/-- The memory path and Window Table. `memOut` and `sysOut` are the latest transfers on the two
output channels (log 19). -/
structure Path where
  fwd         : List FwdEntry
  out         : List OutEntry
  ins         : List InsEntry
  arbCount    : Nat
  lastServed  : Producer
  nextArrival : Nat
  windows     : Vector Window 8
  memOut      : Option MemRequest
  sysOut      : Option SysResponse
deriving DecidableEq, Repr

/-! ### Command Decoder (chapter 2) -/

/-- The completion statuses (R24). -/
inductive Status where
  | done
  | doneClamped
  | noEffect
  | refusedState
  | refusedBusy
  | blockBusy
  | badParam
  | unknown
  | sidebandNak
  | sidebandStuck
deriving DecidableEq, Repr

/-- A completion word waiting in the backlog (R24, R26): `data` is the sideband data of the second
form, `fromSideband` marks the completion of an outstanding SIDEBAND command. -/
structure Completion where
  block        : BlockId
  addr         : Addr
  tag          : BitVec 16
  status       : Status
  detail       : Byte
  extra        : BitVec 32
  data         : Option (Vector Byte 8)
  fromSideband : Bool
deriving DecidableEq, Repr

/-- The seven decoder counts (R41), in the order of the STATUS record. -/
structure Counts where
  commandsTaken        : Nat
  commandsRefused      : Nat
  partialWrites        : Nat
  commandWritesFailed  : Nat
  crossingRequests     : Nat
  trespassWrites       : Nat
  insertedWritesFailed : Nat
deriving DecidableEq, Repr

/-- All seven counts at 0. -/
def Counts.zero : Counts := ⟨0, 0, 0, 0, 0, 0, 0⟩

/-- The Command Decoder. `backlog` lists the waiting words in the backlog's order, at most one for
each block; `outstanding` is the outstanding SIDEBAND set with each block's tag (R23). -/
structure Decoder where
  backlog       : List Completion
  outstanding   : List (BlockId × BitVec 16)
  statusPending : Bool
  counts        : Counts
deriving DecidableEq, Repr

/-! ### Profile Table and Pattern Store (chapter 3) -/

/-- Line rates (R43). -/
inductive Rate where
  | a
  | b
  | c
deriving DecidableEq, Repr

/-- Payload kinds (R43). -/
inductive Payload where
  | prbs7
  | prbs15
  | prbs23
  | prbs31
  | pattern (n : Fin 4)
deriving DecidableEq, Repr

/-- Presence sources (R43). -/
inductive PresenceSource where
  | pin
  | signal
  | either
deriving DecidableEq, Repr

/-- Plug policies (R43). -/
inductive PlugPolicy where
  | requireDescriptor
  | acceptAnonymous
deriving DecidableEq, Repr

/-- Sideband speeds (R43). -/
inductive Speed where
  | khz100
  | khz400
deriving DecidableEq, Repr

/-- Margin modes (R43). -/
inductive MarginMode where
  | off
  | onPass
  | always
deriving DecidableEq, Repr

/-- Presence edges reported (R43). -/
inductive PresenceEdges where
  | none
  | insert
  | remove
  | both
deriving DecidableEq, Repr

/-- A test profile (R43). -/
structure Profile where
  laneMask        : BitVec 4
  rate            : Rate
  payload         : Payload
  presenceSource  : PresenceSource
  debounce        : Nat
  settle          : Nat
  plugPolicy      : PlugPolicy
  sidebandSpeed   : Speed
  trainTimeout    : Nat
  relockTimeout   : Nat
  allowInversion  : Bool
  allowReorder    : Bool
  stopOnFail      : Bool
  soakLength      : Nat
  berM            : Nat
  berX            : Nat
  errorCeiling    : Nat
  maxLockDrops    : Nat
  marginMode      : MarginMode
  dwell           : Nat
  tolerance       : Nat
  minEyeWidth     : Nat
  progressReports : Bool
  presenceEdges   : PresenceEdges
deriving DecidableEq, Repr

/-- The default values of R43. -/
def Profile.default : Profile where
  laneMask        := 15
  rate            := .c
  payload         := .prbs31
  presenceSource  := .pin
  debounce        := 20
  settle          := 16
  plugPolicy      := .acceptAnonymous
  sidebandSpeed   := .khz100
  trainTimeout    := 50
  relockTimeout   := 500
  allowInversion  := false
  allowReorder    := false
  stopOnFail      := true
  soakLength      := 10
  berM            := 69
  berX            := 36
  errorCeiling    := 0
  maxLockDrops    := 0
  marginMode      := .onPass
  dwell           := 4
  tolerance       := 0
  minEyeWidth     := 12
  progressReports := false
  presenceEdges   := .both

/-- A stored pattern (section 3.4): its 2048 bytes, length in blocks, validity map (bit k for block
k) and in-use count. -/
structure Pattern where
  mem    : Memory
  length : Nat
  valid  : BitVec 32
  inUse  : Nat
deriving DecidableEq, Repr

/-- R46: the power-on value of a pattern. -/
def Pattern.powerOn : Pattern := { mem := [], length := 1, valid := 0, inUse := 0 }

/-! ### Lane engines (chapter 4) -/

/-- The power state of a lane (R56). -/
inductive Power where
  | parked
  | waking
  | active
deriving DecidableEq, Repr

/-- The receive state of a lane (R56). -/
inductive RxState where
  | hunt
  | locked
  | dead
deriving DecidableEq, Repr

/-- Polarity (R56). -/
inductive Polarity where
  | normal
  | inverted
deriving DecidableEq, Repr

/-- A source as a header carries it: slot 0..15 and lane 0..3. -/
structure Source where
  slot : BitVec 4
  lane : BitVec 2
deriving DecidableEq, Repr

/-- The kind of a test frame (R60). -/
inductive FrameKind where
  | idle
  | train
  | soak
  | scan
deriving DecidableEq, Repr

/-- The cause of DEAD (R56). -/
inductive DeadCause where
  | relockTimeout
  | sourceChange
deriving DecidableEq, Repr

/-- The checker of a lane (R69). -/
inductive CheckerState where
  | unseeded
  | seeding
  | seeded
deriving DecidableEq, Repr

/-- A lock candidate (R65). -/
structure Candidate where
  source   : Source
  polarity : Polarity
  count    : Nat
deriving DecidableEq, Repr

/-- The first-error capture (R77). -/
structure Capture where
  blocks     : Nat
  frameCount : BitVec 8
  received   : BitVec 32
  expected   : BitVec 32
deriving DecidableEq, Repr

/-- The counters of a lane and its first-error capture (R73 to R77). -/
structure LaneCounters where
  blocks       : Nat
  sub          : Nat
  errors       : Nat
  drops        : Nat
  headerErrors : Nat
  capture      : Option Capture
deriving DecidableEq, Repr

/-- Cleared counters (R74). -/
def LaneCounters.cleared : LaneCounters := ⟨0, 0, 0, 0, 0, none⟩

/-- A test frame as sent: its 48 header bits and 4096 payload bits, the first sent most significant
(R60). -/
structure TestFrame where
  header  : BitVec 48
  payload : BitVec 4096
deriving DecidableEq, Repr

/-- MODEL'S OWN: whether a frame's payload is being received and how its header was found
(R72, R77; log 10). -/
inductive RxFrame where
  /-- no frame's payload is awaited -/
  | none
  /-- the frame whose header completed the lock -/
  | atLock
  /-- a frame whose header place found the lane LOCKED and did not lose lock -/
  | inLock
deriving DecidableEq, Repr

/-- A lane engine (R56). `sending` is the frame on the transmit pair, `none` while the pair carries
no signal. -/
structure Lane where
  power       : Power
  rx          : RxState
  searching   : Bool
  polarity    : Polarity
  source      : Option Source
  candidate   : Option Candidate
  badRun      : Nat
  foreign     : Option (Source × Nat)
  lastKind    : Option FrameKind
  lastCount   : Option (BitVec 8)
  soakRole    : Bool
  soakSource  : Option Source
  fixedPol    : Option Polarity
  deadCause   : Option DeadCause
  relock      : Timer
  txCount     : BitVec 8
  txGen       : BitVec 31
  checker     : CheckerState
  checkReg    : BitVec 31
  position    : Nat
  counters    : LaneCounters
  sending     : Option TestFrame
  rxFrame     : RxFrame
deriving DecidableEq, Repr

/-- R56: the power-on value of a lane. DESIGN CHOICE (log 27): the register of the unseeded checker is 0. -/
def Lane.powerOn : Lane where
  power      := .parked
  rx         := .hunt
  searching  := false
  polarity   := .normal
  source     := none
  candidate  := none
  badRun     := 0
  foreign    := none
  lastKind   := none
  lastCount  := none
  soakRole   := false
  soakSource := none
  fixedPol   := none
  deadCause  := none
  relock     := none
  txCount    := 0
  txGen      := 0
  checker    := .unseeded
  checkReg   := 0
  position   := 0
  counters   := .cleared
  sending    := none
  rxFrame    := .none

/-- The lane state reported in records (R56). -/
inductive LaneState where
  | parked
  | waking
  | hunt
  | locked
  | dead
deriving DecidableEq, Repr

/-! ### Slot contexts (chapter 5) -/

/-- The states of a slot (R79). -/
inductive SlotState where
  | off
  | watch
  | settle
  | discover
  | train
  | soak
  | scan
  | verdict
  | done
deriving DecidableEq, Repr

/-- The codes of findings (R160, chapter 11.2.1). -/
inductive FindingCode where
  | plugSilent
  | plugAnonymous
  | plugUnknown
  | chainBad
  | descriptorNak
  | lineStuck
  | loopCloseFailed
  | plugNarrow
  | laneOpen
  | laneShared
  | laneCrossed
  | laneSwapped
  | laneInverted
  | noUsableLane
  | errorCeiling
  | laneDead
  | sourceUnstable
  | berExceeded
  | berInsufficient
  | lockUnstable
  | scanBroken
  | noEye
  | eyeNarrow
  | removedRepeatedly
  | aborted
  | truncated
deriving DecidableEq, Repr

/-- An entry of a findings list (R160); `failing` is its class. -/
structure Finding where
  code    : FindingCode
  lane    : Option LaneId
  failing : Bool
  value   : Nat
deriving DecidableEq, Repr

/-- The outcome of a slot (R161). -/
inductive Verdict where
  | pass
  | passWithNotes
  | fail
  | aborted
deriving DecidableEq, Repr

/-- A PLUG_ID as taken, with its flags byte (R112, R113). -/
structure PlugId where
  model     : BitVec 16
  revision  : Byte
  serial    : BitVec 32
  laneCount : Nat
  flags     : Byte
deriving DecidableEq, Repr

/-- A lane byte of a LOOP_MAP (R113). -/
structure LoopLane where
  ret     : LaneId
  invert  : Bool
  present : Bool
deriving DecidableEq, Repr

/-- A LOOP_MAP as taken, with its flags byte (R112, R113). -/
structure LoopMap where
  lanes   : Vector LoopLane 4
  control : Nat
  settle  : Nat
  flags   : Byte
deriving DecidableEq, Repr

/-- The plug identity (R115). -/
structure PlugIdentity where
  plugId      : Option PlugId
  loopMap     : Option LoopMap
  descriptors : Nat
deriving DecidableEq, Repr

/-- The ten event flags (R98) in the order of the EVENT record: bit 0 INSERT, bit 1 REMOVE, bits
2..5 LANE_DROP of lanes 0..3, bits 6..9 SOURCE_CHANGE of lanes 0..3. -/
abbrev EventFlags := BitVec 10

/-- The frozen figures of one lane (R137). -/
structure FrozenLane where
  blocks : Nat
  errors : Nat
  drops  : Nat
  state  : LaneState
deriving DecidableEq, Repr

/-- The frozen progress values (R137). -/
structure Frozen where
  checkpoints : Nat
  snapshot    : Bool
  lanes       : Vector FrozenLane 4
deriving DecidableEq, Repr

/-- The final lane state of a lane, with the dead cause of a DEAD lane and the soaked mark (R161). -/
structure FinalLane where
  state  : LaneState
  cause  : Option DeadCause
  soaked : Bool
deriving DecidableEq, Repr

/-! ### Wiring Analyzer and Margin Scanner results (chapters 7 and 9) -/

/-- The classes of the Wiring Map (R118). -/
inductive WireClass where
  | none
  | excluded
  | open
  | shared
  | crossed
  | swapped
  | inverted
  | isMatch
deriving DecidableEq, Repr

/-- A Wiring Map entry (R118). -/
structure WireEntry where
  source   : Option Source
  polarity : Polarity
  cls      : WireClass
deriving DecidableEq, Repr

/-- A cleared entry (R118). -/
def WireEntry.cleared : WireEntry := { source := .none, polarity := .normal, cls := .none }

/-- An entry of the expected map (R118). -/
structure Expected where
  source   : Option Source
  polarity : Polarity
deriving DecidableEq, Repr

/-- The status of a scan result (R147). -/
inductive ScanStatus where
  | empty
  | sweeping
  | complete
deriving DecidableEq, Repr

/-- The scan result of one lane (R147); `broken` holds the break position and cause. -/
structure ScanLane where
  scanned : Bool
  counts  : Vector Nat 32
  width   : Nat
  centre  : Nat
  noEye   : Bool
  broken  : Option (Nat × DeadCause)
deriving DecidableEq, Repr

/-- An unscanned lane (R147). -/
def ScanLane.empty : ScanLane where
  scanned := false
  counts  := Vector.replicate 32 0
  width   := 0
  centre  := 0
  noEye   := false
  broken  := none

/-- The scan result of a slot (R147). -/
structure ScanResult where
  status : ScanStatus
  lanes  : Vector ScanLane 4
deriving DecidableEq, Repr

/-- An EMPTY result (R147). -/
def ScanResult.empty : ScanResult := { status := .empty, lanes := Vector.replicate 4 .empty }

/-- What the part holds for one payload slot: the slot context (R79, R161), its four lane engines
(R56), the Wiring Analyzer's items (R118), the soak record (R134), the scan result (R147) and the
Record Writer's pending marks (R162). -/
structure Slot where
  state           : SlotState
  profile         : Profile
  profileNumber   : Fin 4
  attempts        : Nat
  tracking        : Bool
  present         : Bool
  debounceTimer   : Timer
  stateTimer      : Timer
  abortedMark     : Bool
  outcome         : Option Verdict
  findings        : List Finding
  identity        : Option PlugIdentity
  flags           : EventFlags
  frozen          : Option Frozen
  finals          : Vector FinalLane 4
  lanes           : Vector Lane 4
  plugLanes       : Nat
  expected        : Vector Expected 4
  confirm         : Vector Nat 4
  wiring          : Vector WireEntry 4
  checkpoints     : Nat
  joined          : Bool
  scan            : ScanResult
  progressPending : Bool
  scanPending     : Bool
  verdictPending  : Bool
deriving DecidableEq, Repr

/-- The power-on value of everything held for a slot (R56, R79, R118, R134, R147, R161, R162). -/
def Slot.powerOn : Slot where
  state           := .off
  profile         := .default
  profileNumber   := 0
  attempts        := 0
  tracking        := false
  present         := false
  debounceTimer   := none
  stateTimer      := none
  abortedMark     := false
  outcome         := none
  findings        := []
  identity        := none
  flags           := 0
  frozen          := none
  finals          := Vector.replicate 4 { state := .parked, cause := none, soaked := false }
  lanes           := Vector.replicate 4 .powerOn
  plugLanes       := 4
  expected        := Vector.replicate 4 { source := none, polarity := .normal }
  confirm         := Vector.replicate 4 0
  wiring          := Vector.replicate 4 .cleared
  checkpoints     := 0
  joined          := false
  scan            := .empty
  progressPending := false
  scanPending     := false
  verdictPending  := false

/-! ### Sideband Controller (chapter 6) -/

/-- The direction of a sideband transfer (R103). -/
inductive Direction where
  | read
  | write
deriving DecidableEq, Repr

/-- A host entry (R107). -/
structure HostEntry where
  block     : BlockId
  slot      : SlotId
  direction : Direction
  offset    : Nat
  count     : Nat
  data      : Vector Byte 8
  postWait  : Nat
  clamped   : Bool
deriving DecidableEq, Repr

/-- An entry of the Sideband Queue (R107). -/
inductive SbEntry where
  | discovery (slot : SlotId)
  | host (e : HostEntry)
deriving DecidableEq, Repr

/-- The states of the transaction engine (R108). -/
inductive Phase where
  | idle
  | try
  | recovery
  | retryWait
  | plugSettle
  | postWait
deriving DecidableEq, Repr

/-- The cause of STUCK (R106). -/
inductive StuckCause where
  | clock
  | data
deriving DecidableEq, Repr

/-- A transaction (R103): the line, direction, offset, number of bytes, and the bytes a write sends. -/
structure Txn where
  slot      : SlotId
  direction : Direction
  offset    : Nat
  count     : Nat
  data      : List Byte
deriving DecidableEq, Repr

/-- What the part sends on a line (R102, R103, R106): the framing conditions, the bytes it sends and the
bytes it receives, each with its acknowledgement clock, and what a recovery sends: the release of SBD and
clock pulses. `receive last` is a byte of a read, `last` the last of them. -/
inductive LineItem where
  | start
  | send (b : Byte)
  | repeatedStart
  | receive (last : Bool)
  | stop
  | releaseData
  | clockPulse
deriving DecidableEq, Repr

/-- A try or a recovery that has reached its STOP: the line it used, its speed and what was sent. -/
structure LineUse where
  slot  : SlotId
  speed : Speed
  items : List LineItem
deriving DecidableEq, Repr

/-- How a transaction ended (R103, R105, R106). -/
inductive TxnResult where
  | success (bytes : List Byte)
  | nakAddress
  | nakData (acked : Nat)
  | stuck (cause : StuckCause)
deriving DecidableEq, Repr

/-- Where a discovery walk stands (R111 to R114). `payload` carries the descriptor's offset, type,
next offset, length and flags byte. -/
inductive WalkStage where
  | start
  | head (o : Nat)
  | payload (o type next length : Nat) (flags : Byte)
  | loopWrite
  | settling
deriving DecidableEq, Repr

/-- The working record of a walk (section 6.4): the identity found so far, with the number of
descriptors read, and the findings it will add; the stage holds the current descriptor's offset. -/
structure Walk where
  stage    : WalkStage
  identity : PlugIdentity
  findings : List Finding
deriving DecidableEq, Repr

/-- The transaction engine (R108). `abandoned` marks a try or recovery whose entry was withdrawn or
removed (R109, R110); `wait` is the expiry of RETRY_WAIT, PLUG_SETTLE or POST_WAIT; `result` is the
result a host entry reports when its post-wait ends; `line` is the try or recovery that reached its STOP
last, as it stood on its line (logs 16 and 19). -/
structure Engine where
  phase     : Phase
  txn       : Txn
  tries     : Nat
  speed     : Speed
  cause     : StuckCause
  wait      : Timer
  abandoned : Bool
  walk      : Walk
  result    : Option TxnResult
  line      : Option LineUse
deriving DecidableEq, Repr

/-- The Sideband Controller. -/
structure Sideband where
  queue  : List SbEntry
  engine : Engine
deriving DecidableEq, Repr

/-- A walk that has read nothing (R111). -/
def Walk.fresh : Walk :=
  { stage := .start, identity := { plugId := none, loopMap := none, descriptors := 0 }, findings := [] }

/-- The IDLE engine after power-on reset (R108). What the last transaction left is of no use to it. -/
def Engine.powerOn : Engine where
  phase     := .idle
  txn       := { slot := 0, direction := .read, offset := 0, count := 1, data := [] }
  tries     := 0
  speed     := .khz100
  cause     := .clock
  wait      := none
  abandoned := false
  walk      := .fresh
  result    := none
  line      := none

/-! ### Soak Timebase, Margin Scanner (chapters 8 and 9) -/

/-- The Soak Timebase (R131). -/
structure Timebase where
  prescale        : Nat
  period          : Nat
  postscale       : Nat
  prescalerCount  : Nat
  periodCount     : Nat
  postscalerCount : Nat
deriving DecidableEq, Repr

/-- R131: the power-on value of the timebase. -/
def Timebase.powerOn : Timebase := ⟨1, 1000, 10, 0, 0, 0⟩

/-- The step state of a lane in a sweep (section 9.3). `fresh` is the MODEL'S OWN: the frame being
received had its header examined since the position became current and the lane took its lock
(R151; log 29). -/
inductive StepState where
  | unscanned
  | waitLock
  | dwell (frames errors : Nat) (fresh : Bool)
  | finished
  | broken
deriving DecidableEq, Repr

/-- The sweep of the Scan Queue's head (chapter 9). -/
structure Sweep where
  position : Nat
  steps    : Vector StepState 4
deriving DecidableEq, Repr

/-- The Margin Scanner's queue and sweep state; the scan results stand with their slots. -/
structure Scanner where
  queue : List SlotId
  sweep : Option Sweep
deriving DecidableEq, Repr

/-! ### Record Writer and Attention Unit (chapter 10) -/

/-- The kinds of records (R163). -/
inductive RecordKind where
  | verdict
  | scan
  | progress
  | event
  | status
  | pad
deriving DecidableEq, Repr

/-- A source of records (R165). -/
inductive RecSource where
  | slot (s : SlotId)
  | status
deriving DecidableEq, Repr

/-- The ring's base and size (R162). -/
structure Ring where
  base : Addr
  size : Nat
deriving DecidableEq, Repr

/-- A published, unconsumed record (R162). -/
structure Published where
  offset : Nat
  length : Nat
  kind   : RecordKind
  time   : BitVec 48
deriving DecidableEq, Repr

/-- A selection (R165). -/
structure Selection where
  source : RecSource
  kind   : RecordKind
  length : Nat
deriving DecidableEq, Repr

/-- The record in flight (R162, R167): its pieces not yet acknowledged, the first of them on offer to
the Insert Queue while `joined` is `none` and in the queue at that place otherwise. `flags` are the
event flags moved into an EVENT record (R164). A PAD keeps the source of the selection behind it. -/
structure InFlight where
  source : RecSource
  kind   : RecordKind
  offset : Nat
  length : Nat
  flags  : EventFlags
  pieces : List InsWrite
  joined : Option (Fin 8)
deriving DecidableEq, Repr

/-- The Record Writer (R162). `abandoned` is the place of the abandoned piece (R171). -/
structure Writer where
  ring       : Option Ring
  write      : Nat
  oldest     : Nat
  used       : Nat
  list       : List Published
  seq        : BitVec 16
  broken     : Bool
  lastSource : RecSource
  selection  : Option Selection
  inFlight   : Option InFlight
  abandoned  : Option (Fin 8)
deriving DecidableEq, Repr

/-- R162: the power-on value of the Record Writer. -/
def Writer.powerOn : Writer where
  ring       := none
  write      := 0
  oldest     := 0
  used       := 0
  list       := []
  seq        := 0
  broken     := false
  lastSource := .status
  selection  := none
  inFlight   := none
  abandoned  := none

/-- The age timer (R173, R174): stopped, running with an expiry time, or expired. -/
inductive AgeTimer where
  | stopped
  | running (expiry : BitVec 48)
  | expired
deriving DecidableEq, Repr

/-- An attention word formed and not yet in the Insert Queue (R176). -/
structure AttnWord where
  addr    : Addr
  seq     : BitVec 16
  records : Nat
  reasons : BitVec 3
  count   : BitVec 32
deriving DecidableEq, Repr

/-- The Attention Unit (R173); `mask` is encoded as in SET_ATTENTION. -/
structure Attention where
  lineEnable : Bool
  wordEnable : Bool
  address    : Addr
  mask       : BitVec 6
  threshold  : Nat
  delay      : Nat
  condition  : Bool
  count      : BitVec 32
  age        : AgeTimer
  waiting    : Option AttnWord
deriving DecidableEq, Repr

/-- R173: the power-on value of the Attention Unit. -/
def Attention.powerOn : Attention where
  lineEnable := false
  wordEnable := false
  address    := 0
  mask       := 0x1F
  threshold  := 1
  delay      := 0
  condition  := false
  count      := 0
  age        := .stopped
  waiting    := none

/-! ### The whole part -/

/-- The state of the part, and the queue of the commands that wait. -/
structure State where
  /-- the 48-bit µs counter -/
  us         : BitVec 48
  /-- PRST_N is asserted -/
  prst       : Bool
  /-- PORST_N is asserted -/
  porst      : Bool
  /-- PRES_N is at its asserted (low) level, for each slot -/
  presN      : Vector Bool 12
  /-- the energy detector indicates signal present, for each receive lane (R59) -/
  energy     : Vector (Vector Bool 4) 12
  path       : Path
  decoder    : Decoder
  profiles   : Vector Profile 4
  patterns   : Vector Pattern 4
  slots      : Vector Slot 12
  sideband   : Sideband
  timebase   : Timebase
  scanner    : Scanner
  writer     : Writer
  attention  : Attention
  /-- MODEL'S OWN: how many free values of `Config` have been taken (logs 8 and 9) -/
  freeCount  : Nat
  /-- the commands that wait, first in, first out -/
  pending    : List Instr
deriving DecidableEq, Repr

/-- Window 0 for a sampled WBASE (R4): role COMMAND, 4 KiB, base WBASE × 65,536. -/
def Window.command (wbase : BitVec 16) : Window :=
  { base := BitVec.ofNat 40 (wbase.toNat * 65536), size := 4096, role := .command, pattern := 0 }

/-- The Window Table after reset, with window 0 as given (R4). -/
def windowsAfterReset (w0 : Window) : Vector Window 8 :=
  #v[w0, .none, .none, .none, .none, .none, .none, .none]

/-- The memory path after power-on reset with nothing awaiting a response (R17). -/
def Path.powerOn (w0 : Window) : Path where
  fwd         := []
  out         := []
  ins         := []
  arbCount    := 0
  lastServed  := .attention
  nextArrival := 0
  windows     := windowsAfterReset w0
  memOut      := none
  sysOut      := none

/-- R42: the Command Decoder after power-on reset. -/
def Decoder.powerOn : Decoder :=
  { backlog := [], outstanding := [], statusPending := false, counts := .zero }

/-- The part right after power-on reset: PORST_N just released, with the straps at WBASE = 0, no plug
present, no line signal and no command waiting (log 5). -/
def State.reset : State where
  us         := 0
  prst       := false
  porst      := false
  presN      := Vector.replicate 12 false
  energy     := Vector.replicate 12 (Vector.replicate 4 false)
  path       := .powerOn (.command 0)
  decoder    := .powerOn
  profiles   := Vector.replicate 4 .default
  patterns   := Vector.replicate 4 .powerOn
  slots      := Vector.replicate 12 .powerOn
  sideband   := { queue := [], engine := .powerOn }
  timebase   := .powerOn
  scanner    := { queue := [], sweep := none }
  writer     := .powerOn
  attention  := .powerOn
  freeCount  := 0
  pending    := []

end Sys2Proof.Machine
end

