-- ==== Sys2Proof/Machine/Operands.lean ====
section
/-! DEFINITION. Operand forms: byte ranges, windows, masks and selectors, clamped fields, timers, the
bytes of completion and attention words, and the fields of a profile as a block gives them. -/

namespace Sys2Proof.Machine

open Sys2Proof

/-! ### Ranges and classification (R1, R5 to R7) -/

/-- The byte range that starts at `a` with `n` bytes shares a byte with the one at `b` with `m`. -/
def rangesOverlap (a n b m : Nat) : Bool := decide (a < b + m) && decide (b < a + n)

/-- R5: the first and last byte of the request lie in different 4 KiB pages. -/
def crossing (r : Request) : Bool :=
  decide (r.addr.toNat / 4096 ≠ (r.addr.toNat + 16 * r.beats - 1) / 4096)

/-- A window whose role is not OFF is enabled (R4). -/
def Window.enabled (w : Window) : Bool := decide (w.role ≠ .off)

/-- The address lies in the enabled window. -/
def Window.holds (w : Window) (a : Nat) : Bool :=
  w.enabled && decide (w.base.toNat ≤ a) && decide (a < w.base.toNat + w.size)

/-- The number of the lowest enabled window that holds the address. Windows do not overlap (R4), so
there is at most one. -/
def windowAt (ws : Vector Window 8) (a : Nat) : Option (Fin 8) :=
  ([0, 1, 2, 3, 4, 5, 6, 7] : List (Fin 8)).find? fun i => (ws[i.val]).holds a

/-- The enabled bytes of a WRITE, each with its byte offset from the start of `base`. -/
def enabledBytes (r : Request) (base : Nat) : List (Nat × Byte) :=
  ((List.range r.data.length).zip (r.data.zip r.enables)).filterMap fun (i, b, e) =>
    if e then some (r.addr.toNat - base + i, b) else none

/-- The bytes of `bytes` (offset and byte) that lie in the 64-byte block `k`. -/
def bytesOfBlock (bytes : List (Nat × Byte)) (k : Nat) : List (Nat × Byte) :=
  bytes.filter fun p => decide (p.1 / 64 = k)

/-- All 64 bytes of block `k` are among the enabled bytes (R6, R47). -/
def blockCovered (bytes : List (Nat × Byte)) (k : Nat) : Bool :=
  decide ((bytesOfBlock bytes k).length = 64)

/-- At least one byte of block `k` is enabled, but not all 64 (R6, R47). -/
def blockPartly (bytes : List (Nat × Byte)) (k : Nat) : Bool :=
  !(bytesOfBlock bytes k).isEmpty && !blockCovered bytes k

/-- The blocks 0..63 of the command window in ascending order. -/
def allBlocks : List Nat := List.range 64

/-- The blocks 0..31 of a pattern in ascending order. -/
def patternBlocks : List Nat := List.range 32

/-- R5 to R8: the classification of a request against the Window Table. -/
def classify (ws : Vector Window 8) (r : Request) : Class :=
  if crossing r then .plain
  else
    match windowAt ws r.addr.toNat with
    | none => .plain
    | some i =>
      let w := ws[i.val]
      let bytes := match r.kind with
        | .read => []
        | .write => enabledBytes r w.base.toNat
      match w.role with
      | .command =>
        { role := .command, window := i, pattern := w.pattern,
          covered := (allBlocks.filter (blockCovered bytes)).map fun k =>
            (BitVec.ofNat 6 k, (bytesOfBlock bytes k).map Prod.snd),
          partly := allBlocks.any (blockPartly bytes), capture := [] }
      | .pattern =>
        { role := .pattern, window := i, pattern := w.pattern, covered := [], partly := false,
          capture := bytes.filter fun p => decide (p.1 < 2048) }
      | .report =>
        { role := .report, window := i, pattern := w.pattern, covered := [], partly := false,
          capture := [] }
      | .off => .plain

/-! ### Masks and selectors -/

/-- The slots a slot mask names, in ascending order (R18). -/
def slotsOf (mask : BitVec 16) : List SlotId := allSlots.filter fun s => mask.getLsbD s.val

/-- The mask of a list of slots. -/
def maskOf (slots : List SlotId) : BitVec 32 :=
  slots.foldl (fun m s => m ||| (1#32 <<< s.val)) 0

/-- R25 reason 3: the mask is 0 or has a bit set for slot 12..15. -/
def badMask (mask : BitVec 16) : Bool := decide (mask = 0) || decide (mask.toNat ≥ 4096)

/-- The lanes a lane mask names, in ascending order. -/
def lanesOf (mask : BitVec 4) : List LaneId := allLanes.filter fun l => mask.getLsbD l.val

/-- The profile or pattern a selector in range names. -/
def sel4 (selector : BitVec 16) : Fin 4 := Fin.ofNat 4 selector.toNat

/-- The slot a selector in range names. -/
def sel12 (selector : BitVec 16) : SlotId := Fin.ofNat 12 selector.toNat

/-- The window a selector in range names. -/
def sel8 (selector : BitVec 16) : Fin 8 := Fin.ofNat 8 selector.toNat

/-- The first check whose condition holds, with its reason code and extra (R22 step 4). -/
def firstFault : List (Bool × Nat × Nat) → Option (Nat × Nat)
  | [] => none
  | (bad, reason, extra) :: rest => if bad then some (reason, extra) else firstFault rest

/-! ### Clamping (R29) -/

/-- The value brought into `lo..hi`. -/
def clamp (lo hi v : Nat) : Nat := if v < lo then lo else if hi < v then hi else v

/-- 1 if the value lies outside `lo..hi` and so is clamped, else 0. -/
def clampCount (lo hi v : Nat) : Nat := if v < lo ∨ hi < v then 1 else 0

/-- The yes/no field as a truth value. -/
def isYes (b : Byte) : Bool := decide (b = 1)

/-- The rate of its encoding (chapter 11.1). -/
def Rate.ofByte (b : Byte) : Rate := if b = 0 then .a else if b = 1 then .b else .c

/-- The payload of its encoding (chapter 11.1). -/
def Payload.ofByte (b : Byte) : Payload :=
  if b = 0 then .prbs7 else if b = 1 then .prbs15 else if b = 2 then .prbs23
  else if b = 3 then .prbs31 else .pattern (Fin.ofNat 4 (b.toNat - 4))

/-- The presence source of its encoding (chapter 11.1). -/
def PresenceSource.ofByte (b : Byte) : PresenceSource :=
  if b = 0 then .pin else if b = 1 then .signal else .either

/-- The margin mode of its encoding (chapter 11.1). -/
def MarginMode.ofByte (b : Byte) : MarginMode :=
  if b = 0 then .off else if b = 1 then .onPass else .always

/-- The presence edges of their encoding (chapter 11.1). -/
def PresenceEdges.ofByte (b : Byte) : PresenceEdges :=
  if b = 0 then .none else if b = 1 then .insert else if b = 2 then .remove else .both

/-- R44: the profile a SET_PROFILE's parameters give, each number clamped as R29 states. -/
def Profile.ofParams (p : ProfileParams) : Profile where
  laneMask        := p.laneMask.setWidth 4
  rate            := .ofByte p.rate
  payload         := .ofByte p.payload
  presenceSource  := .ofByte p.presenceSource
  debounce        := clamp 1 255 p.debounce.toNat
  settle          := clamp 1 255 p.settle.toNat
  plugPolicy      := if p.plugPolicy = 0 then .requireDescriptor else .acceptAnonymous
  sidebandSpeed   := if p.sidebandSpeed = 0 then .khz100 else .khz400
  trainTimeout    := clamp 1 255 p.trainTimeout.toNat
  relockTimeout   := clamp 1 65535 p.relockTimeout.toNat
  allowInversion  := isYes p.allowInversion
  allowReorder    := isYes p.allowReorder
  stopOnFail      := isYes p.stopOnFail
  soakLength      := clamp 1 255 p.soakLength.toNat
  berM            := clamp 1 255 p.berM.toNat
  berX            := clamp 16 47 p.berX.toNat
  errorCeiling    := clamp 0 65535 p.errorCeiling.toNat
  maxLockDrops    := clamp 0 255 p.maxLockDrops.toNat
  marginMode      := .ofByte p.marginMode
  dwell           := clamp 1 64 p.dwell.toNat
  tolerance       := clamp 0 15 p.tolerance.toNat
  minEyeWidth     := clamp 1 32 p.minEyeWidth.toNat
  progressReports := isYes p.progressReports
  presenceEdges   := .ofByte p.presenceEdges

/-- R29: how many fields of a SET_PROFILE are clamped. -/
def profileClamps (p : ProfileParams) : Nat :=
  clampCount 1 255 p.debounce.toNat + clampCount 1 255 p.settle.toNat +
  clampCount 1 255 p.trainTimeout.toNat + clampCount 1 65535 p.relockTimeout.toNat +
  clampCount 1 255 p.soakLength.toNat + clampCount 1 255 p.berM.toNat +
  clampCount 16 47 p.berX.toNat + clampCount 0 65535 p.errorCeiling.toNat +
  clampCount 0 255 p.maxLockDrops.toNat + clampCount 1 64 p.dwell.toNat +
  clampCount 0 15 p.tolerance.toNat + clampCount 1 32 p.minEyeWidth.toNat

/-- R31: an enumerated field of a SET_PROFILE holds no defined value. The order of the fields makes no
difference, since each gives reason 4. -/
def profileBadEnum (p : ProfileParams) : Bool :=
  decide (p.rate.toNat > 2) || decide (p.payload.toNat > 7) || decide (p.presenceSource.toNat > 2) ||
  decide (p.plugPolicy.toNat > 1) || decide (p.sidebandSpeed.toNat > 1) ||
  decide (p.allowInversion.toNat > 1) || decide (p.allowReorder.toNat > 1) ||
  decide (p.stopOnFail.toNat > 1) || decide (p.marginMode.toNat > 2) ||
  decide (p.progressReports.toNat > 1) || decide (p.presenceEdges.toNat > 3)

/-! ### Timers -/

/-- The expiry time `d` µs after `now`, on the 48-bit µs counter. -/
def timerAfter (now : BitVec 48) (d : Nat) : Timer := some (now + BitVec.ofNat 48 d)

/-- The µs counter has reached `expiry`: the distance from it, on the wrapping counter, is less than
half the counter's range (log 3). -/
def reached (now expiry : BitVec 48) : Bool := decide ((now - expiry).toNat < 2 ^ 47)

/-- The timer is running and its expiry time has come (log 3), which a checkpoint of the same microsecond precedes
(log 43). -/
def timerDue (now : BitVec 48) : Timer → Bool
  | none => false
  | some e => reached now e

/-! ### Words the part writes (chapter 11, R179) -/

/-- The status byte of a completion word (chapter 11.1). -/
def Status.byte : Status → Byte
  | .done => 0x01
  | .doneClamped => 0x02
  | .noEffect => 0x03
  | .refusedState => 0x10
  | .refusedBusy => 0x11
  | .blockBusy => 0x12
  | .badParam => 0x20
  | .unknown => 0x21
  | .sidebandNak => 0x30
  | .sidebandStuck => 0x31

/-- R24: the statuses that count as refusals (R41). -/
def Status.refusal : Status → Bool
  | .refusedState | .refusedBusy | .blockBusy | .badParam | .unknown => true
  | .done | .doneClamped | .noEffect | .sidebandNak | .sidebandStuck => false

/-- The 8 bytes of a completion word (chapter 11.1). -/
def Completion.word (c : Completion) : List Byte :=
  leBytes 2 c.tag.toNat ++ [c.status.byte, c.detail] ++ leBytes 4 c.extra.toNat

/-- R24: the one-beat inserted write of a completion: enables on beat bytes 8..15, or on all 16 with
sideband data. -/
def Completion.write (c : Completion) : InsWrite where
  addr  := c.addr
  bytes :=
    (match c.data with
     | none => List.replicate 8 none
     | some d => d.toList.map some) ++ c.word.map some

/-- The 16 bytes of an attention word (chapter 11.2.4). -/
def AttnWord.bytes (w : AttnWord) : List Byte :=
  leBytes 2 w.seq.toNat ++ leBytes 2 w.records ++ [w.reasons.setWidth 8] ++ zeroBytes 3 ++
    leBytes 4 w.count.toNat ++ zeroBytes 4

/-- R176: the one-beat inserted write of an attention word, all enables set. -/
def AttnWord.write (w : AttnWord) : InsWrite := { addr := w.addr, bytes := w.bytes.map some }

/-- R24: the address of the completion write of block `n`. -/
def completionAddr (w0 : Window) (n : BlockId) : Addr :=
  w0.base + BitVec.ofNat 40 (64 * n.toNat + 48)

/-- The 9-bit ID of a request on the memory port (R1): the top bit tells inserted writes. -/
def MemRequest.id : MemRequest → BitVec 9
  | .forwarded r => r.id.setWidth 9
  | .inserted p _ => BitVec.ofNat 9 (256 + p.val)

/-- The beats of an inserted write (R10). -/
def InsWrite.beats (w : InsWrite) : Nat := w.bytes.length / 16

end Sys2Proof.Machine
end

