-- ==== Sys2Proof/Machine/Flags.lean ====
section
/-! DEFINITION. Flags, counts and findings: the event flags, saturating counts, the findings list and
the outcome composed from it. -/

namespace Sys2Proof.Machine

open Sys2Proof

/-! ### Saturating counts -/

/-- A count incremented by `n` that stops at `max`. -/
def satAdd (max n v : Nat) : Nat := min (v + n) max

/-- The maximum of a 32-bit count: 4,294,967,295. -/
def max32 : Nat := 4294967295

/-- A 32-bit saturating count incremented (R41). -/
def bump (v : Nat) : Nat := satAdd max32 1 v

/-! ### Event flags (R98) -/

/-- The INSERT flag. -/
def EventFlags.insert : EventFlags := 1#10

/-- The REMOVE flag. -/
def EventFlags.remove : EventFlags := 2#10

/-- The LANE_DROP flag of lane `l`. -/
def EventFlags.laneDrop (l : LaneId) : EventFlags := 1#10 <<< (2 + l.val)

/-- The SOURCE_CHANGE flag of lane `l`. -/
def EventFlags.sourceChange (l : LaneId) : EventFlags := 1#10 <<< (6 + l.val)

/-- R82: the profile copy asks for the INSERT edge. -/
def PresenceEdges.reportsInsert : PresenceEdges → Bool
  | .insert | .both => true
  | .none | .remove => false

/-- R83: the profile copy asks for the REMOVE edge. -/
def PresenceEdges.reportsRemove : PresenceEdges → Bool
  | .remove | .both => true
  | .none | .insert => false

/-! ### Findings (R160) -/

/-- The code of a finding in records (chapter 11.2.1). -/
def FindingCode.byte : FindingCode → Byte
  | .plugSilent => 0x01
  | .plugAnonymous => 0x02
  | .plugUnknown => 0x03
  | .chainBad => 0x04
  | .descriptorNak => 0x05
  | .lineStuck => 0x06
  | .loopCloseFailed => 0x07
  | .plugNarrow => 0x10
  | .laneOpen => 0x11
  | .laneShared => 0x12
  | .laneCrossed => 0x13
  | .laneSwapped => 0x14
  | .laneInverted => 0x15
  | .noUsableLane => 0x16
  | .errorCeiling => 0x20
  | .laneDead => 0x21
  | .sourceUnstable => 0x22
  | .berExceeded => 0x23
  | .berInsufficient => 0x24
  | .lockUnstable => 0x25
  | .scanBroken => 0x30
  | .noEye => 0x31
  | .eyeNarrow => 0x32
  | .removedRepeatedly => 0x40
  | .aborted => 0x41
  | .truncated => 0x7F

/-- The last entry of the list is TRUNCATED. -/
def endsTruncated (fs : List Finding) : Bool :=
  match fs.getLast? with
  | some f => decide (f.code = .truncated)
  | none => false

/-- An entry with the same code and the same lane, or with the same code and no lane where the finding
has none, is in the list. -/
def sameFinding (fs : List Finding) (f : Finding) : Bool :=
  fs.any fun g => decide (g.code = f.code) && decide (g.lane = f.lane)

/-- R160: the addition of a finding to a findings list, its four steps in order. -/
def addFinding (fs : List Finding) (f : Finding) : List Finding :=
  if endsTruncated fs then fs
  else if sameFinding fs f then fs
  else if 15 ≤ fs.length then
    fs ++ [{ code := .truncated, lane := none, failing := false, value := f.code.byte.toNat }]
  else fs ++ [f]

/-- Findings added one after another. -/
def addFindings (fs : List Finding) (more : List Finding) : List Finding :=
  more.foldl addFinding fs

/-- The list holds a FAILING entry. -/
def hasFailing (fs : List Finding) : Bool := fs.any fun f => f.failing

/-- R161: the outcome composed from the aborted mark and the findings list. -/
def composeOutcome (abortedMark : Bool) (fs : List Finding) : Verdict :=
  if abortedMark then .aborted
  else if hasFailing fs then .fail
  else if fs.any fun f => !f.failing then .passWithNotes
  else .pass

end Sys2Proof.Machine
end

