-- ==== Sys2Proof/Machine/Ops.lean ====
section
/-! DEFINITION. The named operations over the byte stores and over the parts of the state: reading and
writing a store, a slot and its lanes, completion words, decoder counts, claims on patterns, presence
and the status of the two reset pins. -/

namespace Sys2Proof.Machine

open Sys2Proof

/-! ### Byte stores -/

/-- The byte at `a`: the listed one, else 0 (R46). -/
def Memory.read : Memory → Nat → Byte
  | [], _ => 0
  | (a, b) :: m, x => if a = x then b else Memory.read m x

/-- The store with the byte `v` at `x`, in canonical form. -/
def Memory.write : Memory → Nat → Byte → Memory
  | [], x, v => if v = 0 then [] else [(x, v)]
  | (a, b) :: m, x, v =>
    if x < a then (if v = 0 then (a, b) :: m else (x, v) :: (a, b) :: m)
    else if x = a then (if v = 0 then m else (x, v) :: m)
    else (a, b) :: Memory.write m x v

/-- Bytes written one after another, each at its address. -/
def Memory.writes (m : Memory) (bytes : List (Nat × Byte)) : Memory :=
  bytes.foldl (fun m p => Memory.write m p.1 p.2) m

/-- Every address listed is at least `lo`, addresses rise strictly and no listed byte is 0. -/
def Memory.wfFrom : Nat → Memory → Bool
  | _, [] => true
  | lo, (a, b) :: m => decide (lo ≤ a) && decide (b ≠ 0) && Memory.wfFrom (a + 1) m

/-- The canonical form of a byte store. -/
def Memory.wf (m : Memory) : Bool := Memory.wfFrom 0 m

/-! ### Slots and lanes -/

/-- What the part holds for slot `i`. -/
def State.slot (s : State) (i : SlotId) : Slot := s.slots[i.val]

/-- The state with `x` held for slot `i`. -/
def State.withSlot (s : State) (i : SlotId) (x : Slot) : State :=
  { s with slots := s.slots.set i.val x }

/-- The state with what slot `i` holds changed by `f`. -/
def State.modSlot (s : State) (i : SlotId) (f : Slot → Slot) : State := s.withSlot i (f (s.slot i))

/-- Lane engine `l` of a slot. -/
def Slot.lane (sl : Slot) (l : LaneId) : Lane := sl.lanes[l.val]

/-- The slot with lane engine `l` replaced. -/
def Slot.withLane (sl : Slot) (l : LaneId) (x : Lane) : Slot :=
  { sl with lanes := sl.lanes.set l.val x }

/-- Four values made lane by lane. -/
def byLane {α : Type} (f : LaneId → α) : Vector α 4 := #v[f 0, f 1, f 2, f 3]

/-- The slot with each lane engine changed by `f`. -/
def Slot.mapLanes (sl : Slot) (f : LaneId → Lane → Lane) : Slot :=
  { sl with lanes := byLane fun l => f l (sl.lane l) }

/-- The lane is in the lane mask of the slot's profile copy. -/
def Slot.inMask (sl : Slot) (l : LaneId) : Bool := sl.profile.laneMask.getLsbD l.val

/-- The slot is in one of the states SETTLE, DISCOVER, TRAIN, SOAK and SCAN. -/
def SlotState.testing : SlotState → Bool
  | .settle | .discover | .train | .soak | .scan => true
  | .off | .watch | .verdict | .done => false

/-- Either reset pin is asserted (R16, R17). -/
def State.inReset (s : State) : Bool := s.prst || s.porst

/-! ### Presence (R80, R81) -/

/-- R80: the raw presence input of slot `i`. -/
def rawPresence (s : State) (i : SlotId) : Bool :=
  let pin := s.presN[i.val]
  let signal := (s.energy[i.val])[0]
  match (s.slot i).profile.presenceSource with
  | .pin => pin
  | .signal => signal
  | .either => pin || signal

/-- The debounce timer started for the full debounce time of the profile copy (R81). -/
def debounceStart (now : BitVec 48) (p : Profile) : Timer := timerAfter now (p.debounce * 1000)

/-- R81: what a change of the raw presence input of slot `i` from `before` to its present value does.
While presence tracking is off the raw input is not examined (R80), nor while PORST_N is asserted
(R101). -/
def rawChanged (i : SlotId) (before : Bool) (s : State) : State :=
  let sl := s.slot i
  if s.porst || !sl.tracking || decide (rawPresence s i = before) then s
  else
    s.modSlot i fun sl =>
      { sl with debounceTimer :=
          if rawPresence s i = sl.present then none else debounceStart s.us sl.profile }

/-- R92: presence tracking restarted for slot `i`. -/
def restartPresence (i : SlotId) (s : State) : State :=
  s.modSlot i fun sl =>
    { sl with
      tracking := true
      present := false
      debounceTimer := if rawPresence s i then debounceStart s.us sl.profile else none }

/-! ### Claims on patterns (R54) -/

/-- The pattern a payload names. -/
def Payload.pattern? : Payload → Option (Fin 4)
  | .pattern n => some n
  | .prbs7 | .prbs15 | .prbs23 | .prbs31 => none

/-- The state with pattern `n` changed by `f`. -/
def State.modPattern (s : State) (n : Fin 4) (f : Pattern → Pattern) : State :=
  { s with patterns := s.patterns.set n.val (f (s.patterns[n.val])) }

/-- R54: slot `i` takes a claim on the pattern its copy names, if it names one. -/
def takeClaim (i : SlotId) (s : State) : State :=
  match (s.slot i).profile.payload.pattern? with
  | none => s
  | some n => s.modPattern n fun p => { p with inUse := p.inUse + 1 }

/-- R54: slot `i` releases its claim on the pattern its copy names, if it names one. -/
def releaseClaim (i : SlotId) (s : State) : State :=
  match (s.slot i).profile.payload.pattern? with
  | none => s
  | some n => s.modPattern n fun p => { p with inUse := p.inUse - 1 }

/-- R52: blocks 0..L−1 of a pattern of length L are all valid. -/
def Pattern.usable (p : Pattern) : Bool := (List.range p.length).all fun k => p.valid.getLsbD k

/-! ### Decoder counts and completions (R26, R41) -/

/-- The state with the decoder counts changed by `f`. -/
def State.modCounts (s : State) (f : Counts → Counts) : State :=
  { s with decoder := { s.decoder with counts := f s.decoder.counts } }

/-- The inserted writes failed count incremented (R28, R170, R176). -/
def insertedFailed (s : State) : State :=
  s.modCounts fun c => { c with insertedWritesFailed := bump c.insertedWritesFailed }

/-- R26: the backlog with a new word placed: at the end where its block has no place, folded away where
its block's SIDEBAND completion waits, else in the place of the word that waits. -/
def placeCompletion (backlog : List Completion) (c : Completion) : List Completion :=
  if backlog.any fun d => decide (d.block = c.block) then
    backlog.map fun d => if d.block = c.block ∧ d.fromSideband = false then c else d
  else backlog ++ [c]

/-- The completion word created for block `n` (R24): it addresses window 0 as it stands. -/
def complete (n : BlockId) (tag : BitVec 16) (status : Status) (detail : Nat) (extra : BitVec 32)
    (data : Option (Vector Byte 8)) (fromSideband : Bool) (s : State) : State :=
  let c : Completion :=
    { block := n, addr := completionAddr (s.path.windows[0]) n, tag := tag, status := status,
      detail := BitVec.ofNat 8 detail, extra := extra, data := data, fromSideband := fromSideband }
  { s with decoder := { s.decoder with backlog := placeCompletion s.decoder.backlog c } }

/-- The tag of the SIDEBAND command outstanding in block `n` (R23). -/
def outstandingTag (d : Decoder) (n : BlockId) : Option (BitVec 16) :=
  (d.outstanding.find? fun p => decide (p.1 = n)).map Prod.snd

end Sys2Proof.Machine
end

