-- ==== Sys2Proof/Machine/Frame.lean ====
section
/-! DEFINITION. The test frame and the lane engine (chapter 4): the header and its CRC, the payload
generators, the receiver in HUNT and in LOCKED, the checker and the counters. Everything here is about
one lane. -/

namespace Sys2Proof.Machine

open Sys2Proof

/-! ### The header (R60, chapter 11.3) -/

/-- The sync marker. -/
def syncMarker : BitVec 24 := 0xD29C4B#24

/-- The encoding of a frame kind. -/
def FrameKind.code : FrameKind → BitVec 2
  | .idle => 0
  | .train => 1
  | .soak => 2
  | .scan => 3

/-- The frame kind of its encoding. -/
def FrameKind.ofCode (c : BitVec 2) : FrameKind :=
  if c = 0 then .idle else if c = 1 then .train else if c = 2 then .soak else .scan

/-- R60: one step of the CRC register for an incoming bit. -/
def crcStep (reg : BitVec 8) (bit : Bool) : BitVec 8 :=
  if bit = reg.msb then reg <<< 1 else (reg <<< 1) ^^^ 0x07#8

/-- The CRC register after the low `n` bits of `v`, the highest of them first. -/
def crcBits : Nat → BitVec 40 → BitVec 8 → BitVec 8
  | 0, _, reg => reg
  | n + 1, v, reg => crcBits n v (crcStep reg (v.getLsbD n))

/-- The CRC-8 over the 40 bits of fields 1..5. -/
def crc8 (v : BitVec 40) : BitVec 8 := crcBits 40 v 0

/-- The 48 header bits of a frame, the first sent most significant. -/
def headerBits (src : Source) (kind : FrameKind) (count : BitVec 8) : BitVec 48 :=
  let fields : BitVec 40 := syncMarker ++ (src.slot ++ (src.lane ++ (kind.code ++ count)))
  fields ++ crc8 fields

/-- What a good header carries. -/
structure Header where
  source : Source
  kind   : FrameKind
  count  : BitVec 8
deriving DecidableEq, Repr

/-- R60: the header that 48 received bits hold, if they are a good header. -/
def goodHeader (bits : BitVec 48) : Option Header :=
  if bits.extractLsb' 24 24 = syncMarker ∧ bits.extractLsb' 0 8 = crc8 (bits.extractLsb' 8 40) then
    some { source := { slot := bits.extractLsb' 20 4, lane := bits.extractLsb' 18 2 }
           kind := .ofCode (bits.extractLsb' 16 2)
           count := bits.extractLsb' 8 8 }
  else none

/-- Received bits after the polarity is applied (R65): INVERTED inverts every bit. -/
def applyPolarity {w : Nat} (p : Polarity) (bits : BitVec w) : BitVec w :=
  match p with
  | .normal => bits
  | .inverted => ~~~bits

/-- The source a transmit lane puts in its headers (R60). -/
def laneSource (i : SlotId) (l : LaneId) : Source :=
  { slot := BitVec.ofNat 4 i.val, lane := BitVec.ofNat 2 l.val }

/-- A source as records and findings hold it: 4 × slot + lane. -/
def Source.code (src : Source) : Nat := 4 * src.slot.toNat + src.lane.toNat

/-! ### Payload (R62, R63) -/

/-- R62: the register length k and tap j of a PRBS payload. -/
def Payload.prbs? : Payload → Option (Nat × Nat)
  | .prbs7 => some (7, 6)
  | .prbs15 => some (15, 14)
  | .prbs23 => some (23, 18)
  | .prbs31 => some (31, 28)
  | .pattern _ => none

/-- The payload is generated from a shift register. -/
def Payload.isPrbs (p : Payload) : Bool := p.prbs?.isSome

/-- R62 step 1: the exclusive-or of register bits k and j. -/
def prbsOut (k j : Nat) (reg : BitVec 31) : Bool := reg.getLsbD (k - 1) != reg.getLsbD (j - 1)

/-- R62 step 2: bits k..2 take bits k−1..1 and bit 1 takes `bit`. Bits above k stay 0. -/
def prbsShift (k : Nat) (reg : BitVec 31) (bit : Bool) : BitVec 31 :=
  ((reg <<< 1) ||| (BitVec.ofBool bit).setWidth 31) &&& BitVec.ofNat 31 (2 ^ k - 1)

/-- The next `n` bits of the sequence, appended below `acc`, and the register after them. -/
def prbsBits (k j : Nat) : Nat → BitVec 31 → BitVec 4096 → BitVec 4096 × BitVec 31
  | 0, reg, acc => (acc, reg)
  | n + 1, reg, acc =>
    let b := prbsOut k j reg
    prbsBits k j n (prbsShift k reg b) ((acc <<< 1) ||| (BitVec.ofBool b).setWidth 4096)

/-- R62: the seed of lane (s, l), 1 + 4s + l. -/
def laneSeed (i : SlotId) (l : LaneId) : BitVec 31 := BitVec.ofNat 31 (1 + 4 * i.val + l.val)

/-- R63: bit `o` of a pattern: bit 7 − (o mod 8) of byte floor(o / 8). -/
def patternBit (m : Memory) (o : Nat) : Bool := (Memory.read m (o / 8)).getLsbD (7 - o % 8)

/-- The next `n` bits of a pattern's span from offset `o`, appended below `acc`. -/
def patternBits (m : Memory) (span : Nat) : Nat → Nat → BitVec 4096 → BitVec 4096
  | 0, _, acc => acc
  | n + 1, o, acc =>
    patternBits m span n ((o + 1) % span)
      ((acc <<< 1) ||| (BitVec.ofBool (patternBit m o)).setWidth 4096)

/-- R63: the payload of a frame with count `c` on pattern `p`. -/
def patternPayload (p : Pattern) (c : BitVec 8) : BitVec 4096 :=
  patternBits p.mem (p.length * 512) 4096 ((c.toNat * 4096) % (p.length * 512)) 0

/-- The payload a transmitter sends in the frame with count `c`, its generator at `gen`. -/
def txPayload (pl : Payload) (pats : Vector Pattern 4) (gen : BitVec 31) (c : BitVec 8) :
    BitVec 4096 :=
  match pl with
  | .pattern n => patternPayload (pats[n.val]) c
  | pl => match pl.prbs? with
    | some (k, j) => (prbsBits k j 4096 gen 0).1
    | none => 0

/-- The generator after one frame's payload. -/
def txAdvance (pl : Payload) (gen : BitVec 31) : BitVec 31 :=
  match pl.prbs? with
  | some (k, j) => (prbsBits k j 4096 gen 0).2
  | none => gen

/-! ### Power (R57, R58) and transmission (R61) -/

/-- R56: the lane state reported in records. -/
def Lane.reported (x : Lane) : LaneState :=
  match x.power with
  | .parked => .parked
  | .waking => .waking
  | .active => match x.rx with
    | .hunt => .hunt
    | .locked => .locked
    | .dead => .dead

/-- R58: the lane parks, its counters and first-error capture kept; a PARKED lane stays as it is.
DESIGN CHOICE (log 27): the register of its unseeded checker is 0, as after power-on reset. -/
def Lane.park (x : Lane) : Lane :=
  if x.power = .parked then x else { Lane.powerOn with counters := x.counters }

/-- R57: a PARKED lane (s, l) wakes and begins a frame of kind IDLE. -/
def Lane.wake (i : SlotId) (l : LaneId) (pl : Payload) (pats : Vector Pattern 4) (x : Lane) : Lane :=
  if x.power = .parked then
    let gen := if pl.isPrbs then laneSeed i l else x.txGen
    { x with
      power := .waking
      rx := .hunt
      searching := false
      checker := .unseeded
      txCount := 0
      txGen := gen
      sending := some { header := headerBits (laneSource i l) .idle 0
                        payload := txPayload pl pats gen 0 } }
  else x

/-- R57: a WAKING lane becomes ACTIVE and its receiver begins searching. -/
def Lane.activate (x : Lane) : Lane :=
  if x.power = .waking then { x with power := .active, rx := .hunt, searching := true } else x

/-- R61: the kind of the frames a slot sends in its state. -/
def SlotState.frameKind : SlotState → Option FrameKind
  | .settle | .discover => some .idle
  | .train => some .train
  | .soak => some .soak
  | .scan => some .scan
  | .off | .watch | .verdict | .done => none

/-- R61, R62: the transmitter of lane (s, l) begins its next frame. The generator stands at the first
payload bit of the frame being sent, so it moves past the payload of the frame that has ended. -/
def Lane.nextFrame (i : SlotId) (l : LaneId) (kind : FrameKind) (pl : Payload)
    (pats : Vector Pattern 4) (x : Lane) : Lane :=
  let gen := txAdvance pl x.txGen
  let count := x.txCount + 1
  { x with
    txCount := count
    txGen := gen
    sending := some { header := headerBits (laneSource i l) kind count
                      payload := txPayload pl pats gen count } }

/-! ### The receiver (R64 to R68) -/

/-- What a lane engine reports of a header or of its receiver, in the order it happens. -/
inductive LaneEvent where
  /-- a good header from the locked source -/
  | goodHeader (kind : FrameKind)
  /-- a good header from another source -/
  | foreignHeader
  /-- a bad header examined in LOCKED -/
  | badHeader
  /-- lock taken (R66) -/
  | lockTaken
  /-- loss of lock (R67) -/
  | lockLost
  /-- a source change with the soak role clear (R67) -/
  | sourceMoved
  /-- a change to DEAD (R67, R68) -/
  | died (cause : DeadCause)
deriving DecidableEq, Repr

/-- R69, R70: the checker as it starts at lock. -/
def checkerAtLock (isPrbs : Bool) : CheckerState := if isPrbs then .seeding else .seeded

/-- R67, R68: the lane becomes DEAD. It does not search, its checker is unseeded and its relock timer is
stopped. -/
def Lane.die (cause : DeadCause) (x : Lane) : Lane :=
  { x with rx := .dead, searching := false, deadCause := some cause, relock := none,
           checker := .unseeded, rxFrame := .none }

/-- R68: the lane is in HUNT and the time of its relock timer has come. -/
def Lane.relockDue (now : BitVec 48) (x : Lane) : Bool := timerDue now x.relock && decide (x.rx = .hunt)

/-- R66: lock is taken with the fourth header `h` of a candidate in polarity `pol`; with the soak role
set, a source other than the soak source is a source change in the same event (R67). -/
def Lane.takeLock (isPrbs : Bool) (pol : Polarity) (h : Header) (x : Lane) : Lane × List LaneEvent :=
  let locked := { x with
    rx := .locked
    polarity := pol
    source := some h.source
    lastKind := some h.kind
    lastCount := some h.count
    badRun := 0
    foreign := none
    candidate := none
    checker := checkerAtLock isPrbs
    relock := none
    rxFrame := .atLock }
  if x.soakRole && decide (x.soakSource ≠ some h.source) then
    (locked.die .sourceChange, [.lockTaken, .died .sourceChange])
  else (locked, [.lockTaken])

/-- R65: the polarity a marker at the examined place implies, in the forms the lane takes. -/
def impliedPolarity (x : Lane) (bits : BitVec 48) : Option Polarity :=
  let top := bits.extractLsb' 24 24
  let takes (p : Polarity) : Bool := !x.soakRole || decide (x.fixedPol = some p)
  if top = syncMarker ∧ takes .normal = true then some .normal
  else if top = ~~~syncMarker ∧ takes .inverted = true then some .inverted
  else none

/-- R65: what a searching receiver makes of the 48 bits at the place it examines. -/
def Lane.huntHeader (isPrbs : Bool) (bits : BitVec 48) (x : Lane) : Lane × List LaneEvent :=
  match x.candidate with
  | none =>
    match impliedPolarity x bits with
    | none => (x, [])
    | some pol =>
      match goodHeader (applyPolarity pol bits) with
      | none => (x, [])
      | some h => ({ x with candidate := some ⟨h.source, pol, 1⟩ }, [])
  | some c =>
    match goodHeader (applyPolarity c.polarity bits) with
    | none => ({ x with candidate := none }, [])
    | some h =>
      if h.source = c.source then
        if c.count + 1 < 4 then ({ x with candidate := some { c with count := c.count + 1 } }, [])
        else x.takeLock isPrbs c.polarity h
      else ({ x with candidate := some ⟨h.source, c.polarity, 1⟩ }, [])

/-- R76: the header-errors count after a bad header examined in LOCKED. -/
def Lane.countHeaderError (inSoak : Bool) (x : Lane) : LaneCounters :=
  if x.soakRole && inSoak && decide (x.lastKind = some .soak) then
    { x.counters with headerErrors := satAdd 255 1 x.counters.headerErrors }
  else x.counters

/-- R76: the counters after a loss of lock. -/
def countDrop (soakRole inSoak : Bool) (c : LaneCounters) : LaneCounters :=
  if soakRole && inSoak then { c with drops := satAdd 255 1 c.drops } else c

/-- R67: the run of foreign headers after one more from `src`. -/
def foreignCount (run : Option (Source × Nat)) (src : Source) : Nat :=
  match run with
  | some (r, n) => if r = src then n + 1 else 1
  | none => 1

/-- R67: what a LOCKED receiver makes of the 48 bits at a header place. `relockAt` is the relock timer
as a loss of lock with the soak role set starts it (R68). DESIGN CHOICE (log 37): R67 states the foreign run
none after a source change with the soak role clear alone; here it is none after one that makes the lane
DEAD too. -/
def Lane.lockHeader (isPrbs inSoak : Bool) (relockAt : Timer) (bits : BitVec 48) (x : Lane) :
    Lane × List LaneEvent :=
  match goodHeader (applyPolarity x.polarity bits) with
  | some h =>
    let seen := { x with badRun := 0, lastKind := some h.kind, lastCount := some h.count,
                         rxFrame := .inLock }
    if x.source = some h.source then ({ seen with foreign := none }, [.goodHeader h.kind])
    else if foreignCount x.foreign h.source < 4 then
      ({ seen with foreign := some (h.source, foreignCount x.foreign h.source) }, [.foreignHeader])
    else if x.soakRole then
      ({ seen with foreign := none }.die .sourceChange, [.foreignHeader, .died .sourceChange])
    else
      ({ seen with source := some h.source, foreign := none, checker := checkerAtLock isPrbs },
       [.foreignHeader, .sourceMoved])
  | none =>
    let counted := x.countHeaderError inSoak
    if x.badRun + 1 < 3 then
      ({ x with badRun := x.badRun + 1, foreign := none, counters := counted, rxFrame := .inLock },
       [.badHeader])
    else
      ({ x with
         rx := .hunt
         searching := true
         badRun := 0
         foreign := none
         counters := countDrop x.soakRole inSoak counted
         relock := if x.soakRole then relockAt else x.relock
         checker := .unseeded
         rxFrame := .none },
       [.badHeader, .lockLost])

/-! ### The checker and the counters (R69 to R77) -/

/-- R69: the bits a PRBS checker expects of the low `n` bits of `received`, the highest first, appended
below `acc`, and its register after them. The first `seed` bits are taken as correct and shifted in;
each later one is formed from the register, which shifts in its own bit. -/
def checkPrbs (k j : Nat) (received : BitVec 4096) :
    Nat → Nat → BitVec 31 → BitVec 4096 → BitVec 4096 × BitVec 31
  | 0, _, reg, acc => (acc, reg)
  | n + 1, seed, reg, acc =>
    let b := match seed with
      | 0 => prbsOut k j reg
      | _ + 1 => received.getLsbD n
    checkPrbs k j received n (seed - 1) (prbsShift k reg b)
      ((acc <<< 1) ||| (BitVec.ofBool b).setWidth 4096)

/-- How many of the low `n` bits are set. -/
def popCount : Nat → BitVec 4096 → Nat
  | 0, _ => 0
  | n + 1, v => (if v.getLsbD n then 1 else 0) + popCount n v

/-- The number of the first payload bit that is set in the low `n` bits, bit 0 the most significant of
the 4096. -/
def firstSet : Nat → BitVec 4096 → Option Nat
  | 0, _ => none
  | n + 1, v => if v.getLsbD n then some (4095 - n) else firstSet n v

/-- R77: word `w` of a payload, its first bit most significant. -/
def payloadWord (v : BitVec 4096) (w : Nat) : BitVec 32 := v.extractLsb' (32 * (127 - w)) 32

/-- R70: the frame's count: its header's if that was good, else the last good count plus the frames
since, which the bad-header run counts. -/
def Lane.frameCount (x : Lane) : BitVec 8 := x.lastCount.getD 0 + BitVec.ofNat 8 x.badRun

/-- R69, R70: the expected payload of the frame being received, and the checker's register after it. -/
def Lane.expect (pl : Payload) (pats : Vector Pattern 4) (data : BitVec 4096) (x : Lane) :
    BitVec 4096 × BitVec 31 :=
  match pl with
  | .pattern n => (patternPayload (pats[n.val]) x.frameCount, x.checkReg)
  | pl => match pl.prbs? with
    | some (k, j) => checkPrbs k j data 4096 (if x.checker = .seeding then k else 0) x.checkReg 0
    | none => (data, x.checkReg)

/-- R72: the frame is counted. -/
def Lane.counts (inSoak : Bool) (x : Lane) : Bool :=
  x.soakRole && inSoak && decide (x.rxFrame = .inLock) && decide (x.lastKind = some .soak)

/-- R73, R75, R77: the counters after a counted frame with `m` mismatches. -/
def countFrame (c : LaneCounters) (m : Nat) (cap : Capture) : LaneCounters :=
  { c with
    blocks := if c.sub + 1 < 16 then c.blocks else bump c.blocks
    sub := if c.sub + 1 < 16 then c.sub + 1 else 0
    errors := satAdd 65535 m c.errors
    capture := if m = 0 then c.capture else some (c.capture.getD cap) }

/-- R69 to R77: the lane after the payload of a checked frame, and the frame's mismatches. -/
def Lane.receive (pl : Payload) (pats : Vector Pattern 4) (inSoak : Bool) (bits : BitVec 4096)
    (x : Lane) : Lane × Nat :=
  let data := applyPolarity x.polarity bits
  let (want, reg) := x.expect pl pats data
  let diff := data ^^^ want
  let m := popCount 4096 diff
  let w := (firstSet 4096 diff).getD 0 / 32
  let cap : Capture :=
    { blocks := x.counters.blocks, frameCount := x.frameCount,
      received := payloadWord data w, expected := payloadWord want w }
  ({ x with
     checkReg := reg
     checker := if pl.isPrbs && decide (1024 ≤ m) then .seeding else .seeded
     counters := if x.counts inSoak then countFrame x.counters m cap else x.counters
     rxFrame := .none }, m)

/-- R78: the signed sampling offset of a phase position, in 1/32 UI. -/
def phaseOffset (p : Nat) : Int := if p < 16 then (p : Int) else (p : Int) - 32

end Sys2Proof.Machine
end

