-- ==== Sys2Proof/Machine/Judge.lean ====
section
/-! DEFINITION. The arithmetic and the judgements: the expected map and the wiring classes (chapter 7),
the allowance, the minimum blocks, the ceiling and the soak judgement (chapter 8), and the eye
(chapter 9). Everything here reads one slot. -/

namespace Sys2Proof.Machine

open Sys2Proof

/-! ### Wiring (R119 to R127) -/

/-- R119: the plug lane count an identity gives. -/
def plugLaneCount (identity : Option PlugIdentity) : Nat :=
  match identity.bind PlugIdentity.plugId with
  | some p => p.laneCount
  | none => 4

/-- R120: plug lane `k` of slot `i` as an expectation. -/
def expectPlugLane (i : SlotId) (m : LoopMap) (k : LaneId) : Expected :=
  { source := some (laneSource i k)
    polarity := if (m.lanes[k.val]).invert then .inverted else .normal }

/-- R120: the expectation of receive lane `r` of slot `i`. Of the used plug lanes that return onto it
the lowest gives it. -/
def expectLane (i : SlotId) (identity : Option PlugIdentity) (plugLanes : Nat) (r : LaneId) :
    Expected :=
  match identity.bind PlugIdentity.loopMap with
  | none => { source := some (laneSource i r), polarity := .normal }
  | some m =>
    let used (k : LaneId) : Bool :=
      (m.lanes[k.val]).present && decide (k.val < plugLanes) && decide ((m.lanes[k.val]).ret = r)
    match allLanes.find? used with
    | some k => expectPlugLane i m k
    | none => { source := none, polarity := .normal }

/-- R119: the receive lane is counted: in the mask and not beyond the plug. -/
def Slot.counted (sl : Slot) (l : LaneId) : Bool := sl.inMask l && decide (l.val < sl.plugLanes)

/-- The lane engine is LOCKED. -/
def Lane.isLocked (x : Lane) : Bool := decide (x.power = .active) && decide (x.rx = .locked)

/-- R123: the observed source of a lane. -/
def Lane.observed (x : Lane) : Option Source := if x.isLocked then x.source else none

/-- R123: the observed polarity of a lane. -/
def Lane.observedPol (x : Lane) : Polarity := if x.isLocked then x.polarity else .normal

/-- R123 rows 1 and 2: the lane is classed neither EXCLUDED nor OPEN. -/
def Slot.heard (sl : Slot) (l : LaneId) : Bool := sl.counted l && (sl.lane l).isLocked

/-- R123 row 3: another lane of the slot, classed neither EXCLUDED nor OPEN, has the same observed
source. -/
def Slot.shares (sl : Slot) (l : LaneId) : Bool :=
  allLanes.any fun m =>
    decide (m ≠ l) && sl.heard m && decide ((sl.lane m).observed = (sl.lane l).observed)

/-- The source is of slot `i`. -/
def Source.ofSlot (src : Source) (i : SlotId) : Bool := decide (src.slot.toNat = i.val)

/-- R123: the class of receive lane (i, l), the first row of the table that applies. -/
def wireClass (i : SlotId) (sl : Slot) (l : LaneId) : WireClass :=
  let x := sl.lane l
  let e := sl.expected[l.val]
  if !sl.counted l then .excluded
  else if !x.isLocked then .open
  else if sl.shares l then .shared
  else if !(x.observed.any fun src => src.ofSlot i) then .crossed
  else if x.observed ≠ e.source then .swapped
  else if x.observedPol ≠ e.polarity then .inverted
  else .isMatch

/-- R123: the Wiring Map of slot `i` as the end of training fills it. -/
def wireMap (i : SlotId) (sl : Slot) : Vector WireEntry 4 :=
  byLane fun l =>
    { source := (sl.lane l).observed, polarity := (sl.lane l).observedPol, cls := wireClass i sl l }

/-- R124: the class can carry a soak. -/
def WireClass.usable : WireClass → Bool
  | .swapped | .inverted | .isMatch => true
  | .none | .excluded | .open | .shared | .crossed => false

/-- R124, R125: the finding of a lane for its Wiring Map entry. -/
def wireFinding (sl : Slot) (l : LaneId) (w : WireEntry) : List Finding :=
  let src := (w.source.map Source.code).getD 0
  match w.cls with
  | .excluded =>
    if sl.inMask l then [{ code := .plugNarrow, lane := some l, failing := false, value := sl.plugLanes }]
    else []
  | .open => [{ code := .laneOpen, lane := some l, failing := true, value := 0 }]
  | .shared => [{ code := .laneShared, lane := some l, failing := true, value := src }]
  | .crossed => [{ code := .laneCrossed, lane := some l, failing := true, value := src }]
  | .swapped =>
    [{ code := .laneSwapped, lane := some l, failing := !sl.profile.allowReorder, value := src }]
  | .inverted =>
    [{ code := .laneInverted, lane := some l, failing := !sl.profile.allowInversion,
       value := if w.polarity = .inverted then 1 else 0 }]
  | .isMatch | .none => []

/-- Some lane of the map is classed MATCH, SWAPPED or INVERTED. -/
def anyUsable (m : Vector WireEntry 4) : Bool := allLanes.any fun l => (m[l.val]).cls.usable

/-- R125: the findings of an end of training, in the order they are added. -/
def wireFindings (sl : Slot) (m : Vector WireEntry 4) : List Finding :=
  allLanes.flatMap (fun l => wireFinding sl l (m[l.val])) ++
    (if anyUsable m then []
     else [{ code := .noUsableLane, lane := none, failing := true, value := 0 }])

/-! ### The error-rate limit (R139 to R142) -/

/-- R140: the allowance A = floor(B × M / 2^(X−16)). -/
def allowance (blocks m x : Nat) : Nat := blocks * m / 2 ^ (x - 16)

/-- R141: the minimum blocks Bmin = ceil(3 × 2^(X−16) / M), at most 4,294,967,295. -/
def minBlocks (m x : Nat) : Nat := min ((3 * 2 ^ (x - 16) + (m - 1)) / m) max32

/-- R139: the ERROR_CEILING findings of the slot's soaked lanes, in ascending lane order. -/
def ceilingFindings (sl : Slot) : List Finding :=
  if sl.profile.errorCeiling = 0 then []
  else
    (allLanes.filter fun l =>
      (sl.lane l).soakRole && decide (sl.profile.errorCeiling < (sl.lane l).counters.errors)).map
      fun l => { code := .errorCeiling, lane := some l, failing := true,
                 value := (sl.lane l).counters.errors }

/-- R142: the error result of a soaked lane, the first row of the table that applies: the finding and
its value, or `none` where the error judgement passes. -/
def errorResult (p : Profile) (x : Lane) : Option (FindingCode × Nat) :=
  let c := x.counters
  if x.rx = .dead ∧ x.deadCause = some .relockTimeout then some (.laneDead, c.blocks)
  else if x.rx = .dead ∧ x.deadCause = some .sourceChange then some (.sourceUnstable, c.blocks)
  else if c.errors = 65535 ∨ allowance c.blocks p.berM p.berX < c.errors then
    some (.berExceeded, c.errors)
  else if c.blocks < minBlocks p.berM p.berX then some (.berInsufficient, c.blocks)
  else none

/-- R142: the findings of one soaked lane. -/
def judgeLane (p : Profile) (l : LaneId) (x : Lane) : List Finding :=
  (match errorResult p x with
   | some (code, value) => [{ code := code, lane := some l, failing := true, value := value }]
   | none => []) ++
  (if p.maxLockDrops < x.counters.drops then
    [{ code := .lockUnstable, lane := some l, failing := true, value := x.counters.drops }]
   else [])

/-- R142: the findings of the soak judgement, lane by lane in ascending order. -/
def judgeFindings (sl : Slot) : List Finding :=
  (allLanes.filter fun l => (sl.lane l).soakRole).flatMap fun l => judgeLane sl.profile l (sl.lane l)

/-! ### The eye (R156) -/

/-- The count at position `p`, taken modulo 32. -/
def countAt (counts : Vector Nat 32) (p : Nat) : Nat :=
  counts[p % 32]'(Nat.mod_lt p (by decide))

/-- R156: the position is clean: its count is at most the tolerance. -/
def clean (counts : Vector Nat 32) (t p : Nat) : Bool :=
  decide (countAt counts p ≤ t) && decide (countAt counts p ≠ 255)

/-- The number of consecutive clean positions from `p` on, at most `n`. -/
def runLength (counts : Vector Nat 32) (t : Nat) : Nat → Nat → Nat
  | 0, _ => 0
  | n + 1, p => if clean counts t p then runLength counts t n (p + 1) + 1 else 0

/-- The 32 positions in ascending order. -/
def allPositions : List Nat := List.range 32

/-- R156: the runs as start and length, in ascending order of start: a run starts at a clean position
whose predecessor is not clean. -/
def runs (counts : Vector Nat 32) (t : Nat) : List (Nat × Nat) :=
  (allPositions.filter fun p => clean counts t p && !clean counts t (p + 31)).map fun p =>
    (p, runLength counts t 32 p)

/-- The run contains position 0. -/
def runHasZero (r : Nat × Nat) : Bool := decide ((32 - r.1) % 32 < r.2)

/-- R156: the chosen run: of the longest, the one that contains position 0, else the lowest start. -/
def chosenRun (rs : List (Nat × Nat)) : Option (Nat × Nat) :=
  let longest := rs.foldl (fun n r => max n r.2) 0
  let best := rs.filter fun r => decide (r.2 = longest)
  (best.find? runHasZero).or best.head?

/-- R156: the eye width, the centre and the NO_EYE flag. -/
def eye (counts : Vector Nat 32) (t : Nat) : Nat × Nat × Bool :=
  if allPositions.all (clean counts t) then (32, 0, false)
  else
    match chosenRun (runs counts t) with
    | none => (0, 0, true)
    | some (start, len) => (len, (start + (len - 1) / 2) % 32, false)

/-- R157: the eye findings of a scanned lane, in the order of the table. -/
def eyeFindings (minWidth : Nat) (l : LaneId) (x : ScanLane) : List Finding :=
  (match x.broken with
   | some (p, _) => [{ code := .scanBroken, lane := some l, failing := true, value := p }]
   | none => []) ++
  (if x.width = 0 then [{ code := .noEye, lane := some l, failing := true, value := 0 }]
   else if x.width < minWidth then
    [{ code := .eyeNarrow, lane := some l, failing := true, value := x.width }]
   else [])

end Sys2Proof.Machine
end

