-- ==== Sys2Proof/Machine/Line.lean ====
section
/-! DEFINITION. The sideband line (R102 to R106): what a try and a recovery send, for every way a try can
end, and the framing of each part of it as moves of the part on the two wires. Everything here is about
one line. -/

namespace Sys2Proof.Machine

open Sys2Proof

/-! ### What a try sends (R103, R105) -/

/-- R103: the sequence of a try in which every byte is acknowledged. -/
def Txn.sequence (t : Txn) : List LineItem :=
  match t.direction with
  | .write =>
    [.start, .send 0x58, .send (BitVec.ofNat 8 t.offset)] ++
      ((t.data.take t.count).map .send) ++ [.stop]
  | .read =>
    [.start, .send 0x58, .send (BitVec.ofNat 8 t.offset), .repeatedStart, .send 0x59] ++
      ((List.range t.count).map fun k => .receive (decide (k + 1 = t.count))) ++ [.stop]

/-- The item is a byte that the part sends. -/
def LineItem.isSent : LineItem → Bool
  | .send _ => true
  | .start | .repeatedStart | .receive _ | .stop | .releaseData | .clockPulse => false

/-- The items up to and with the `k`-th byte sent, counted from 0. -/
def throughSend : Nat → List LineItem → List LineItem
  | _, [] => []
  | k, x :: rest =>
    if x.isSent then
      match k with
      | 0 => [x]
      | k + 1 => x :: throughSend k rest
    else x :: throughSend k rest

/-- R105: a try whose `k`-th byte sent, counted from 0, is answered NAK: the STOP follows at once. -/
def Txn.cutAt (t : Txn) (k : Nat) : List LineItem := throughSend k t.sequence ++ [.stop]

/-- R103, R105: what a try that ended so sent, from its START to its STOP. -/
def Txn.sent (t : Txn) : TryResult → List LineItem
  | .success _ => t.sequence
  | .addressNak byte => t.cutAt byte.val
  | .dataNak acked => t.cutAt (2 + acked.val)

/-- R106: what a recovery sends: SBD released, nine clock pulses and a STOP. -/
def recoverySequence : List LineItem :=
  .releaseData :: (List.replicate 9 .clockPulse ++ [.stop])

/-- R102, R106: START, repeated START, STOP and a clock pulse take one clock period each, a byte with its
acknowledgement nine. Releasing SBD takes none of its own. -/
def LineItem.periods : LineItem → Nat
  | .start | .repeatedStart | .stop | .clockPulse => 1
  | .send _ | .receive _ => 9
  | .releaseData => 0

/-- R102, R103: the clock periods of a sequence without stretching. -/
def linePeriods (items : List LineItem) : Nat := (items.map LineItem.periods).sum

/-- The clock period in units of 0.5 µs: 10 µs at 100 kHz and 2.5 µs at 400 kHz (R102). -/
def Speed.halfMicros : Speed → Nat
  | .khz100 => 20
  | .khz400 => 5

/-! ### The wires (R102) -/

/-- What the part does with a wire: open drain, it pulls it low or releases it (R102). -/
inductive Drive where
  | low
  | released
deriving DecidableEq, Repr

/-- The two wires of a line as the part drives them (R102). -/
structure Wires where
  sbc : Drive
  sbd : Drive
deriving DecidableEq, Repr

/-- R102: an idle line: both wires released. -/
def Wires.idle : Wires := { sbc := .released, sbd := .released }

/-- A move of the part on a line (R102). -/
inductive LineMove where
  /-- SBC is pulled low -/
  | pullClock
  /-- SBC is released, and the part waits for it to read high: the plug may hold it low and so stretch the
  clock. Each such wait is bounded at 25 ms, where CLOCK_HELD_LOW happens (R106). -/
  | releaseClock
  /-- SBD is pulled low -/
  | pullData
  /-- SBD is released -/
  | releaseData
  /-- SBD is sampled -/
  | sample
  /-- SBD, released, has to read high: DATA_STUCK_LOW happens where it does not (R106). A recovery ends
  with its STOP whether SBD reads high or not. -/
  | needData
deriving DecidableEq, Repr

/-- The wires after a move. -/
def LineMove.apply (w : Wires) : LineMove → Wires
  | .pullClock => { w with sbc := .low }
  | .releaseClock => { w with sbc := .released }
  | .pullData => { w with sbd := .low }
  | .releaseData => { w with sbd := .released }
  | .sample | .needData => w

/-- The wires after moves made one after another. -/
def Wires.after (w : Wires) (moves : List LineMove) : Wires := moves.foldl LineMove.apply w

/-- R102: SBD set for a bit: pulled low for 0, released for 1. -/
def setData (b : Bool) : LineMove := if b then .releaseData else .pullData

/-- R102: a bit or an acknowledgement: SBD is set while SBC is low, SBC is released for the high half of
the period, in which SBD is sampled, and SBC is pulled low again. -/
def clockBit (b : Bool) : List LineMove := [setData b, .releaseClock, .sample, .pullClock]

/-- The bits of a byte, most significant first (R102). -/
def bitsOf (b : Byte) : List Bool := [7, 6, 5, 4, 3, 2, 1, 0].map fun k => b.getLsbD k

/-- R102: the framing. In the ninth clock of a byte it sends, the part leaves SBD to the plug and samples
its answer; of a byte it receives, it leaves SBD to the plug for eight clocks and samples the bits, most
significant first, and in the ninth answers ACK, or NAK for the last byte (R103). -/
def LineItem.moves : LineItem → List LineMove
  | .start | .repeatedStart => [.releaseData, .releaseClock, .needData, .pullData, .pullClock]
  | .send b => (bitsOf b).flatMap clockBit ++ clockBit true
  | .receive last => (List.replicate 8 true).flatMap clockBit ++ clockBit last
  | .stop => [.pullData, .releaseClock, .releaseData, .needData]
  | .releaseData => [.releaseData]
  | .clockPulse => [.releaseClock, .pullClock]

/-- R102: the moves of a sequence. -/
def lineMoves (items : List LineItem) : List LineMove := items.flatMap LineItem.moves

end Sys2Proof.Machine
end

