-- ==== Sys2Proof/Machine/Walk.lean ====
section
/-! DEFINITION. The discovery walk (chapter 6): what it does with the result of each of its
transactions. Everything here is about one walk. -/

namespace Sys2Proof.Machine

open Sys2Proof

/-! ### The walk (R111 to R114) -/

/-- What a walk does next: another transaction, the plug settle wait, or its end, in TRAIN or in
VERDICT. -/
inductive WalkStep where
  | transact (direction : Direction) (offset count : Nat) (data : List Byte) (w : Walk)
  | settle (units : Nat) (w : Walk)
  | finish (toTrain : Bool) (w : Walk)
deriving DecidableEq, Repr

/-- The walk with a finding added to those it will add; every finding of the walk has no lane. -/
def Walk.note (w : Walk) (code : FindingCode) (failing : Bool) (value : Nat) : Walk :=
  { w with findings := w.findings ++ [{ code := code, lane := none, failing := failing, value := value }] }

/-- The walk ends with a failing finding and its slot enters VERDICT. -/
def Walk.failWith (w : Walk) (code : FindingCode) (value : Nat) : WalkStep :=
  .finish false (w.note code true value)

/-- R111: the value of LINE_STUCK, and the detail of SIDEBAND_STUCK (R25). -/
def StuckCause.value : StuckCause → Nat
  | .clock => 1
  | .data => 2

/-- R111: the end of a walk at a silent or anonymous plug. -/
def Walk.noChain (w : Walk) (policy : PlugPolicy) (code : FindingCode) (value : Nat) : WalkStep :=
  match policy with
  | .acceptAnonymous => .finish true (w.note code false value)
  | .requireDescriptor => .finish false (w.note code true value)

/-- R112 steps 1 to 3: the walk at the descriptor at offset `o`. -/
def Walk.chainAt (w : Walk) (o : Nat) : WalkStep :=
  if 16 ≤ w.identity.descriptors then w.failWith .chainBad o
  else if 256 < o + 4 then w.failWith .chainBad o
  else .transact .read o 4 [] { w with stage := .head o }

/-- R114 step 2: closing the loop, or success where no loop write is needed. -/
def Walk.closeLoop (w : Walk) : WalkStep :=
  match w.identity.loopMap with
  | none => .finish true w
  | some m =>
    if m.control = 0 then .finish true w
    else .transact .write m.control 1 [0x01] { w with stage := .loopWrite }

/-- R114: the end of a walk whose chain is complete. -/
def Walk.chainDone (w : Walk) (policy : PlugPolicy) : WalkStep :=
  match w.identity.plugId, policy with
  | some _, _ => w.closeLoop
  | none, .requireDescriptor => w.failWith .plugUnknown 0
  | none, .acceptAnonymous => (w.note .plugAnonymous false 0).closeLoop

/-- R112 step 7. -/
def Walk.onward (w : Walk) (policy : PlugPolicy) (next : Nat) : WalkStep :=
  if next = 0 then w.chainDone policy else w.chainAt next

/-- The byte at `k` of the bytes a read returned, as a number. -/
def byteAt (bytes : List Byte) (k : Nat) : Nat := (bytes.getD k 0).toNat

/-- R112 step 6: how many payload bytes are read of a descriptor of the type, 0 for a type that is
skipped; a type already taken is handled as unknown (R113). -/
def payloadBytes (identity : PlugIdentity) (type : Nat) : Nat :=
  if type = 1 ∧ identity.plugId = none then 8
  else if type = 2 ∧ identity.loopMap = none then 6
  else 0

/-- R112 steps 4 to 7 and R113: the walk with the head read at `o`. -/
def Walk.afterHead (w : Walk) (policy : PlugPolicy) (o : Nat) (bytes : List Byte) : WalkStep :=
  let w := { w with identity := { w.identity with descriptors := w.identity.descriptors + 1 } }
  let type := byteAt bytes 0
  let next := byteAt bytes 1
  let length := byteAt bytes 2
  let flags := bytes.getD 3 0
  if 32 < length ∨ 256 < o + 4 + length then w.failWith .chainBad o
  else if next ≠ 0 ∧ next < o + 4 + length then w.failWith .chainBad o
  else
    let n := payloadBytes w.identity type
    if n = 0 then w.onward policy next
    else if length < n then w.failWith .chainBad o
    else .transact .read (o + 4) n [] { w with stage := .payload o type next length flags }

/-- R113: a PLUG_ID payload. -/
def PlugId.ofBytes (bytes : List Byte) (flags : Byte) : PlugId where
  model     := BitVec.ofNat 16 (blockField bytes 0 2)
  revision  := bytes.getD 2 0
  serial    := BitVec.ofNat 32 (blockField bytes 3 4)
  laneCount := byteAt bytes 7
  flags     := flags

/-- R113, chapter 11.4: a lane byte: bits 0..1 return lane, bit 6 invert, bit 7 present. -/
def LoopLane.ofByte (b : Byte) : LoopLane :=
  { ret := Fin.ofNat 4 b.toNat, invert := b.getLsbD 6, present := b.getLsbD 7 }

/-- R113: a LOOP_MAP payload. -/
def LoopMap.ofBytes (bytes : List Byte) (flags : Byte) : LoopMap where
  lanes   := byLane fun k => .ofByte (bytes.getD k.val 0)
  control := byteAt bytes 4
  settle  := byteAt bytes 5
  flags   := flags

/-- R113: the walk with the payload of a known descriptor read. -/
def Walk.afterPayload (w : Walk) (policy : PlugPolicy) (o type next length : Nat) (flags : Byte)
    (bytes : List Byte) : WalkStep :=
  if type = 1 then
    let p := PlugId.ofBytes bytes flags
    if p.laneCount < 1 ∨ 4 < p.laneCount then w.failWith .chainBad o
    else { w with identity := { w.identity with plugId := some p } }.onward policy next
  else
    let m := LoopMap.ofBytes bytes flags
    if m.control ≠ 0 ∧ m.control ≤ o + 4 + length then w.failWith .chainBad o
    else { w with identity := { w.identity with loopMap := some m } }.onward policy next

/-- R111 to R114: what the walk does with the result of its transaction; `free` is the value of a
PLUG_ANONYMOUS whose value R111 does not state (log 8). -/
def Walk.next (w : Walk) (policy : PlugPolicy) (free : Nat) (r : TxnResult) : WalkStep :=
  match r with
  | .stuck c => w.failWith .lineStuck c.value
  | .nakAddress | .nakData _ =>
    match w.stage with
    | .start => w.noChain policy .plugSilent 0
    | .head o => w.failWith .descriptorNak o
    | .payload o .. => w.failWith .descriptorNak (o + 4)
    | .loopWrite | .settling =>
      w.failWith .loopCloseFailed ((w.identity.loopMap.map LoopMap.control).getD 0)
  | .success bytes =>
    match w.stage with
    | .start =>
      if byteAt bytes 0 = 0 then w.noChain policy .plugAnonymous free else w.chainAt (byteAt bytes 0)
    | .head o => w.afterHead policy o bytes
    | .payload o type next length flags => w.afterPayload policy o type next length flags bytes
    | .loopWrite | .settling =>
      let units := (w.identity.loopMap.map LoopMap.settle).getD 0
      if units = 0 then .finish true w else .settle units { w with stage := .settling }

end Sys2Proof.Machine
end

