-- ==== Sys2Proof/Machine/Engine.lean ====
section
/-! DEFINITION. The Sideband Queue and its transaction engine (R104, R107 to R110): beginning service,
withdrawing a discovery entry, and what the resets do. -/

namespace Sys2Proof.Machine

open Sys2Proof

/-- The state with the engine replaced. -/
def State.withEngine (s : State) (e : Engine) : State :=
  { s with sideband := { s.sideband with engine := e } }

/-- The state with the Sideband Queue replaced. -/
def State.withSbQueue (s : State) (q : List SbEntry) : State :=
  { s with sideband := { s.sideband with queue := q } }

/-- The line an entry uses. -/
def SbEntry.slot : SbEntry → SlotId
  | .discovery i => i
  | .host e => e.slot

/-- The entry is a discovery entry of slot `i`. -/
def SbEntry.isDiscoveryOf (i : SlotId) : SbEntry → Bool
  | .discovery j => decide (j = i)
  | .host _ => false

/-- The entry is a host entry. -/
def SbEntry.isHost : SbEntry → Bool
  | .discovery _ => false
  | .host _ => true

/-- R104: the speed of a try that starts on the line of slot `i`. -/
def lineSpeed (s : State) (i : SlotId) : Speed :=
  if (s.slot i).state = .off then .khz100 else (s.slot i).profile.sidebandSpeed

/-- R103, R104: the first try of a transaction starts. -/
def beginTxn (t : Txn) (s : State) : State :=
  s.withEngine { s.sideband.engine with
    phase := .try, txn := t, tries := 1, speed := lineSpeed s t.slot, wait := none }

/-- R111: the first transaction of a walk: a 1-byte read of byte 0. -/
def Txn.readStart (i : SlotId) : Txn :=
  { slot := i, direction := .read, offset := 0, count := 1, data := [] }

/-- R116: the transaction of a host entry. -/
def HostEntry.txn (e : HostEntry) : Txn :=
  { slot := e.slot, direction := e.direction, offset := e.offset, count := e.count
    data := match e.direction with
      | .read => []
      | .write => e.data.toList.take e.count }

/-- The engine with no transaction and no wait. -/
def Engine.toIdle (e : Engine) : Engine :=
  { e with phase := .idle, wait := none, abandoned := false, result := none }

/-- R108: when the engine is IDLE and the queue is not empty, the head begins service. While PORST_N is
asserted the queue is empty (R110). -/
def serve (s : State) : State :=
  if s.sideband.engine.phase ≠ .idle then s
  else
    match s.sideband.queue with
    | [] => s
    | .discovery i :: _ =>
      beginTxn (.readStart i)
        (s.withEngine { s.sideband.engine with abandoned := false, walk := .fresh, result := none })
    | .host e :: _ =>
      beginTxn e.txn (s.withEngine { s.sideband.engine with abandoned := false, result := none })

/-- The engine becomes IDLE and the oldest entry, if any, begins service (R108). -/
def engineFree (s : State) : State := serve (s.withEngine s.sideband.engine.toIdle)

/-- The entry at the queue's head holds the engine: a transaction or a wait is under way and its entry
has not been withdrawn or removed. -/
def headInService (s : State) : Bool :=
  decide (s.sideband.engine.phase ≠ .idle) && !s.sideband.engine.abandoned

/-- R109, R110: the entry in service has left the queue. A try or a recovery goes on to its STOP and is
then discarded; a wait ends at once. -/
def dropService (s : State) : State :=
  match s.sideband.engine.phase with
  | .try | .recovery => s.withEngine { s.sideband.engine with abandoned := true }
  | .retryWait | .plugSettle | .postWait | .idle => engineFree s

/-- R88, R89, R109: the discovery entry of slot `i`, if there is one, is withdrawn. -/
def withdrawDiscovery (i : SlotId) (s : State) : State :=
  let held := headInService s && s.sideband.queue.head?.any (SbEntry.isDiscoveryOf i)
  let s' := s.withSbQueue (s.sideband.queue.filter fun e => !e.isDiscoveryOf i)
  if held then dropService s' else s'

/-- R110: what PRST_N does to the Sideband Queue and the engine. -/
def sidebandPortReset (s : State) : State :=
  let held := headInService s && s.sideband.queue.head?.any SbEntry.isHost
  let s' := s.withSbQueue (s.sideband.queue.filter fun e => !e.isHost)
  if held then dropService s' else s'

/-- An entry joins the Sideband Queue at its tail, and begins service if the engine is IDLE and the
queue was empty (R107, R108). -/
def sbJoin (e : SbEntry) (s : State) : State := serve (s.withSbQueue (s.sideband.queue ++ [e]))

/-- What the part drives on the line of slot `i`: the sequence of the try or recovery under way, as far as
its answers let it go (`Txn.sent`), and its speed. Every other line, and this one outside a try or recovery,
is released: `Wires.idle` (R102). -/
def lineDriven (s : State) (i : SlotId) : Option (List LineItem × Speed) :=
  let e := s.sideband.engine
  if e.txn.slot = i then
    match e.phase with
    | .try => some (e.txn.sequence, e.speed)
    | .recovery => some (recoverySequence, e.speed)
    | .idle | .retryWait | .plugSettle | .postWait => none
  else none

end Sys2Proof.Machine
end

