-- ==== Sys2Proof/Machine/Entries.lean ====
section
/-! DEFINITION. What a slot does on entering a state, whatever the cause, and the steps that lead from
one state to the next: the sweep of the Margin Scanner (chapter 9), the entries to WATCH, VERDICT,
SCAN, SOAK, TRAIN and SETTLE (chapters 4, 5, 7 and 8), the end of training, the checkpoint and the end
of a soak, and the µs tick. -/

namespace Sys2Proof.Machine

open Sys2Proof

/-! ### Lanes park (R58, R121) -/

/-- R58: every lane of the slot that is not PARKED parks, and its confirmation count becomes 0
(R121). -/
def Slot.park (sl : Slot) : Slot :=
  { sl.mapLanes (fun _ x => x.park) with
    confirm := byLane fun l =>
      if (sl.lane l).power = .parked then sl.confirm[l.val] else 0 }

/-- The slot with a finding added (R160). -/
def Slot.find (sl : Slot) (f : Finding) : Slot := { sl with findings := addFinding sl.findings f }

/-- R161: the final lane states. -/
def Slot.finalLanes (sl : Slot) : Vector FinalLane 4 :=
  byLane fun l =>
    let x := sl.lane l
    { state := x.reported
      cause := if x.reported = .dead then x.deadCause else none
      soaked := x.soakRole }

/-! ### Entry to VERDICT, less the withdrawals (R89, R161) -/

/-- R89, R161: slot `i` enters VERDICT after its cause has added its findings: the final lane states
are recorded, the lanes park, the state timer stops, the outcome is composed, the VERDICT record
becomes pending and a claim on a pattern is released. -/
def verdictCore (i : SlotId) (s : State) : State :=
  releaseClaim i (s.modSlot i fun sl =>
    { sl.park with
      state := .verdict
      stateTimer := none
      finals := sl.finalLanes
      outcome := some (composeOutcome sl.abortedMark sl.findings)
      verdictPending := true })

/-! ### The sweep (R149 to R155) -/

/-- R152, R153: the count at `p` fixed at `v`. -/
def ScanLane.fix (x : ScanLane) (p v : Nat) : ScanLane :=
  { x with counts := x.counts.setIfInBounds p v }

/-- R153: the lane is BROKEN at `p`: its counts at `p` and later are 255. -/
def ScanLane.breakAt (x : ScanLane) (p : Nat) (cause : DeadCause) : ScanLane :=
  { x with
    counts := Vector.ofFn fun q : Fin 32 => if p ≤ q.val then 255 else x.counts[q.val]
    broken := some (p, cause) }

/-- The step state asks for more: WAIT_LOCK or DWELL. -/
def StepState.busy : StepState → Bool
  | .waitLock | .dwell .. => true
  | .unscanned | .finished | .broken => false

/-- The step state of a scanned lane that takes part. -/
def StepState.takesPart : StepState → Bool
  | .waitLock | .dwell .. | .finished => true
  | .unscanned | .broken => false

/-- Some lane is in WAIT_LOCK or DWELL (R154, R155). -/
def Sweep.busy (sw : Sweep) : Bool := allLanes.any fun l => (sw.steps[l.val]).busy

/-- R151: the step state a lane takes at a position from its engine as it stands. -/
def stepOf (x : Lane) : StepState :=
  match x.rx with
  | .locked => .dwell 0 0 false
  | .hunt => .waitLock
  | .dead => .broken

/-- R151: the result of lane `l` as it takes its step state at `p`: a DEAD lane is BROKEN there. -/
def Slot.stepResult (sl : Slot) (p : Nat) (steps : Vector StepState 4) (l : LaneId) : ScanLane :=
  let r := sl.scan.lanes[l.val]
  if (steps[l.val]).takesPart && decide ((sl.lane l).rx = .dead) then
    r.breakAt p ((sl.lane l).deadCause.getD .relockTimeout)
  else r

/-- R151: every lane of slot `i` that takes part takes its step state at position `p`. -/
def takeSteps (i : SlotId) (p : Nat) (steps : Vector StepState 4) (s : State) : State :=
  let sl := s.slot i
  let next : Vector StepState 4 :=
    byLane fun l => if (steps[l.val]).takesPart then stepOf (sl.lane l) else steps[l.val]
  let s₁ := s.modSlot i fun sl =>
    { sl with scan := { status := sl.scan.status, lanes := byLane (sl.stepResult p steps) } }
  { s₁ with scanner := { s₁.scanner with sweep := some { position := p, steps := next } } }

/-- R149: the sweep of slot `i`, the queue's head, begins. -/
def sweepStart (i : SlotId) (s : State) : State :=
  let scanned (l : LaneId) : Bool := ((s.slot i).lane l).soakRole
  takeSteps i 0 (byLane fun l => if scanned l then .finished else .unscanned)
    (s.modSlot i fun sl =>
      { sl with scan := { status := .sweeping
                          lanes := byLane fun l => { ScanLane.empty with scanned := scanned l } } })

/-- R149: the sweep of the head, if any slot waits, begins; else no sweep is in progress. -/
def sweepNext (s : State) : State :=
  match s.scanner.queue with
  | [] => { s with scanner := { s.scanner with sweep := none } }
  | i :: _ => sweepStart i s

/-- R68, R78: a lane's sampling position set; a relock timer running in HUNT is restarted in full. -/
def Lane.setPosition (now : BitVec 48) (timeout p : Nat) (x : Lane) : Lane :=
  { x with
    position := p
    relock := if x.rx = .hunt ∧ x.relock ≠ none ∧ x.position ≠ p then timerAfter now timeout
              else x.relock }

/-- R68, R154: a lane at the advance to `p`. DEDUCED (log 39): a relock timer whose time has come is no longer
running; its expiry, which meets the completion of the position before, makes the lane DEAD in the same event,
so that it is BROKEN at `p` (R151). -/
def Lane.advance (now : BitVec 48) (timeout p : Nat) (x : Lane) : Lane :=
  if x.relockDue now then { x.die .relockTimeout with position := p } else x.setPosition now timeout p

/-- R154: the position advances to `p`. -/
def sweepAdvance (i : SlotId) (sw : Sweep) (s : State) : State :=
  let p := sw.position + 1
  takeSteps i p sw.steps (s.modSlot i fun sl =>
    sl.mapLanes fun l x =>
      if (sw.steps[l.val]).takesPart then x.advance s.us sl.profile.relockTimeout p else x)

/-- R155 steps 2 and 3: the eyes of the scanned lanes, and the findings they give. -/
def Slot.computeEyes (sl : Slot) : Slot :=
  let lanes := byLane fun l =>
    let r := sl.scan.lanes[l.val]
    if r.scanned then
      let e := eye r.counts sl.profile.tolerance
      { r with width := e.1, centre := e.2.1, noEye := e.2.2 }
    else r
  { sl with
    scan := { status := .complete, lanes := lanes }
    findings := addFindings sl.findings
      ((allLanes.filter fun l => (lanes[l.val]).scanned).flatMap fun l =>
        eyeFindings sl.profile.minEyeWidth l (lanes[l.val])) }

/-- R155: the sweep of slot `i` completes, and the next sweep, if a slot waits, begins. -/
def sweepComplete (i : SlotId) (s : State) : State :=
  let s₁ := s.modSlot i fun sl =>
    { (sl.mapLanes fun l x =>
        if (sl.scan.lanes[l.val]).scanned then x.setPosition s.us sl.profile.relockTimeout 0
        else x).computeEyes with scanPending := true }
  sweepNext (verdictCore i
    { s₁ with scanner := { queue := s.scanner.queue.tail, sweep := none } })

/-- R154, R155: while no lane of the head is in WAIT_LOCK or DWELL the position advances, and at
position 31 the sweep completes. One event can pass through many positions and several slots only where
every scanned lane is BROKEN; `n` bounds their number. -/
def sweepRun : Nat → State → State
  | 0, s => s
  | n + 1, s =>
    match s.scanner.queue, s.scanner.sweep with
    | i :: _, some sw =>
      if sw.busy then s
      else if sw.position < 31 then sweepRun n (sweepAdvance i sw s)
      else sweepRun n (sweepComplete i s)
    | _, _ => s

/-- The most advances and completions one event can hold: 32 for each of the twelve slots. -/
def sweepBound : Nat := 384

/-- The sweep goes on as far as one event takes it. -/
def sweepSettle (s : State) : State := sweepRun sweepBound s

/-- R158: slot `i`, if it is in the Scan Queue, is withdrawn; where it was the head, the next sweep begins.
The event that withdraws it runs that sweep on from there (`sweepSettle`) once it has acted on every slot it
names, so a slot withdrawn after it has not been swept (log 35). -/
def withdrawScan (i : SlotId) (s : State) : State :=
  if i ∈ s.scanner.queue then
    let s₁ := s.modSlot i fun sl => { sl with scan := .empty }
    let s₂ := { s₁ with scanner := { s.scanner with queue := s.scanner.queue.filter (· ≠ i) } }
    if s.scanner.queue.head? = some i then sweepNext s₂ else s₂
  else s

/-! ### Entries (R57, R64, R86 to R89, R119, R120, R134, R148) -/

/-- R89: slot `i` enters VERDICT. -/
def toVerdict (i : SlotId) (s : State) : State :=
  withdrawScan i (withdrawDiscovery i (verdictCore i s))

/-- R88: slot `i` enters WATCH. -/
def toWatch (i : SlotId) (s : State) : State :=
  withdrawScan i (withdrawDiscovery i (s.modSlot i fun sl =>
    { sl.park with state := .watch, stateTimer := none }))

/-- R57, R86: slot `i` enters SETTLE: the state timer starts for the settle time and the lanes in the
mask wake. -/
def toSettle (i : SlotId) (s : State) : State :=
  s.modSlot i fun sl =>
    { sl.mapLanes (fun l x =>
        if sl.inMask l then x.wake i l sl.profile.payload s.patterns else x) with
      state := .settle
      stateTimer := timerAfter s.us (sl.profile.settle * 16) }

/-- R148: slot `i` enters SCAN: its scan result becomes EMPTY, it joins the Scan Queue at its tail, and
its sweep begins if the queue was empty. -/
def toScan (i : SlotId) (s : State) : State :=
  let s₁ := s.modSlot i fun sl => { sl with state := .scan, stateTimer := none, scan := .empty }
  let s₂ := { s₁ with scanner := { s.scanner with queue := s.scanner.queue ++ [i] } }
  if s.scanner.queue.isEmpty then sweepSettle (sweepNext s₂) else s₂

/-- R64, R74: a lane at its slot's entry to SOAK. -/
def Lane.soakEntry (soaked : Bool) (x : Lane) : Lane :=
  let x := { x with counters := .cleared }
  if soaked then
    { x with soakRole := true, soakSource := x.source, fixedPol := some x.polarity }
  else x

/-- R127, R134: slot `i` enters SOAK, its soaked lanes those its Wiring Map classes MATCH, SWAPPED or
INVERTED. -/
def toSoak (i : SlotId) (s : State) : State :=
  s.modSlot i fun sl =>
    { sl.mapLanes (fun l x => x.soakEntry (sl.wiring[l.val]).cls.usable) with
      state := .soak
      stateTimer := none
      checkpoints := 0
      joined := false }

/-- R122 to R126: the end of training of slot `i`: the Wiring Map is filled, the findings are added and
the slot moves on. -/
def endTraining (i : SlotId) (s : State) : State :=
  let sl := s.slot i
  let m := wireMap i sl
  let fs := wireFindings sl m
  let s₁ := s.withSlot i { sl with wiring := m, findings := addFindings sl.findings fs }
  if sl.profile.stopOnFail && hasFailing fs then toVerdict i s₁
  else if !anyUsable m then toVerdict i s₁
  else toSoak i s₁

/-- R121, R122: every counted lane of the slot is confirmed. -/
def Slot.allConfirmed (sl : Slot) : Bool :=
  allLanes.all fun l => !sl.counted l || decide (sl.confirm[l.val] = 4)

/-- R119: the slot has no counted lane. -/
def Slot.noneCounted (sl : Slot) : Bool := allLanes.all fun l => !sl.counted l

/-- R86, R119 to R122: slot `i` enters TRAIN: the state timer starts for the train timeout, the plug
lane count is set, the expected map is formed and the confirmation counts become 0; with no counted
lane training ends in the same event. -/
def toTrain (i : SlotId) (s : State) : State :=
  let s₁ := s.modSlot i fun sl =>
    let n := plugLaneCount sl.identity
    { sl with
      state := .train
      stateTimer := timerAfter s.us (sl.profile.trainTimeout * 1000)
      plugLanes := n
      expected := byLane fun l => expectLane i sl.identity n l
      confirm := byLane fun _ => 0 }
  if (s₁.slot i).noneCounted then endTraining i s₁ else s₁

/-! ### Soak (R135 to R143) -/

/-- R137: the progress values of the slot as they stand, and its PROGRESS record pending. -/
def Slot.freeze (snapshot : Bool) (sl : Slot) : Slot :=
  { sl with
    progressPending := true
    frozen := some
      { checkpoints := sl.checkpoints
        snapshot := snapshot
        lanes := byLane fun l =>
          let x := sl.lane l
          { blocks := x.counters.blocks, errors := x.counters.errors, drops := x.counters.drops,
            state := x.reported } } }

/-- R142, R143: the soak of slot `i` ends: its soaked lanes are judged and the slot leaves SOAK. -/
def endSoak (i : SlotId) (byCeiling : Bool) (s : State) : State :=
  let s₁ := s.modSlot i fun sl => { sl with findings := addFindings sl.findings (judgeFindings sl) }
  let sl := s₁.slot i
  if byCeiling then toVerdict i s₁
  else
    match sl.profile.marginMode with
    | .always => toScan i s₁
    | .onPass => if hasFailing sl.findings then toVerdict i s₁ else toScan i s₁
    | .off => toVerdict i s₁

/-- R135, R136 steps 1 and 2, and R139: the slot at a checkpoint it meets in SOAK, up to the ceiling's
findings. -/
def Slot.meetCheckpoint (sl : Slot) : Slot :=
  let sl₁ := if sl.joined then { sl with checkpoints := sl.checkpoints + 1 }
             else { sl with joined := true }
  let sl₂ := if sl₁.profile.progressReports then sl₁.freeze false else sl₁
  { sl₂ with findings := addFindings sl₂.findings (ceilingFindings sl) }

/-- R135, R136, R139: slot `i` acts on a checkpoint, if it is in SOAK. The ceiling is exceeded when at
least one lane's errors are above it, whether or not its finding was in the list already. -/
def slotCheckpoint (i : SlotId) (s : State) : State :=
  let sl := s.slot i
  if sl.state ≠ .soak then s
  else
    let s₁ := s.withSlot i sl.meetCheckpoint
    if !(ceilingFindings sl).isEmpty then endSoak i true s₁
    else if sl.joined && decide (sl.profile.soakLength ≤ (s₁.slot i).checkpoints) then
      endSoak i false s₁
    else s₁

/-- The order in which the slots act on the `k`-th checkpoint: every slot once, those the free value
names in its order (log 9). -/
def slotOrder (k : Nat) : List SlotId := (allSlots ++ Config.checkpointOrder k).dedup

/-- R132: a checkpoint: every slot in SOAK acts on it. -/
def checkpointAll (s : State) : State :=
  (slotOrder s.freeCount).foldl (fun s i => slotCheckpoint i s)
    { s with freeCount := s.freeCount + 1 }

/-! ### The timebase (R131, R132) -/

/-- R132: an interval: the postscaler count is incremented, and its return to 0 is a checkpoint. -/
def intervalTick (s : State) : State :=
  if s.timebase.postscale ≤ s.timebase.postscalerCount + 1 then
    checkpointAll { s with timebase := { s.timebase with postscalerCount := 0 } }
  else
    { s with timebase := { s.timebase with postscalerCount := s.timebase.postscalerCount + 1 } }

/-- R132: the period counter is incremented, and its return to 0 is an interval. -/
def periodTick (s : State) : State :=
  if s.timebase.period ≤ s.timebase.periodCount + 1 then
    intervalTick { s with timebase := { s.timebase with periodCount := 0 } }
  else { s with timebase := { s.timebase with periodCount := s.timebase.periodCount + 1 } }

/-- R132: the prescaler count is incremented, and its return to 0 increments the period counter. -/
def prescalerTick (s : State) : State :=
  if s.timebase.prescale ≤ s.timebase.prescalerCount + 1 then
    periodTick { s with timebase := { s.timebase with prescalerCount := 0 } }
  else { s with timebase := { s.timebase with prescalerCount := s.timebase.prescalerCount + 1 } }

/-- One increment of the µs counter, with all it brings about in the timebase (R132). -/
def usTick (s : State) : State := prescalerTick { s with us := s.us + 1 }

/-- The next increment of the µs counter makes the prescaler count wrap. -/
def wrapDue (s : State) : Bool := decide (s.timebase.prescale ≤ s.timebase.prescalerCount + 1)

/-- The next increment of the µs counter makes an interval. -/
def intervalDue (s : State) : Bool :=
  wrapDue s && decide (s.timebase.period ≤ s.timebase.periodCount + 1)

/-- The next increment of the µs counter makes a checkpoint. -/
def checkpointDue (s : State) : Bool :=
  intervalDue s && decide (s.timebase.postscale ≤ s.timebase.postscalerCount + 1)

end Sys2Proof.Machine
end

