-- ==== Sys2Proof/Machine/Layout.lean ====
section
/-! DEFINITION. The bytes of records (chapter 11.2, R163, R168, R179): the header, and the content of
each kind as gathered from the state. Every byte that no field occupies is 0. -/

namespace Sys2Proof.Machine

open Sys2Proof

/-! ### Encodings (chapter 11.2) -/

/-- A byte from a number below 256. -/
def byteOf (n : Nat) : Byte := BitVec.ofNat 8 n

/-- 1 for true, 0 for false. -/
def bit (b : Bool) : Nat := if b then 1 else 0

/-- The kind byte of a record header. -/
def RecordKind.byte : RecordKind → Byte
  | .verdict => 1
  | .scan => 2
  | .progress => 3
  | .event => 4
  | .status => 5
  | .pad => 6

/-- The encoding of a slot state. -/
def SlotState.code : SlotState → Nat
  | .off => 0
  | .watch => 1
  | .settle => 2
  | .discover => 3
  | .train => 4
  | .soak => 5
  | .scan => 6
  | .verdict => 7
  | .done => 8

/-- The encoding of a lane state. -/
def LaneState.code : LaneState → Nat
  | .parked => 0
  | .waking => 1
  | .hunt => 2
  | .locked => 3
  | .dead => 4

/-- The encoding of a dead cause or a break cause. -/
def causeCode : Option DeadCause → Nat
  | none => 0
  | some .relockTimeout => 1
  | some .sourceChange => 2

/-- The encoding of an outcome; `none` stands in no VERDICT record, since every entry to VERDICT
composes one. -/
def verdictCode : Option Verdict → Nat
  | none => 0
  | some .pass => 1
  | some .passWithNotes => 2
  | some .fail => 3
  | some .aborted => 4

/-- The encoding of a Wiring Map class. -/
def WireClass.code : WireClass → Nat
  | .none => 0
  | .excluded => 1
  | .open => 2
  | .shared => 3
  | .crossed => 4
  | .swapped => 5
  | .inverted => 6
  | .isMatch => 7

/-- The encoding of a window role in the STATUS record. -/
def Role.code : Role → Nat
  | .off => 0
  | .pattern => 1
  | .report => 2
  | .command => 3

/-- The byte of a lane, or 0xFF for none. -/
def laneByte : Option LaneId → Byte
  | none => 0xFF
  | some l => byteOf l.val

/-- The byte of a source, or 0xFF for none (R179). -/
def sourceByte : Option Source → Byte
  | none => 0xFF
  | some src => byteOf src.code

/-- The slot byte of a record header. -/
def RecSource.byte : RecSource → Byte
  | .slot i => byteOf i.val
  | .status => 0xFF

/-- The bytes brought to `n` bytes: filled with 0 at the end. -/
def padTo (n : Nat) (bytes : List Byte) : List Byte := (bytes ++ zeroBytes (n - bytes.length)).take n

/-- The 16-byte record header (R163, chapter 11.2). -/
def headerBytes (kind : RecordKind) (slot : Byte) (length : Nat) (more : Bool) (seq : BitVec 16)
    (now : BitVec 48) : List Byte :=
  [kind.byte, slot, byteOf (length / 32), byteOf (bit more)] ++ leBytes 2 seq.toNat ++
    leBytes 6 now.toNat ++ zeroBytes 4

/-! ### Lengths (R163) -/

/-- The value rounded up to a multiple of 32. -/
def roundUp32 (n : Nat) : Nat := (n + 31) / 32 * 32

/-- R163: the length of a VERDICT record. -/
def verdictLength (sl : Slot) : Nat :=
  roundUp32 (32 + 32 * (lanesOf sl.profile.laneMask).length + 8 * sl.findings.length)

/-- R163: the length of a record of the kind from the source, but for PAD. -/
def recordLength (s : State) (src : RecSource) (kind : RecordKind) : Nat :=
  match kind, src with
  | .verdict, .slot i => verdictLength (s.slot i)
  | .verdict, .status => 32
  | .scan, _ => 192
  | .progress, _ => 64
  | .event, _ => 32
  | .status, _ => 256
  | .pad, _ => 32

/-! ### Content (R168, chapters 11.2.1 to 11.2.3) -/

/-- The scan result of a lane as records carry it: unscanned unless the slot's result is COMPLETE
(R147, R168). -/
def Slot.scanReport (sl : Slot) (l : LaneId) : ScanLane :=
  if sl.scan.status = .complete then sl.scan.lanes[l.val] else .empty

/-- The VERDICT summary, bytes 16..31. DESIGN CHOICE (log 42): of a slot with no plug identity the number of
descriptors read is written 0. -/
def summaryBytes (sl : Slot) : List Byte :=
  let identity := sl.identity.getD { plugId := none, loopMap := none, descriptors := 0 }
  let p := identity.plugId.getD
    { model := 0, revision := 0, serial := 0, laneCount := 0, flags := 0 }
  let loopFlags : Byte := match identity.loopMap with
    | none => 0
    | some m => m.flags
  [byteOf (verdictCode sl.outcome), byteOf sl.attempts,
   byteOf (sl.profile.laneMask.toNat + 16 * sl.profileNumber.val), byteOf sl.findings.length,
   byteOf (bit identity.plugId.isSome + 2 * bit identity.loopMap.isSome),
   byteOf identity.descriptors, p.flags, loopFlags] ++
    leBytes 2 p.model.toNat ++ [p.revision, byteOf p.laneCount] ++ leBytes 4 p.serial.toNat

/-- The 32-byte lane section of a VERDICT record. -/
def laneSection (sl : Slot) (l : LaneId) : List Byte :=
  let w := sl.wiring[l.val]
  let f := sl.finals[l.val]
  let r := sl.scanReport l
  let c := (sl.lane l).counters
  let cap : Capture :=
    c.capture.getD { blocks := 0, frameCount := 0, received := 0, expected := 0 }
  [byteOf (w.cls.code + 16 * bit (decide (w.polarity = .inverted)) + 32 * bit f.soaked +
     64 * bit c.capture.isSome + 128 * bit r.scanned),
   sourceByte w.source, byteOf (f.state.code + 16 * causeCode f.cause),
   byteOf (r.width + 128 * bit r.noEye), byteOf r.centre, byteOf c.drops, byteOf c.headerErrors,
   cap.frameCount] ++
    leBytes 4 c.blocks ++ leBytes 2 c.errors ++
    leBytes 2 (min (allowance c.blocks sl.profile.berM sl.profile.berX) 65535) ++
    leBytes 4 (minBlocks sl.profile.berM sl.profile.berX) ++
    leBytes 4 cap.blocks ++ leBytes 4 cap.received.toNat ++ leBytes 4 cap.expected.toNat

/-- The 8 bytes of a finding. -/
def findingBytes (f : Finding) : List Byte :=
  [f.code.byte, laneByte f.lane, byteOf (bit f.failing), 0] ++ leBytes 4 f.value

/-- R168: the content of a VERDICT record after its header. -/
def verdictBytes (sl : Slot) : List Byte :=
  summaryBytes sl ++ (lanesOf sl.profile.laneMask).flatMap (laneSection sl) ++
    sl.findings.flatMap findingBytes

/-- R168: the content of a SCAN record after its header. DESIGN CHOICE (log 42): the break position of a scanned
lane that did not break is written 0. -/
def scanBytes (sl : Slot) : List Byte :=
  (allLanes.flatMap fun l =>
    let r := sl.scanReport l
    let cause := match r.broken with
      | none => none
      | some (_, c) => some c
    let place := match r.broken with
      | none => 0
      | some (p, _) => p
    [byteOf (bit r.scanned + 2 * bit r.noEye + 4 * bit r.broken.isSome + 16 * causeCode cause),
     byteOf r.width, byteOf r.centre, byteOf place]) ++
  allLanes.flatMap fun l => (sl.scanReport l).counts.toList.map byteOf

/-- R168: the content of a PROGRESS record after its header: all 0 where nothing was frozen. -/
def progressBytes (sl : Slot) : List Byte :=
  match sl.frozen with
  | none => []
  | some f =>
    [byteOf f.checkpoints, byteOf (bit f.snapshot)] ++ zeroBytes 14 ++
      allLanes.flatMap fun l =>
        let x := f.lanes[l.val]
        leBytes 4 x.blocks ++ leBytes 2 x.errors ++ [byteOf x.drops, byteOf x.state.code]

/-- R168: the content of an EVENT record after its header. -/
def eventBytes (sl : Slot) : List Byte :=
  leBytes 2 sl.flags.toNat ++ [byteOf (bit sl.present), byteOf sl.attempts, byteOf sl.state.code]

/-- The 8 bytes of a window in the STATUS record. -/
def windowBytes (w : Window) : List Byte :=
  leBytes 4 (w.base.toNat / 4096) ++ leBytes 2 (w.size / 4096) ++
    [byteOf w.role.code, byteOf w.pattern.val]

/-- Bytes 80..103 of the STATUS record. -/
def ringBytes (w : Writer) : List Byte :=
  let base := match w.ring with
    | none => 0
    | some r => r.base.toNat
  let size := match w.ring with
    | none => 0
    | some r => r.size
  leBytes 4 (base / 4096) ++ leBytes 2 (size / 4096) ++ [byteOf (bit w.broken), 0] ++
    leBytes 4 w.write ++ leBytes 4 w.oldest ++ leBytes 4 w.used ++ leBytes 2 w.list.length ++
    leBytes 2 w.seq.toNat

/-- The two bytes of a slot in the STATUS record. -/
def slotBytes (sl : Slot) : List Byte :=
  [byteOf sl.state.code, byteOf (sl.attempts + 16 * sl.profileNumber.val)]

/-- The 8 bytes of a pattern in the STATUS record. -/
def patternBytes (p : Pattern) : List Byte :=
  [byteOf p.length, byteOf p.inUse, 0, 0] ++ leBytes 4 p.valid.toNat

/-- The 28 bytes of the decoder counts in the STATUS record. -/
def countBytes (c : Counts) : List Byte :=
  leBytes 4 c.commandsTaken ++ leBytes 4 c.commandsRefused ++ leBytes 4 c.partialWrites ++
    leBytes 4 c.commandWritesFailed ++ leBytes 4 c.crossingRequests ++
    leBytes 4 c.trespassWrites ++ leBytes 4 c.insertedWritesFailed

/-- Bytes 208..223 of the STATUS record. -/
def attentionBytes (a : Attention) : List Byte :=
  [byteOf (bit a.lineEnable + 2 * bit a.wordEnable), a.mask.setWidth 8, byteOf a.threshold,
   byteOf a.delay] ++ leBytes 5 a.address.toNat ++ zeroBytes 3 ++ leBytes 4 a.count.toNat

/-- The number of host entries in the Sideband Queue. -/
def hostEntries (q : List SbEntry) : Nat := (q.filter SbEntry.isHost).length

/-- R168: the content of a STATUS record after its header. -/
def statusBytes (s : State) : List Byte :=
  s.path.windows.toList.flatMap windowBytes ++ ringBytes s.writer ++
    s.slots.toList.flatMap slotBytes ++
    (s.scanner.queue.map fun i => byteOf i.val) ++
    List.replicate (12 - s.scanner.queue.length) 0xFF ++
    [byteOf (s.sideband.queue.length - hostEntries s.sideband.queue),
     byteOf (hostEntries s.sideband.queue), byteOf s.timebase.prescale,
     byteOf s.timebase.postscale] ++
    leBytes 2 s.timebase.period ++ zeroBytes 2 ++ s.patterns.toList.flatMap patternBytes ++
    countBytes s.decoder.counts ++ attentionBytes s.attention

/-- R168: the content of a record of the kind from the source. -/
def contentBytes (s : State) (src : RecSource) (kind : RecordKind) : List Byte :=
  match src with
  | .status => statusBytes s
  | .slot i =>
    match kind with
    | .verdict => verdictBytes (s.slot i)
    | .scan => scanBytes (s.slot i)
    | .progress => progressBytes (s.slot i)
    | .event => eventBytes (s.slot i)
    | .status | .pad => []

end Sys2Proof.Machine
end

