-- ==== Sys2Proof/Machine/RingOps.lean ====
section
/-! DEFINITION. The shared operations of the Record Writer and the Attention Unit (chapter 10): what is
pending, selection, the write of a record, publication and failure, the ring reset, consumption and
the attention condition. -/

namespace Sys2Proof.Machine

open Sys2Proof

/-- The state with the Record Writer changed by `f`. -/
def State.modWriter (s : State) (f : Writer → Writer) : State := { s with writer := f s.writer }

/-- The state with the Attention Unit changed by `f`. -/
def State.modAttention (s : State) (f : Attention → Attention) : State :=
  { s with attention := f s.attention }

/-- The state with the STATUS-pending flag set to `b` (R40). -/
def State.setStatusPending (s : State) (b : Bool) : State :=
  { s with decoder := { s.decoder with statusPending := b } }

/-! ### What is pending (R164) -/

/-- R164: the kinds a slot has pending, in the order of R165. -/
def Slot.pendingKinds (sl : Slot) : List RecordKind :=
  (if sl.flags ≠ 0 then [.event] else []) ++ (if sl.progressPending then [.progress] else []) ++
    (if sl.scanPending then [.scan] else []) ++ (if sl.verdictPending then [.verdict] else [])

/-- R164: the kinds a source has pending. -/
def pendingKinds (s : State) : RecSource → List RecordKind
  | .slot i => (s.slot i).pendingKinds
  | .status => if s.decoder.statusPending then [.status] else []

/-- R164: the pending indication of the kind is cleared at the source: what a write start does. -/
def clearPending (src : RecSource) (kind : RecordKind) (s : State) : State :=
  match src, kind with
  | .slot i, .event => s.modSlot i fun sl => { sl with flags := 0 }
  | .slot i, .progress => s.modSlot i fun sl => { sl with progressPending := false }
  | .slot i, .scan => s.modSlot i fun sl => { sl with scanPending := false }
  | .slot i, .verdict => s.modSlot i fun sl => { sl with verdictPending := false }
  | .status, .status => s.setStatusPending false
  | .slot _, .status | .slot _, .pad => s
  | .status, .event | .status, .progress | .status, .scan | .status, .verdict | .status, .pad => s

/-- R164: the kind of an unpublished record becomes pending again; an EVENT record's flags are merged
back into the slot's. -/
def repend (f : InFlight) (s : State) : State :=
  match f.source, f.kind with
  | .slot i, .event => s.modSlot i fun sl => { sl with flags := sl.flags ||| f.flags }
  | .slot i, .progress => s.modSlot i fun sl => { sl with progressPending := true }
  | .slot i, .scan => s.modSlot i fun sl => { sl with scanPending := true }
  | .slot i, .verdict => s.modSlot i fun sl => { sl with verdictPending := true }
  | .status, .status => s.setStatusPending true
  | .slot _, .status | .slot _, .pad => s
  | .status, .event | .status, .progress | .status, .scan | .status, .verdict | .status, .pad => s

/-! ### Selection and room (R165, R166) -/

/-- The sources in their cyclic order, slot 0 to slot 11 and the status source. -/
def allSources : List RecSource := allSlots.map .slot ++ [.status]

/-- The sources beginning with the one after `last` (R165). -/
def sourcesAfter (last : RecSource) : List RecSource :=
  let k := allSources.idxOf last + 1
  allSources.drop k ++ allSources.take k

/-- R165: the source and the kind that would be chosen. -/
def chooseSource (s : State) : Option (RecSource × RecordKind) :=
  (sourcesAfter s.writer.lastSource).findSome? fun src =>
    (pendingKinds s src).head?.map fun kind => (src, kind)

/-- R165: everything but a pending kind that a selection needs. -/
def Writer.free (w : Writer) : Bool :=
  w.selection.isNone && w.inFlight.isNone && w.abandoned.isNone && w.ring.isSome && !w.broken

/-- R165: a selection is made where its conditions hold. -/
def select (s : State) : State :=
  if s.writer.free then
    match chooseSource s with
    | none => s
    | some (src, kind) =>
      let sel : Selection := { source := src, kind := kind, length := recordLength s src kind }
      s.modWriter fun w => { w with selection := some sel, lastSource := src }
  else s

/-- R165: a selection whose kind is no longer pending is dropped. -/
def dropStale (s : State) : State :=
  match s.writer.selection with
  | none => s
  | some sel =>
    if sel.kind ∈ pendingKinds s sel.source then s
    else s.modWriter fun w => { w with selection := none }

/-- R166: a PAD is needed before a record of `len` bytes. -/
def Writer.padNeeded (w : Writer) (size len : Nat) : Bool := decide (size < w.write + len)

/-- R166: a selection of `len` bytes fits the ring. -/
def Writer.fits (w : Writer) (len : Nat) : Bool :=
  match w.ring with
  | none => false
  | some r =>
    if w.padNeeded r.size len then decide ((r.size - w.write) + len ≤ r.size - w.used)
    else decide (len ≤ r.size - w.used)

/-- A selection waits: it is held and no record is in flight (a PAD before it would be one). -/
def Writer.waitingSelection (w : Writer) : Option Selection :=
  if w.inFlight.isNone then w.selection else none

/-- R166: the Record Writer is stalled: a waiting selection does not fit. -/
def Writer.stalled (w : Writer) : Bool :=
  match w.waitingSelection with
  | none => false
  | some sel => !w.fits sel.length

/-! ### Attention (R173 to R176) -/

/-- R173: the kind is in the mask; PAD never is. -/
def kindInMask (mask : BitVec 6) : RecordKind → Bool
  | .verdict => mask.getLsbD 0
  | .scan => mask.getLsbD 1
  | .progress => mask.getLsbD 2
  | .event => mask.getLsbD 3
  | .status => mask.getLsbD 4
  | .pad => false

/-- The records of the Unconsumed List whose kind is in the mask (R174), oldest first. -/
def qualifying (s : State) : List Published :=
  s.writer.list.filter fun p => kindInMask s.attention.mask p.kind

/-- R174: the parts THRESHOLD, AGE and STALL of the condition. -/
def attentionParts (s : State) : Bool × Bool × Bool :=
  (decide (s.attention.threshold ≤ (qualifying s).length),
   decide (s.attention.delay ≠ 0) && decide (s.attention.age = .expired),
   s.attention.mask.getLsbD 5 && (s.writer.stalled || s.writer.broken))

/-- R174: the condition. -/
def attentionTrue (s : State) : Bool :=
  let (threshold, age, stall) := attentionParts s
  threshold || age || stall

/-- R176: the reason flags of an attention word: bit 0 THRESHOLD, bit 1 AGE, bit 2 STALL. -/
def attentionReasons (s : State) : BitVec 3 :=
  let (threshold, age, stall) := attentionParts s
  BitVec.ofNat 3 (bit threshold + 2 * bit age + 4 * bit stall)

/-- R176: the attention word a change to true forms, `count` the attention count after it. -/
def attentionWord (s : State) (count : BitVec 32) : AttnWord where
  addr    := s.attention.address
  seq     := s.writer.seq - 1
  records := s.writer.list.length
  reasons := attentionReasons s
  count   := count

/-- R174, R176: the condition is evaluated. A change from false to true increments the attention count
and, with word enable yes, forms the waiting word or replaces its contents. -/
def evaluate (s : State) : State :=
  if attentionTrue s = s.attention.condition then s
  else if attentionTrue s then
    s.modAttention fun a =>
      { a with
        condition := true
        count := a.count + 1
        waiting := if a.wordEnable then some (attentionWord s (a.count + 1)) else a.waiting }
  else s.modAttention fun a => { a with condition := false }

/-- R174: the age timer set again: on the oldest qualifying record where the delay is not 0 and there
is one, expired at once where its time is past, else stopped. -/
def resetAge (s : State) : State :=
  let age : AgeTimer :=
    match qualifying s with
    | [] => .stopped
    | p :: _ =>
      if s.attention.delay = 0 then .stopped
      else
        let expiry := p.time + BitVec.ofNat 48 (s.attention.delay * 1000)
        if reached s.us expiry then .expired else .running expiry
  s.modAttention fun a => { a with age := age }

/-- R175: ATTN_N is asserted. -/
def attnAsserted (s : State) : Bool :=
  s.attention.condition && s.attention.lineEnable && !s.porst

/-- The end of an event that can change what is pending, the ring or an input of the condition: a stale
selection is dropped, a selection is made if one can be, and the condition is evaluated
(R165, R174). -/
def settle (s : State) : State := evaluate (select (dropStale s))

/-! ### The write of a record (R166, R167) -/

/-- R167: the record's slot has another kind pending. -/
def moreFlag (s : State) (src : RecSource) (kind : RecordKind) : Bool :=
  match src with
  | .status => false
  | .slot _ => (pendingKinds s src).any fun k => decide (k ≠ kind)

/-- R167: the pieces of a record of bytes `b` at address `a`, in the order in which they are offered: the
piece that holds the header comes last. -/
def piecesOf (a : Addr) (b : List Byte) : List InsWrite :=
  let write (at_ : Addr) (bytes : List Byte) : InsWrite := { addr := at_, bytes := bytes.map some }
  let room := 4096 - a.toNat % 4096
  let cut := if room < b.length then room else if 256 < b.length then 256 else b.length
  if cut < b.length then
    [write (a + BitVec.ofNat 40 cut) (b.drop cut), write a (b.take cut)]
  else [write a b]

/-- The event flags of a source, none for the status source. -/
def flagsOf (s : State) : RecSource → EventFlags
  | .slot i => (s.slot i).flags
  | .status => 0

/-- R163, R167, R168: the bytes of the selected record, gathered from the state. -/
def recordBytes (s : State) (sel : Selection) : List Byte :=
  padTo sel.length
    (headerBytes sel.kind sel.source.byte sel.length (moreFlag s sel.source sel.kind) s.writer.seq s.us
      ++ contentBytes s sel.source sel.kind)

/-- R167: the record in flight that the selected record becomes. -/
def recordInFlight (s : State) (r : Ring) (sel : Selection) : InFlight where
  source := sel.source
  kind   := sel.kind
  offset := s.writer.write
  length := sel.length
  flags  := if sel.kind = .event then flagsOf s sel.source else 0
  pieces := piecesOf (r.base + BitVec.ofNat 40 s.writer.write) (recordBytes s sel)
  joined := none

/-- R166: the PAD in flight before the selected record. -/
def padInFlight (s : State) (r : Ring) (sel : Selection) : InFlight where
  source := sel.source
  kind   := .pad
  offset := s.writer.write
  length := r.size - s.writer.write
  flags  := 0
  pieces := piecesOf (r.base + BitVec.ofNat 40 s.writer.write)
    (headerBytes .pad 0xFF (r.size - s.writer.write) false s.writer.seq s.us)
  joined := none

/-- R166, R167: the write of a waiting selection starts if it fits: the PAD's where one is needed, else
the record's. -/
def startWrite (s : State) : State :=
  match s.writer.waitingSelection, s.writer.ring with
  | some sel, some r =>
    if s.writer.fits sel.length then
      if s.writer.padNeeded r.size sel.length then
        s.modWriter fun w => { w with inFlight := some (padInFlight s r sel) }
      else
        clearPending sel.source sel.kind
          (s.modWriter fun w =>
            { w with inFlight := some (recordInFlight s r sel), selection := none })
    else s
  | _, _ => s

/-! ### Publication and failure (R169, R170) -/

/-- R90: a slot whose VERDICT record is published enters DONE. -/
def enterDone (i : SlotId) (s : State) : State :=
  s.modSlot i fun sl => { sl with state := .done, stateTimer := none }

/-- R90, R169: what the publication of the record does to its slot. -/
def publishedSlot (f : InFlight) (s : State) : State :=
  match f.source, f.kind with
  | .slot i, .verdict => enterDone i s
  | _, _ => s

/-- R169: the record in flight `f` is published: the ring and the list. -/
def publishRing (f : InFlight) (size : Nat) (now : BitVec 48) (w : Writer) : Writer :=
  { w with
    list := w.list ++ [{ offset := f.offset, length := f.length, kind := f.kind, time := now }]
    used := w.used + f.length
    write := (w.write + f.length) % size
    seq := w.seq + 1
    inFlight := none }

/-- R169: the record in flight `f` is published. The age timer is set where no qualifying record was
held (R174), the condition is evaluated, then a selection behind a PAD starts its write and the writer
selects again. -/
def publish (f : InFlight) (s : State) : State :=
  match s.writer.ring with
  | none => s
  | some r =>
    let s₁ := publishedSlot f (s.modWriter (publishRing f r.size s.us))
    let s₂ := if (qualifying s).isEmpty then resetAge s₁ else s₁
    settle (startWrite (evaluate s₂))

/-- R170: a piece of the record in flight `f` was acknowledged ERROR: BROKEN is set, the record is not
published and its kind becomes pending again; after a failed PAD the selection is dropped. -/
def failRecord (f : InFlight) (s : State) : State :=
  settle (repend f ((insertedFailed s).modWriter fun w =>
    { w with broken := true, inFlight := none, selection := none }))

/-- R167, R169: a piece of the record in flight `f` was acknowledged OK: the next piece is offered, and
after the last the record is published. -/
def pieceDone (f : InFlight) (s : State) : State :=
  match f.pieces.tail with
  | [] => publish f s
  | rest => s.modWriter fun w => { w with inFlight := some { f with pieces := rest, joined := none } }

/-! ### The ring reset (R171) -/

/-- The ring of the REPORT window as the table stands, if there is one. -/
def reportRing (ws : Vector Window 8) : Option Ring :=
  (ws.toList.find? fun w => decide (w.role = .report)).map fun w => { base := w.base, size := w.size }

/-- R171: the Record Writer after a ring reset; `left` is the abandoned piece it leaves. -/
def Writer.reset (ring : Option Ring) (left : Option (Fin 8)) : Writer where
  ring       := ring
  write      := 0
  oldest     := 0
  used       := 0
  list       := []
  seq        := 0
  broken     := false
  lastSource := .status
  selection  := none
  inFlight   := none
  abandoned  := left

/-- R171: the piece that is in the Insert Queue and belongs to an abandoned record after a ring reset. -/
def Writer.leftBehind (w : Writer) : Option (Fin 8) :=
  match w.inFlight with
  | some f => f.joined
  | none => w.abandoned

/-- R171: a ring reset; `keepPiece` says whether a piece in the Insert Queue stays there as the
abandoned piece (it does not at a port reset). A record in flight is abandoned and its kind becomes
pending again. -/
def ringReset (keepPiece : Bool) (s : State) : State :=
  let left := if keepPiece then s.writer.leftBehind else none
  let s₁ := match s.writer.inFlight with
    | none => s
    | some f => repend f s
  resetAge (s₁.modWriter fun _ => .reset (reportRing s.path.windows) left)

/-! ### Consumption (R172) -/

/-- R172: the 16 header bytes of the record lie wholly within the byte range. -/
def headerCovered (base : Addr) (p : Published) (addr : Addr) (beats : Nat) : Bool :=
  decide (addr.toNat ≤ base.toNat + p.offset) &&
    decide (base.toNat + p.offset + 16 ≤ addr.toNat + 16 * beats)

/-- R172: the entries that remain of a list, the consumed ones taken from its front. -/
def consumeList (covered : Published → Bool) : List Published → List Published
  | [] => []
  | p :: ps => if covered p then consumeList covered ps else p :: ps

/-- The bytes of the entries consumed. -/
def consumedBytes (covered : Published → Bool) : List Published → Nat
  | [] => 0
  | p :: ps => if covered p then p.length + consumedBytes covered ps else 0

/-- R172: the Record Writer after a REPORT read. -/
def Writer.consume (covered : Published → Bool) (w : Writer) : Writer :=
  let rest := consumeList covered w.list
  { w with
    list := rest
    used := w.used - consumedBytes covered w.list
    oldest := match rest with
      | [] => w.write
      | p :: _ => p.offset }

/-- R172: a REPORT read answered OK is handed to the Record Writer. After a consumption the age timer is
set again, the room test of a waiting selection is made and the condition evaluated. -/
def consumeRead (addr : Addr) (beats : Nat) (s : State) : State :=
  match s.writer.ring with
  | none => s
  | some r =>
    let covered := fun p => headerCovered r.base p addr beats
    if (s.writer.list.head?.any covered) then
      settle (startWrite (resetAge (s.modWriter (Writer.consume covered))))
    else s

end Sys2Proof.Machine
end

