-- ==== Sys2Proof/Machine/Commands.lean ====
section
/-! DEFINITION. The command blocks (chapter 2): the examination common to them (R22, R30), and for each
command its checks and its effect. `take<Command>` is the taking of one candidate; the meanings
`exec<Command>` give it as an event of its own. -/

namespace Sys2Proof.Machine

open Sys2Proof

/-- The status, detail and extra of a completion made at a take (R25). -/
structure Answer where
  status : Status
  detail : Nat
  extra  : BitVec 32
deriving DecidableEq, Repr

/-- R41: one more command taken. -/
def countTaken (s : State) : State :=
  s.modCounts fun c => { c with commandsTaken := bump c.commandsTaken }

/-- R41: one more command refused. -/
def countRefused (s : State) : State :=
  s.modCounts fun c => { c with commandsRefused := bump c.commandsRefused }

/-- R24, R41: the completion word of the answer for block `n`, and the count of a refusal. -/
def giveAnswer (n : BlockId) (tag : BitVec 16) (a : Answer) (s : State) : State :=
  complete n tag a.status a.detail a.extra none false (if a.status.refusal then countRefused s else s)

/-- R22 steps 4 to 7 once the block is known not to be busy: the first failing check refuses with
BAD_PARAM, else `act` makes the state and capacity checks and has the effect. An `act` that answers
`none` leaves the completion to a later event (SIDEBAND). -/
def examine (n : BlockId) (tag : BitVec 16) (faults : List (Bool × Nat × Nat))
    (act : State → State × Option Answer) (s : State) : State :=
  match firstFault faults with
  | some (reason, extra) => giveAnswer n tag ⟨.badParam, reason, BitVec.ofNat 32 extra⟩ s
  | none =>
    match act s with
    | (s', none) => s'
    | (s', some a) => giveAnswer n tag a s'

/-- R22, R23: one candidate other than NONE is taken: it is counted, refused where its block is busy,
else given to `body`. While a reset pin is asserted no hand-off reaches the decoder (R42). DESIGN CHOICE
(log 40): the Record Writer selects and the condition is evaluated after each candidate of a hand-off, not
once at its end. -/
def takeCandidate (n : BlockId) (tag : BitVec 16) (body : State → State) (s : State) : State :=
  if s.inReset then s
  else
    let s₁ := countTaken s
    settle (match outstandingTag s₁.decoder n with
      | some t => giveAnswer n tag ⟨.blockBusy, 0, t.setWidth 32⟩ s₁
      | none => body s₁)

/-- R30: the check of the zero byte. -/
def zeroFault (h : BlockHead) : Bool × Nat × Nat := (decide (h.zero ≠ 0), 1, 0)

/-- R30: the check of a selector that must be below `k`. -/
def selectorFault (h : BlockHead) (k : Nat) : Bool × Nat × Nat := (decide (k ≤ h.selector.toNat), 2, 0)

/-- R30: the check of the slot mask. -/
def maskFault (h : BlockHead) : Bool × Nat × Nat := (badMask h.slotMask, 3, 0)

/-- DONE or, with fields clamped, DONE_CLAMPED with their number (R29). -/
def doneOrClamped (clamped : Nat) : Answer :=
  if clamped = 0 then ⟨.done, 0, 0⟩ else ⟨.doneClamped, 0, BitVec.ofNat 32 clamped⟩

/-- DONE with the extra given. -/
def doneWith (extra : BitVec 32) : Answer := ⟨.done, 0, extra⟩

/-- R25: REFUSED_STATE for the slots in conflict, the lowest first. -/
def slotConflict (lowest : SlotId) (slots : List SlotId) : Answer :=
  ⟨.refusedState, lowest.val, maskOf slots⟩

/-! ### SET_WINDOW (R9, R31) -/

/-- R9: the ranges of two windows share a byte. -/
def windowClash (base : Addr) (size : Nat) (w : Window) : Bool :=
  w.enabled && rangesOverlap base.toNat size w.base.toNat w.size

/-- The windows other than `i`, in ascending order. -/
def otherWindows (i : Fin 8) : List (Fin 8) :=
  ([0, 1, 2, 3, 4, 5, 6, 7] : List (Fin 8)).filter fun j => decide (j ≠ i)

/-- R9: the lowest other window that the new range overlaps. -/
def clashingWindow (ws : Vector Window 8) (i : Fin 8) (base : Addr) (size : Nat) : Option (Fin 8) :=
  (otherWindows i).find? fun j => windowClash base size (ws[j.val])

/-- R9: the size is a power of two from 4096 to 1,048,576. -/
def reportSize (size : Nat) : Bool :=
  decide (size ∈ [4096, 8192, 16384, 32768, 65536, 131072, 262144, 524288, 1048576])

/-- R9: the checks of SET_WINDOW in that rule's order, with the reasons of R31. -/
def windowFaults (s : State) (h : BlockHead) (p : WindowParams) : List (Bool × Nat × Nat) :=
  let i := sel8 h.selector
  let isPattern := decide (p.role = 1)
  let isReport := decide (p.role = 2)
  let ws := s.path.windows
  let size := p.size.toNat
  let clash := clashingWindow ws i p.base size
  let sameUse (j : Fin 8) : Bool :=
    (isReport && decide ((ws[j.val]).role = .report)) ||
      (isPattern && decide ((ws[j.val]).role = .pattern) &&
        decide ((ws[j.val]).pattern.val = p.pattern.toNat))
  [zeroFault h,
   (decide (h.selector = 0) || decide (8 ≤ h.selector.toNat), 2, 0),
   (decide (2 < p.role.toNat), 4, 0),
   (isPattern && decide (size ≠ 4096), 6, 0),
   (isPattern && decide (3 < p.pattern.toNat), 2, 0),
   (isReport && !reportSize size, 6, 0),
   ((isPattern || isReport) && decide (p.base.toNat % size ≠ 0), 6, 0),
   ((isPattern || isReport) && clash.isSome, 7, (clash.map Fin.val).getD 0),
   ((otherWindows i).any sameUse, 8, 0)]

/-- R9: the window a SET_WINDOW that passes its checks gives. -/
def newWindow (p : WindowParams) : Window :=
  if p.role = 1 then
    { base := p.base, size := p.size.toNat, role := .pattern, pattern := Fin.ofNat 4 p.pattern.toNat }
  else if p.role = 2 then
    { base := p.base, size := p.size.toNat, role := .report, pattern := 0 }
  else .none

/-- R9: the effect of a SET_WINDOW that passes its checks. -/
def actSetWindow (h : BlockHead) (p : WindowParams) (s : State) : State × Option Answer :=
  let i := sel8 h.selector
  let old := s.path.windows[i.val]
  let new := newWindow p
  let s₁ := { s with path := { s.path with windows := s.path.windows.set i.val new } }
  (if old.role = .report ∨ new.role = .report then ringReset true s₁ else s₁, some (doneWith 0))

/-- SET_WINDOW taken (R9, R31). -/
def takeSetWindow (n : BlockId) (h : BlockHead) (p : WindowParams) (s : State) : State :=
  takeCandidate n h.tag (fun s => examine n h.tag (windowFaults s h p) (actSetWindow h p) s) s

/-! ### SET_PROFILE (R31, R44) -/

/-- R31: the checks of SET_PROFILE. -/
def profileFaults (h : BlockHead) (p : ProfileParams) : List (Bool × Nat × Nat) :=
  [zeroFault h, selectorFault h 4,
   (decide (p.laneMask = 0) || decide (15 < p.laneMask.toNat), 5, 0),
   (profileBadEnum p, 4, 0)]

/-- R44: the effect of a SET_PROFILE that passes its checks. -/
def actSetProfile (h : BlockHead) (p : ProfileParams) (s : State) : State × Option Answer :=
  ({ s with profiles := s.profiles.set (sel4 h.selector).val (.ofParams p) },
   some (doneOrClamped (profileClamps p)))

/-- SET_PROFILE taken (R31, R44). -/
def takeSetProfile (n : BlockId) (h : BlockHead) (p : ProfileParams) (s : State) : State :=
  takeCandidate n h.tag (fun s => examine n h.tag (profileFaults h p) (actSetProfile h p) s) s

/-! ### DEFINE_PATTERN (R32, R53) -/

/-- R32: the checks of DEFINE_PATTERN. -/
def patternFaults (h : BlockHead) : List (Bool × Nat × Nat) := [zeroFault h, selectorFault h 4]

/-- R32, R53: the state check and the effect of DEFINE_PATTERN. -/
def actDefinePattern (h : BlockHead) (length : Byte) (s : State) : State × Option Answer :=
  let k := sel4 h.selector
  let p := s.patterns[k.val]
  if 0 < p.inUse then (s, some ⟨.refusedState, 255, BitVec.ofNat 32 p.inUse⟩)
  else
    (s.modPattern k fun p => { p with length := clamp 1 32 length.toNat },
     some (doneOrClamped (clampCount 1 32 length.toNat)))

/-- DEFINE_PATTERN taken (R32, R53). -/
def takeDefinePattern (n : BlockId) (h : BlockHead) (length : Byte) (s : State) : State :=
  takeCandidate n h.tag (fun s => examine n h.tag (patternFaults h) (actDefinePattern h length) s) s

/-! ### SET_TIMEBASE (R33, R133) -/

/-- R33: the checks of SET_TIMEBASE. -/
def timebaseFaults (h : BlockHead) (p : TimebaseParams) : List (Bool × Nat × Nat) :=
  [zeroFault h, (decide (p.prescale.toNat ∉ [1, 4, 16, 64]), 4, 0)]

/-- The slots in SOAK, in ascending order. -/
def soakingSlots (s : State) : List SlotId := allSlots.filter fun i => decide ((s.slot i).state = .soak)

/-- R33, R133: the state check and the effect of SET_TIMEBASE. -/
def actSetTimebase (p : TimebaseParams) (s : State) : State × Option Answer :=
  match soakingSlots s with
  | i :: rest => (s, some (slotConflict i (i :: rest)))
  | [] =>
    let new : Timebase :=
      { prescale := p.prescale.toNat, period := clamp 1 65535 p.period.toNat,
        postscale := clamp 1 16 p.postscale.toNat, prescalerCount := 0, periodCount := 0,
        postscalerCount := 0 }
    ({ s with timebase := new },
     some (doneOrClamped (clampCount 1 65535 p.period.toNat + clampCount 1 16 p.postscale.toNat)))

/-- SET_TIMEBASE taken (R33, R133). -/
def takeSetTimebase (n : BlockId) (h : BlockHead) (p : TimebaseParams) (s : State) : State :=
  takeCandidate n h.tag (fun s => examine n h.tag (timebaseFaults h p) (actSetTimebase p) s) s

/-! ### SET_ATTENTION (R34, R173) -/

/-- R34: the checks of SET_ATTENTION. -/
def attentionFaults (h : BlockHead) (p : AttentionParams) : List (Bool × Nat × Nat) :=
  [zeroFault h,
   (decide (1 < p.lineEnable.toNat) || decide (1 < p.wordEnable.toNat), 4, 0),
   (decide (63 < p.kindMask.toNat), 4, 0),
   (decide (p.address.toNat % 16 ≠ 0), 9, 0)]

/-- R173, R176: the Attention Unit with the six settings replaced; word enable no drops a waiting
word. -/
def Attention.withSettings (p : AttentionParams) (a : Attention) : Attention :=
  { a with
    lineEnable := isYes p.lineEnable
    wordEnable := isYes p.wordEnable
    address := p.address
    mask := p.kindMask.setWidth 6
    threshold := clamp 1 16 p.threshold.toNat
    delay := clamp 0 255 p.delay.toNat
    waiting := if isYes p.wordEnable then a.waiting else none }

/-- R34, R173: the effect of SET_ATTENTION; the condition is evaluated at the end of the take. -/
def actSetAttention (p : AttentionParams) (s : State) : State × Option Answer :=
  (resetAge (s.modAttention (Attention.withSettings p)),
   some (doneOrClamped (clampCount 1 16 p.threshold.toNat + clampCount 0 255 p.delay.toNat)))

/-- SET_ATTENTION taken (R34, R173). -/
def takeSetAttention (n : BlockId) (h : BlockHead) (p : AttentionParams) (s : State) : State :=
  takeCandidate n h.tag (fun s => examine n h.tag (attentionFaults h p) (actSetAttention p) s) s

/-! ### START (R35, R91) -/

/-- The first slot of a list and the list, where it is not empty. -/
def conflictAnswer : List SlotId → Option Answer
  | [] => none
  | i :: rest => some (slotConflict i (i :: rest))

/-- The named slots whose state fails `ok`, in ascending order. -/
def slotsNot (ok : SlotState → Bool) (mask : BitVec 16) (s : State) : List SlotId :=
  (slotsOf mask).filter fun i => !ok (s.slot i).state

/-- R35: the checks of START. -/
def startFaults (s : State) (h : BlockHead) : List (Bool × Nat × Nat) :=
  let unusable := match (s.profiles[(sel4 h.selector).val]).payload.pattern? with
    | none => (false, 11, 0)
    | some k => (!(s.patterns[k.val]).usable, 11, k.val)
  [zeroFault h, selectorFault h 4, maskFault h, unusable]

/-- The state is OFF or DONE. -/
def SlotState.offOrDone : SlotState → Bool
  | .off | .done => true
  | .watch | .settle | .discover | .train | .soak | .scan | .verdict => false

/-- R74: the counters and captures of a slot's lanes cleared. -/
def Slot.clearCounters (sl : Slot) : Slot := sl.mapLanes fun _ x => { x with counters := .cleared }

/-- R91, R94, R95: what START and RETEST reset alike: the attempt count, the aborted mark, the outcome,
the findings list, the lane counters and the scan result (R147). -/
def Slot.freshRun (sl : Slot) : Slot :=
  { sl.clearCounters with
    attempts := 0
    abortedMark := false
    outcome := none
    findings := []
    scan := .empty }

/-- R129: the slot's four Wiring Map entries cleared. -/
def Slot.clearWiring (sl : Slot) : Slot := { sl with wiring := Vector.replicate 4 .cleared }

/-- R91: START acts on slot `i` with profile `k`. -/
def startSlot (k : Fin 4) (i : SlotId) (s : State) : State :=
  let s₁ := s.modSlot i fun sl => { sl with profile := s.profiles[k.val], profileNumber := k }
  let s₂ := (toWatch i s₁).modSlot i fun sl =>
    { sl.freshRun.clearWiring with flags := 0, identity := none }
  restartPresence i (takeClaim i s₂)

/-- R35, R91: the state check and the effect of START. -/
def actStart (h : BlockHead) (s : State) : State × Option Answer :=
  match conflictAnswer (slotsNot SlotState.offOrDone h.slotMask s) with
  | some a => (s, some a)
  | none =>
    ((slotsOf h.slotMask).foldl (fun s i => startSlot (sel4 h.selector) i s) s,
     some (doneWith (h.slotMask.setWidth 32)))

/-- START taken (R35, R91). -/
def takeStart (n : BlockId) (h : BlockHead) (s : State) : State :=
  takeCandidate n h.tag (fun s => examine n h.tag (startFaults s h) (actStart h) s) s

/-! ### ABORT and SNAPSHOT (R36, R93, R138) -/

/-- R36: DONE with the mask of the affected slots, or NO_EFFECT where there is none. -/
def affectedAnswer (slots : List SlotId) : Answer :=
  if slots.isEmpty then ⟨.noEffect, 0, 0⟩ else doneWith (maskOf slots)

/-- The state is WATCH or a state of a test in progress. -/
def SlotState.abortable (st : SlotState) : Bool := decide (st = .watch) || st.testing

/-- R93: ABORT acts on slot `i`. The value of ABORTED is a free value (log 8). -/
def abortSlot (i : SlotId) (s : State) : State :=
  let f : Finding :=
    { code := .aborted, lane := none, failing := true, value := (Config.findingValue s.freeCount).toNat }
  let s₁ := (s.modSlot i fun sl => { sl with abortedMark := true }.find f)
  toVerdict i { s₁ with freeCount := s.freeCount + 1 }

/-- R36, R93: the effect of ABORT. -/
def actAbort (h : BlockHead) (s : State) : State × Option Answer :=
  let slots := (slotsOf h.slotMask).filter fun i => (s.slot i).state.abortable
  (sweepSettle (slots.foldl (fun s i => abortSlot i s) s), some (affectedAnswer slots))

/-- ABORT taken (R36, R93). -/
def takeAbort (n : BlockId) (h : BlockHead) (s : State) : State :=
  takeCandidate n h.tag (fun s => examine n h.tag [zeroFault h, maskFault h] (actAbort h) s) s

/-- The state is SOAK or SCAN. -/
def SlotState.soakOrScan : SlotState → Bool
  | .soak | .scan => true
  | .off | .watch | .settle | .discover | .train | .verdict | .done => false

/-- R36, R138: the effect of SNAPSHOT. -/
def actSnapshot (h : BlockHead) (s : State) : State × Option Answer :=
  let slots := (slotsOf h.slotMask).filter fun i => (s.slot i).state.soakOrScan
  (slots.foldl (fun s i => s.modSlot i (Slot.freeze true)) s, some (affectedAnswer slots))

/-- SNAPSHOT taken (R36, R138). -/
def takeSnapshot (n : BlockId) (h : BlockHead) (s : State) : State :=
  takeCandidate n h.tag (fun s => examine n h.tag [zeroFault h, maskFault h] (actSnapshot h) s) s

/-! ### RETEST and CLEAR (R37, R94 to R97) -/

/-- RETEST accepts the state: any but OFF and VERDICT. -/
def SlotState.retestable : SlotState → Bool
  | .off | .verdict => false
  | .watch | .settle | .discover | .train | .soak | .scan | .done => true

/-- R94 to R96: RETEST acts on slot `i`. Out of DONE it takes a claim (R95). -/
def retestSlot (i : SlotId) (s : State) : State :=
  let st := (s.slot i).state
  if st = .watch then s.modSlot i fun sl => { sl with attempts := 0 }
  else
    let s₁ := (toWatch i s).modSlot i Slot.freshRun
    restartPresence i (if st = .done then takeClaim i s₁ else s₁)

/-- R37, R94 to R96: the state check and the effect of RETEST. -/
def actRetest (h : BlockHead) (s : State) : State × Option Answer :=
  match conflictAnswer (slotsNot SlotState.retestable h.slotMask s) with
  | some a => (s, some a)
  | none =>
    (sweepSettle ((slotsOf h.slotMask).foldl (fun s i => retestSlot i s) s),
     some (doneWith (h.slotMask.setWidth 32)))

/-- RETEST taken (R37, R94 to R96). -/
def takeRetest (n : BlockId) (h : BlockHead) (s : State) : State :=
  takeCandidate n h.tag (fun s => examine n h.tag [zeroFault h, maskFault h] (actRetest h) s) s

/-- R97: CLEAR acts on a slot; entry to OFF parks its lanes and stops its state timer (R58, R86). -/
def Slot.clearSlot (sl : Slot) : Slot :=
  { sl.park.clearWiring with
    state := .off
    stateTimer := none
    attempts := 0
    abortedMark := false
    outcome := none
    findings := []
    identity := none
    tracking := false
    present := false
    debounceTimer := none }

/-- R37, R97: the state check and the effect of CLEAR. -/
def actClear (h : BlockHead) (s : State) : State × Option Answer :=
  match conflictAnswer (slotsNot SlotState.offOrDone h.slotMask s) with
  | some a => (s, some a)
  | none =>
    ((slotsOf h.slotMask).foldl (fun s i => s.modSlot i Slot.clearSlot) s,
     some (doneWith (h.slotMask.setWidth 32)))

/-- CLEAR taken (R37, R97). -/
def takeClear (n : BlockId) (h : BlockHead) (s : State) : State :=
  takeCandidate n h.tag (fun s => examine n h.tag [zeroFault h, maskFault h] (actClear h) s) s

/-! ### SIDEBAND and STATUS (R38, R40) -/

/-- R38: the checks of SIDEBAND. -/
def sidebandFaults (h : BlockHead) (p : SidebandParams) : List (Bool × Nat × Nat) :=
  [zeroFault h, selectorFault h 12,
   (decide (1 < p.direction.toNat), 4, 0),
   (decide (p.count = 0) || decide (8 < p.count.toNat) ||
      decide (256 < p.offset.toNat + p.count.toNat), 10, 0)]

/-- R38: the state is OFF, WATCH or DONE. -/
def SlotState.sidebandFree : SlotState → Bool
  | .off | .watch | .done => true
  | .settle | .discover | .train | .soak | .scan | .verdict => false

/-- R38: the host entry of an accepted SIDEBAND. -/
def hostEntryOf (n : BlockId) (h : BlockHead) (p : SidebandParams) : HostEntry where
  block     := n
  slot      := sel12 h.selector
  direction := if p.direction = 0 then .read else .write
  offset    := p.offset.toNat
  count     := p.count.toNat
  data      := p.data
  postWait  := clamp 0 16777215 p.postWait.toNat
  clamped   := decide (16777215 < p.postWait.toNat)

/-- R38: the state and capacity checks and the effect of SIDEBAND. -/
def actSideband (n : BlockId) (h : BlockHead) (p : SidebandParams) (s : State) :
    State × Option Answer :=
  let i := sel12 h.selector
  if !(s.slot i).state.sidebandFree then (s, some (slotConflict i [i]))
  else if 4 ≤ s.decoder.outstanding.length then (s, some ⟨.refusedBusy, 0, 4⟩)
  else
    let s₁ :=
      { s with decoder := { s.decoder with outstanding := s.decoder.outstanding ++ [(n, h.tag)] } }
    (sbJoin (.host (hostEntryOf n h p)) s₁, none)

/-- SIDEBAND taken (R38). -/
def takeSideband (n : BlockId) (h : BlockHead) (p : SidebandParams) (s : State) : State :=
  takeCandidate n h.tag (fun s => examine n h.tag (sidebandFaults h p) (actSideband n h p) s) s

/-- R40: the effect of STATUS. -/
def actStatus (s : State) : State × Option Answer :=
  (s.setStatusPending true, some ⟨.done, bit s.decoder.statusPending, 0⟩)

/-- STATUS taken (R40). -/
def takeStatus (n : BlockId) (h : BlockHead) (s : State) : State :=
  takeCandidate n h.tag (fun s => examine n h.tag [zeroFault h] actStatus s) s

/-! ### UNKNOWN_CODE (R22 step 3) -/

/-- A block with a code that names no command, taken. -/
def takeUnknown (n : BlockId) (code : Byte) (h : BlockHead) (s : State) : State :=
  takeCandidate n h.tag (giveAnswer n h.tag ⟨.unknown, 0, code.setWidth 32⟩) s

/-! ### The candidates of a hand-off (R20) -/

/-- One candidate is taken (R22). Only the commands that stand in a block occur. -/
def takeBlock (c : Instr) (s : State) : State :=
  match c with
  | .noneBlock _ => s
  | .unknownCode n code h => takeUnknown n code h s
  | .setWindow n h p => takeSetWindow n h p s
  | .setProfile n h p => takeSetProfile n h p s
  | .definePattern n h l => takeDefinePattern n h l s
  | .setTimebase n h p => takeSetTimebase n h p s
  | .setAttention n h p => takeSetAttention n h p s
  | .start n h => takeStart n h s
  | .abort n h => takeAbort n h s
  | .retest n h => takeRetest n h s
  | .clear n h => takeClear n h s
  | .snapshot n h => takeSnapshot n h s
  | .sideband n h p => takeSideband n h p s
  | .status n h => takeStatus n h s
  | .requestAccept .. | .forwardedIssue | .insertedIssue | .forwardedResponse .. | .insertJoin
  | .insertAck .. | .portReset | .portResetRelease | .powerOnReset | .powerOnResetRelease ..
  | .frameStart .. | .headerInHunt .. | .headerInLock .. | .frameReceived ..
  | .relockTimeout .. | .presNChange .. | .energyDetectChange .. | .debounceExpiry ..
  | .settleExpiry .. | .trainTimeout .. | .tryEnd .. | .retryWaitExpiry | .clockHeldLow
  | .dataStuckLow | .recoveryEnd | .plugSettleExpiry | .postWaitExpiry | .interval
  | .checkpoint | .recordWriteStart | .ageTimerExpiry | .prescalerWrap => s

/-- R20: the candidates of a hand-off, taken one after another in ascending block order. -/
def takeCandidates (blocks : List (BlockId × List Byte)) (s : State) : State :=
  blocks.foldl (fun s b => takeBlock (decodeBlock b.1 b.2) s) s

/-! ### The meanings -/

/-- The next state of a command that always has one. -/
abbrev Result := Host.Outcome State Fault Refusal

/-- NONE (R22 step 1): ignored, uncounted and unanswered. -/
def execNoneBlock (_n : BlockId) (s : State) : Result := .next s

/-- UNKNOWN_CODE (R22 step 3): refused with UNKNOWN. A code of the table is no such event (log 7). -/
def execUnknownCode (n : BlockId) (code : Byte) (h : BlockHead) (s : State) : Result :=
  if knownCodes.contains code then .fault .knownCommandCode else .next (takeUnknown n code h s)

/-- SET_WINDOW (R9). -/
def execSetWindow (n : BlockId) (h : BlockHead) (p : WindowParams) (s : State) : Result :=
  .next (takeSetWindow n h p s)

/-- SET_PROFILE (R44). -/
def execSetProfile (n : BlockId) (h : BlockHead) (p : ProfileParams) (s : State) : Result :=
  .next (takeSetProfile n h p s)

/-- DEFINE_PATTERN (R53). -/
def execDefinePattern (n : BlockId) (h : BlockHead) (length : Byte) (s : State) : Result :=
  .next (takeDefinePattern n h length s)

/-- SET_TIMEBASE (R133). -/
def execSetTimebase (n : BlockId) (h : BlockHead) (p : TimebaseParams) (s : State) : Result :=
  .next (takeSetTimebase n h p s)

/-- SET_ATTENTION (R173). -/
def execSetAttention (n : BlockId) (h : BlockHead) (p : AttentionParams) (s : State) : Result :=
  .next (takeSetAttention n h p s)

/-- START (R91). -/
def execStart (n : BlockId) (h : BlockHead) (s : State) : Result := .next (takeStart n h s)

/-- ABORT (R93). -/
def execAbort (n : BlockId) (h : BlockHead) (s : State) : Result := .next (takeAbort n h s)

/-- RETEST (R94). -/
def execRetest (n : BlockId) (h : BlockHead) (s : State) : Result := .next (takeRetest n h s)

/-- CLEAR (R97). -/
def execClear (n : BlockId) (h : BlockHead) (s : State) : Result := .next (takeClear n h s)

/-- SNAPSHOT (R138). -/
def execSnapshot (n : BlockId) (h : BlockHead) (s : State) : Result := .next (takeSnapshot n h s)

/-- SIDEBAND (R38). -/
def execSideband (n : BlockId) (h : BlockHead) (p : SidebandParams) (s : State) : Result :=
  .next (takeSideband n h p s)

/-- STATUS (R40). -/
def execStatus (n : BlockId) (h : BlockHead) (s : State) : Result := .next (takeStatus n h s)

end Sys2Proof.Machine
end

