-- ==== Sys2Proof/Machine/Path.lean ====
section
/-! DEFINITION. The memory path (chapter 1) and the resets: acceptance, issue, responses and their
hand-offs, the Insert Queue, and what the two reset pins do. -/

namespace Sys2Proof.Machine

open Sys2Proof

/-- The state with the memory path changed by `f`. -/
def State.modPath (s : State) (f : Path → Path) : State := { s with path := f s.path }

/-! ### Acceptance (R2, R5, R8) -/

/-- R5, R8: the counts of an accepted request: crossing requests and trespass writes. -/
def countAccepted (r : Request) (cls : Class) (s : State) : State :=
  let s₁ := if crossing r then
      s.modCounts fun c => { c with crossingRequests := bump c.crossingRequests }
    else s
  if r.kind = .write ∧ cls.role = .report then
    s₁.modCounts fun c => { c with trespassWrites := bump c.trespassWrites }
  else s₁

/-- R2: the request is classified, takes its arrival place and joins the Forwarding Queue. -/
def accept (r : Request) (s : State) : State :=
  let cls := classify s.path.windows r
  countAccepted r cls (s.modPath fun p =>
    { p with
      fwd := p.fwd ++ [{ req := r, arrival := p.nextArrival, cls := cls }]
      nextArrival := p.nextArrival + 1 })

/-- R2: the system port accepts a request. -/
def canAccept (s : State) : Bool := decide (s.path.fwd.length < 32) && !s.inReset

/-- REQUEST_ACCEPT (R2). A request that breaks R1 is no request (log 7). -/
def execRequestAccept (r : Request) (s : State) : Result :=
  if !r.wf then .fault .malformedRequest
  else if canAccept s then .next (accept r s)
  else .next s

/-! ### Issue (R11 to R13) -/

/-- R1: the byte range of the request overlaps that of the inserted write. -/
def overlapsInsert (addr : Addr) (beats : Nat) (e : InsEntry) : Bool :=
  rangesOverlap addr.toNat (16 * beats) e.write.addr.toNat (16 * e.write.beats)

/-- R12: the head of the Forwarding Queue is held by the Insert Queue. -/
def fwdHeld (ins : List InsEntry) (h : FwdEntry) : Bool :=
  ins.any fun e =>
    decide (e.arrival < h.arrival) && overlapsInsert h.req.addr h.req.beats e &&
      (match h.req.kind with
       | .read => true
       | .write => !e.issued)

/-- R13: the head of the Forwarding Queue, if it is eligible for issue. -/
def fwdEligible (s : State) : Option FwdEntry :=
  match s.path.fwd with
  | [] => none
  | h :: _ =>
    if s.inReset || fwdHeld s.path.ins h || decide (64 ≤ s.path.out.length) then none else some h

/-- The head of the Insert Queue: the oldest entry not yet issued (R10). -/
def insHead (p : Path) : Option InsEntry := p.ins.find? fun e => !e.issued

/-- R11: an earlier overlapping forwarded request keeps the inserted write back. -/
def insBlocked (p : Path) (e : InsEntry) : Bool :=
  (p.fwd.any fun f => decide (f.arrival < e.arrival) && overlapsInsert f.req.addr f.req.beats e) ||
    (p.out.any fun o =>
      decide (o.kind = .read) && decide (o.arrival < e.arrival) && overlapsInsert o.addr o.beats e)

/-- R13: the head of the Insert Queue, if it is eligible for issue. -/
def insEligible (s : State) : Option InsEntry :=
  match insHead s.path with
  | none => none
  | some e => if s.inReset || insBlocked s.path e then none else some e

/-- R13: the arbiter issues a forwarded request: the head, unless an inserted write is eligible and the
count is 4. -/
def issueForwarded (s : State) : Option FwdEntry :=
  match fwdEligible s with
  | none => none
  | some h => if (insEligible s).isSome && decide (4 ≤ s.path.arbCount) then none else some h

/-- R13: the arbiter issues an inserted write: the head, where no forwarded request is issued. -/
def issueInserted (s : State) : Option InsEntry :=
  if (issueForwarded s).isSome then none else insEligible s

/-- R3: the Outstanding List entry of an issued request. -/
def outstandingEntry (h : FwdEntry) : OutEntry where
  id        := h.req.id
  kind      := h.req.kind
  addr      := h.req.addr
  beats     := h.req.beats
  arrival   := h.arrival
  cls       := h.cls
  discarded := false

/-- R3, R13: the head `h` of the Forwarding Queue goes out on the memory port and to the Outstanding
List, and the arbiter's count moves up to at most 4. -/
def issueFwd (h : FwdEntry) (p : Path) : Path :=
  { p with
    fwd := p.fwd.tail
    out := p.out ++ [outstandingEntry h]
    arbCount := min (p.arbCount + 1) 4
    memOut := some (.forwarded h.req) }

/-- FORWARDED_ISSUE (R13). -/
def execForwardedIssue (s : State) : Result :=
  match issueForwarded s with
  | none => .next s
  | some h => .next (s.modPath (issueFwd h))

/-- R13: the entry at place `k` marked issued. -/
def markIssued (k : Fin 8) (e : InsEntry) : InsEntry :=
  if e.place = k then { e with issued := true } else e

/-- R13: the inserted write `e` goes out on the memory port, is marked issued and sets the count to
0. -/
def issueIns (e : InsEntry) (p : Path) : Path :=
  { p with
    ins := p.ins.map (markIssued e.place)
    arbCount := 0
    memOut := some (.inserted e.place e.write) }

/-- INSERTED_ISSUE (R13). -/
def execInsertedIssue (s : State) : Result :=
  match issueInserted s with
  | none => .next s
  | some e => .next (s.modPath (issueIns e))

/-! ### Responses and hand-offs (R3, R6 to R8, R15, R20, R21, R47 to R50) -/

/-- The partial command writes count incremented (R20, R21). -/
def countPartial (s : State) : State :=
  s.modCounts fun c => { c with partialWrites := bump c.partialWrites }

/-- The command writes failed count incremented (R21). -/
def countCommandFailed (s : State) : State :=
  s.modCounts fun c => { c with commandWritesFailed := bump c.commandWritesFailed }

/-- R6, R20, R21: a command window write is handed to the Command Decoder. -/
def handCommand (cls : Class) (status : RespStatus) (s : State) : State :=
  let s₁ := if cls.partly then countPartial s else s
  match status with
  | .ok => takeCandidates cls.covered s₁
  | .error => if cls.covered.isEmpty then s₁ else countCommandFailed s₁

/-- R47: the flags of a validity map that name the blocks of a pattern for which `f` holds. -/
def blocksWhere (f : Nat → Bool) : BitVec 32 :=
  patternBlocks.foldl (fun v k => if f k then v ||| (1#32 <<< k) else v) 0

/-- R48 to R50: what a hand-off of the enabled bytes `bytes` does to a pattern. -/
def Pattern.handOff (bytes : List (Nat × Byte)) (status : RespStatus) (p : Pattern) : Pattern :=
  if status = .ok ∧ p.inUse = 0 then
    { p with
      mem := Memory.writes p.mem bytes
      valid := p.valid ||| blocksWhere (blockCovered bytes) }
  else
    { p with valid := p.valid &&& ~~~(blocksWhere fun k => !(bytesOfBlock bytes k).isEmpty) }

/-- R3, R15: the hand-off the entry's classification calls for. -/
def handOff (e : OutEntry) (status : RespStatus) (s : State) : State :=
  match e.cls.role, e.kind, status with
  | .command, .write, st => handCommand e.cls st s
  | .pattern, .write, st => s.modPattern e.cls.pattern (Pattern.handOff e.cls.capture st)
  | .report, .read, .ok => consumeRead e.addr e.beats s
  | .command, .read, _ | .pattern, .read, _ | .report, .read, .error | .report, .write, _
  | .off, _, _ => s

/-- R3: the entry a response with the ID is matched to: the oldest with that ID. -/
def matchOut (id : BitVec 8) (out : List OutEntry) : Option OutEntry :=
  out.find? fun e => decide (e.id = id)

/-- The list without the first entry with the ID. -/
def dropOut (id : BitVec 8) : List OutEntry → List OutEntry
  | [] => []
  | e :: es => if e.id = id then es else e :: dropOut id es

/-- R3: the entry leaves the Outstanding List and the response is returned to the system port. -/
def returnResponse (id : BitVec 8) (status : RespStatus) (data : List Byte) (p : Path) : Path :=
  { p with out := dropOut id p.out, sysOut := some { id := id, status := status, data := data } }

/-- R16: the entry of a discarded request leaves the list and its response is absorbed. -/
def absorbResponse (id : BitVec 8) (p : Path) : Path := { p with out := dropOut id p.out }

/-- FORWARDED_RESPONSE (R3). -/
def execForwardedResponse (id : BitVec 8) (status : RespStatus) (data : List Byte) (s : State) :
    Result :=
  match matchOut id s.path.out with
  | none => .next s
  | some e =>
    if e.discarded then .next (s.modPath (absorbResponse id))
    else .next (handOff e status (s.modPath (returnResponse id status data)))

/-! ### The Insert Queue (R10, R14, R27) -/

/-- The write the producer has in hand, if any (R10, R27, R167, R176). -/
def offered (s : State) : Producer → Option InsWrite
  | .decoder => s.decoder.backlog.head?.map Completion.write
  | .record =>
    match s.writer.inFlight with
    | none => none
    | some f => match f.joined with
      | none => f.pieces.head?
      | some _ => none
  | .attention => s.attention.waiting.map AttnWord.write

/-- R10: the producers in rotation, beginning with the one after the one last served. -/
def rotation : Producer → List Producer
  | .attention => [.decoder, .record, .attention]
  | .decoder => [.record, .attention, .decoder]
  | .record => [.attention, .decoder, .record]

/-- R10: the lowest free place of the Insert Queue. -/
def freePlace (ins : List InsEntry) : Option (Fin 8) :=
  ([0, 1, 2, 3, 4, 5, 6, 7] : List (Fin 8)).find? fun k => !(ins.any fun e => decide (e.place = k))

/-- R10: the producer the rotation serves, with its write. -/
def serving (s : State) : Option (Producer × InsWrite) :=
  (rotation s.path.lastServed).findSome? fun p => (offered s p).map fun w => (p, w)

/-- R10: the write joins the Insert Queue at place `k`. -/
def joinQueue (k : Fin 8) (prod : Producer) (w : InsWrite) (p : Path) : Path :=
  let entry : InsEntry :=
    { producer := prod, place := k, write := w, arrival := p.nextArrival, issued := false, void := false }
  { p with ins := p.ins ++ [entry], lastServed := prod, nextArrival := p.nextArrival + 1 }

/-- R27: the first word of the backlog leaves it, and a block whose SIDEBAND completion it is leaves the
outstanding SIDEBAND set. -/
def Decoder.wordJoined (d : Decoder) : Decoder :=
  match d.backlog with
  | [] => d
  | c :: rest =>
    { d with
      backlog := rest
      outstanding :=
        if c.fromSideband then d.outstanding.filter fun p => decide (p.1 ≠ c.block)
        else d.outstanding }

/-- What the join of its write at place `k` means to the producer. -/
def producerJoined (prod : Producer) (k : Fin 8) (s : State) : State :=
  match prod with
  | .decoder => { s with decoder := s.decoder.wordJoined }
  | .record =>
    s.modWriter fun w => { w with inFlight := w.inFlight.map fun f => { f with joined := some k } }
  | .attention => s.modAttention fun a => { a with waiting := none }

/-- R10: the write that the rotation serves joins the Insert Queue, where a place is free. -/
def joinNext (s : State) : State :=
  match freePlace s.path.ins, serving s with
  | some k, some (prod, w) => producerJoined prod k (s.modPath (joinQueue k prod w))
  | _, _ => s

/-- INSERT_JOIN (R10). -/
def execInsertJoin (s : State) : Result := .next (joinNext s)

/-- R10, R27: while a place is free and block `n` has a SIDEBAND outstanding, the waiting writes join, at most
the given number of them. -/
def joinUntilAnswered (n : BlockId) : Nat → State → State
  | 0, s => s
  | k + 1, s =>
    if (outstandingTag s.decoder n).isSome && (freePlace s.path.ins).isSome then
      joinUntilAnswered n k (joinNext s)
    else s

/-- The issued entry at the place (R14). -/
def issuedAt (place : BitVec 8) (ins : List InsEntry) : Option InsEntry :=
  ins.find? fun e => e.issued && decide (e.place.val = place.toNat)

/-- The entry at place `k` leaves the Insert Queue (R14). -/
def leaveQueue (k : Fin 8) (p : Path) : Path :=
  { p with ins := p.ins.filter fun e => decide (e.place ≠ k) }

/-- R169 to R171: the Record Writer is told how the write at place `k` ended. -/
def recordAcked (k : Fin 8) (status : RespStatus) (s : State) : State :=
  match s.writer.inFlight with
  | some f =>
    if f.joined = some k then
      match status with
      | .ok => pieceDone f s
      | .error => failRecord f s
    else s
  | none =>
    if s.writer.abandoned = some k then
      let s₁ := match status with
        | .ok => s
        | .error => insertedFailed s
      settle (s₁.modWriter fun w => { w with abandoned := none })
    else s

/-- R14, R28, R176: the producer is told that its write is done or has failed. -/
def producerAcked (prod : Producer) (k : Fin 8) (status : RespStatus) (s : State) : State :=
  match prod with
  | .record => recordAcked k status s
  | .decoder | .attention =>
    match status with
    | .ok => s
    | .error => insertedFailed s

/-- INSERT_ACK (R14). -/
def execInsertAck (place : BitVec 8) (status : RespStatus) (s : State) : Result :=
  match issuedAt place s.path.ins with
  | none => .next s
  | some e =>
    let s₁ := s.modPath (leaveQueue e.place)
    if e.void then .next s₁ else .next (producerAcked e.producer e.place status s₁)

/-! ### Resets (R16, R17, R42, R101, R110, R171, R173) -/

/-- R16: what port reset does to the memory path. -/
def Path.portReset (p : Path) : Path :=
  { p with
    fwd := []
    out := p.out.map fun e => { e with discarded := true }
    ins := (p.ins.filter fun e => e.issued).map fun e => { e with void := true }
    arbCount := 0
    lastServed := .attention
    windows := windowsAfterReset (p.windows[0]) }

/-- R42: what port reset does to the Command Decoder. -/
def Decoder.portReset (d : Decoder) : Decoder := { d with backlog := [], outstanding := [] }

/-- R173: what port reset does to the Attention Unit, before the age timer and the condition are
evaluated again. -/
def Attention.portReset (a : Attention) : Attention :=
  { Attention.powerOn with condition := a.condition, count := a.count, age := a.age }

/-- R16, R42, R110, R171, R173: what the assertion of PRST_N does. -/
def portReset (s : State) : State :=
  let s₁ := { s with prst := true, path := s.path.portReset, decoder := s.decoder.portReset }
  let s₂ := s₁.modAttention Attention.portReset
  evaluate (ringReset false (sidebandPortReset s₂))

/-- PORT_RESET (R16): PRST_N is asserted. While PORST_N is asserted, power-on reset governs (R17), so
only the pin is recorded. -/
def execPortReset (s : State) : Result :=
  if s.porst then .next { s with prst := true } else .next (portReset s)

/-- PORT_RESET_RELEASE (R16): PRST_N is released. -/
def execPortResetRelease (s : State) : Result := .next { s with prst := false }

/-- R17, R101 and the reset column of every chapter: the power-on value of every state of the part. The
pins, the requests memory will still answer and the queue of commands are not its state to reset. -/
def powerOnReset (s : State) : State :=
  { State.reset with
    prst := s.prst
    porst := true
    presN := s.presN
    energy := s.energy
    path := s.path.portReset
    freeCount := s.freeCount
    pending := s.pending }

/-- POWER_ON_RESET (R17): PORST_N is asserted. -/
def execPowerOnReset (s : State) : Result := .next (powerOnReset s)

/-- POWER_ON_RESET_RELEASE (R17): PORST_N is released, WBASE is sampled and the µs counter and the
timebase start at 0. With PORST_N not asserted there is nothing to release. -/
def execPowerOnResetRelease (wbase : BitVec 16) (s : State) : Result :=
  if s.porst then
    .next { s with
      porst := false
      us := 0
      timebase := .powerOn
      path := { s.path with windows := s.path.windows.set 0 (.command wbase) } }
  else .next s

end Sys2Proof.Machine
end

