-- ==== Sys2Proof/Machine/LaneEvents.lean ====
section
/-! DEFINITION. The events of the lanes: a frame begins, a header is examined in HUNT or in LOCKED, a
frame's payload is received, a relock timer expires; and what each tells the Wiring Analyzer, the event
flags and the Margin Scanner. -/

namespace Sys2Proof.Machine

open Sys2Proof

/-! ### What a lane event tells the other blocks -/

/-- R121: the confirmation count after a lane event in TRAIN. -/
def confirmAfter (n : Nat) : LaneEvent → Nat
  | .goodHeader .idle => n
  | .goodHeader .train | .goodHeader .soak | .goodHeader .scan => min (n + 1) 4
  | .foreignHeader | .badHeader | .lockTaken | .lockLost | .sourceMoved | .died _ => 0

/-- R76, R98: the flag a lane event of lane `l` sets in its slot, by the slot's state. -/
def eventFlag (st : SlotState) (soakRole : Bool) (l : LaneId) : LaneEvent → EventFlags
  | .lockLost => if soakRole && decide (st = .soak) then EventFlags.laneDrop l else 0
  | .died .sourceChange => if st.soakOrScan then EventFlags.sourceChange l else 0
  | .died .relockTimeout | .goodHeader _ | .foreignHeader | .badHeader | .lockTaken
  | .sourceMoved => 0

/-- The slot told of one event of lane `l`: its confirmation count in TRAIN, and its event flags. -/
def Slot.heed (l : LaneId) (sl : Slot) (e : LaneEvent) : Slot :=
  { sl with
    confirm :=
      if sl.state = .train then sl.confirm.set l.val (confirmAfter (sl.confirm[l.val]) e)
      else sl.confirm
    flags := sl.flags ||| eventFlag sl.state (sl.lane l).soakRole l e }

/-- R151 to R153: the step state and the result of a scanned lane at position `p` after a lane event. A lane
that dies while FINISHED at `p` becomes BROKEN when `p + 1` becomes current (R151, R153). -/
def scanEvent (p : Nat) (st : StepState) (r : ScanLane) : LaneEvent → StepState × ScanLane
  | .lockTaken => match st with
    | .waitLock => (.dwell 0 0 false, r)
    | st => (st, r)
  | .lockLost => match st with
    | .dwell .. => (.finished, r.fix p 255)
    | st => (st, r)
  | .died cause => match st with
    | .waitLock | .dwell .. => (.broken, r.breakAt p cause)
    | st => (st, r)
  | .goodHeader _ | .foreignHeader | .badHeader => match st with
    | .dwell f e _ => (.dwell f e true, r)
    | st => (st, r)
  | .sourceMoved => (st, r)

/-- The lane events, one after another, at a step state and a result. -/
def scanEvents (p : Nat) (st : StepState) (r : ScanLane) (es : List LaneEvent) : StepState × ScanLane :=
  es.foldl (fun x e => scanEvent p x.1 x.2 e) (st, r)

/-- The step state of lane `l` and its result replaced, where slot `i` is being swept. -/
def withStep (i : SlotId) (l : LaneId) (sw : Sweep) (x : StepState × ScanLane) (s : State) : State :=
  let s₁ := s.modSlot i fun sl =>
    { sl with scan := { sl.scan with lanes := sl.scan.lanes.set l.val x.2 } }
  let sw' : Sweep := { sw with steps := sw.steps.set l.val x.1 }
  { s₁ with scanner := { s₁.scanner with sweep := some sw' } }

/-- R150 to R155: the Margin Scanner acts on what `f` makes of the step state and the result of lane
`l`, if slot `i` is the Scan Queue's head, and the sweep goes on from there. -/
def scanReport (i : SlotId) (l : LaneId) (f : Nat → StepState → ScanLane → StepState × ScanLane)
    (s : State) : State :=
  match s.scanner.sweep with
  | none => s
  | some sw =>
    if s.scanner.queue.head? = some i then
      sweepSettle (withStep i l sw
        (f sw.position (sw.steps[l.val]) ((s.slot i).scan.lanes[l.val])) s)
    else s

/-- R122: training of slot `i` ends if every counted lane is confirmed. -/
def trainingCheck (i : SlotId) (s : State) : State :=
  let sl := s.slot i
  if sl.state = .train ∧ sl.allConfirmed = true then endTraining i s else s

/-- The lane engine replaced by `x` and its events reported: to the slot, to the scanner, and then to
training. -/
def laneReports (i : SlotId) (l : LaneId) (x : Lane) (es : List LaneEvent) (s : State) : State :=
  let s₁ := s.modSlot i fun sl => es.foldl (Slot.heed l) (sl.withLane l x)
  if es.isEmpty then s₁
  else trainingCheck i (scanReport i l (fun p st r => scanEvents p st r es) s₁)

/-! ### The meanings -/

/-- FRAME_START (R61): the transmitter of a lane that is not PARKED begins its next frame, of the kind its
slot's state gives. -/
def execFrameStart (i : SlotId) (l : LaneId) (s : State) : Result :=
  let sl := s.slot i
  match sl.state.frameKind with
  | none => .next s
  | some kind =>
    if (sl.lane l).power = .parked then .next s
    else
      .next (s.withSlot i
        (sl.withLane l ((sl.lane l).nextFrame i l kind sl.profile.payload s.patterns)))

/-- R65: the lane is ACTIVE in HUNT and searching. -/
def Lane.isSearching (x : Lane) : Bool :=
  decide (x.power = .active) && decide (x.rx = .hunt) && x.searching

/-- HEADER_IN_HUNT (R65, R66). -/
def execHeaderInHunt (i : SlotId) (l : LaneId) (bits : BitVec 48) (s : State) : Result :=
  let sl := s.slot i
  let x := sl.lane l
  if x.isSearching then
    let r := x.huntHeader sl.profile.payload.isPrbs bits
    .next (settle (laneReports i l r.1 r.2 s))
  else .next s

/-- HEADER_IN_LOCK (R67). -/
def execHeaderInLock (i : SlotId) (l : LaneId) (bits : BitVec 48) (s : State) : Result :=
  let sl := s.slot i
  let x := sl.lane l
  if x.isLocked then
    let r := x.lockHeader sl.profile.payload.isPrbs (decide (sl.state = .soak))
      (timerAfter s.us sl.profile.relockTimeout) bits
    .next (settle (laneReports i l r.1 r.2 s))
  else .next s

/-- R77, R151: the frame of a DWELL lane is tallied, and the last one fixes its count. -/
def scanTally (dwell m : Nat) (p : Nat) (st : StepState) (r : ScanLane) : StepState × ScanLane :=
  match st with
  | .dwell f e true =>
    if 16 * dwell ≤ f + 1 then (.finished, r.fix p (min (e + m) 255))
    else (.dwell (f + 1) (e + m) true, r)
  | st => (st, r)

/-- R77: the frame being received is reported to the scanner. -/
def Slot.reportsFrame (sl : Slot) (l : LaneId) : Bool :=
  let x := sl.lane l
  decide (sl.state = .scan) && x.soakRole && decide (x.rxFrame = .inLock) &&
    decide (x.lastKind = some .scan)

/-- FRAME_RECEIVED (R72): the payload of the frame whose header place left the lane LOCKED is received
and checked. -/
def execFrameReceived (i : SlotId) (l : LaneId) (payload : BitVec 4096) (s : State) : Result :=
  let sl := s.slot i
  let x := sl.lane l
  if x.isLocked ∧ x.rxFrame ≠ .none then
    let r := x.receive sl.profile.payload s.patterns (decide (sl.state = .soak)) payload
    let s₁ := s.withSlot i (sl.withLane l r.1)
    if sl.reportsFrame l then
      .next (settle (scanReport i l (scanTally sl.profile.dwell r.2) s₁))
    else .next s₁
  else .next s

/-- RELOCK_TIMEOUT (R68): the relock timer of a lane in HUNT expires and the lane becomes DEAD. -/
def execRelockTimeout (i : SlotId) (l : LaneId) (s : State) : Result :=
  let x := (s.slot i).lane l
  if x.relockDue s.us then
    .next (settle (laneReports i l (x.die .relockTimeout) [.died .relockTimeout] s))
  else .next s

end Sys2Proof.Machine
end

