-- ==== Sys2Proof/Machine/SlotEvents.lean ====
section
/-! DEFINITION. The events of the slots: the presence inputs, the debounce timer and the state timer
(chapters 5 and 7). -/

namespace Sys2Proof.Machine

open Sys2Proof

/-! ### Presence (R80 to R85) -/

/-- PRES_N_CHANGE (R80): PRES_N of slot `i` goes to its asserted or its released level. -/
def execPresNChange (i : SlotId) (asserted : Bool) (s : State) : Result :=
  .next (rawChanged i (rawPresence s i) { s with presN := s.presN.set i.val asserted })

/-- ENERGY_DETECT_CHANGE (R59): the energy detector of receive lane (i, l) goes to signal present or
absent. Only lane 0's is handed on. -/
def execEnergyDetectChange (i : SlotId) (l : LaneId) (present : Bool) (s : State) : Result :=
  .next (rawChanged i (rawPresence s i)
    { s with energy := s.energy.set i.val ((s.energy[i.val]).set l.val present) })

/-- R82: a debounced presence assertion is taken in slot `i`. -/
def presenceAssertion (i : SlotId) (s : State) : State :=
  let sl := s.slot i
  let flag := if sl.profile.presenceEdges.reportsInsert then EventFlags.insert else 0
  let s₁ := s.modSlot i fun sl => { sl with flags := sl.flags ||| flag }
  if sl.state = .watch then toSettle i s₁ else s₁

/-- R84, R85: a removal in slot `i`: an attempt is counted, and the third ends the test. -/
def removal (i : SlotId) (s : State) : State :=
  let n := (s.slot i).attempts + 1
  let s₁ := s.modSlot i fun sl => { sl with attempts := n }
  let f : Finding := { code := .removedRepeatedly, lane := none, failing := true, value := 3 }
  sweepSettle (if n < 3 then toWatch i s₁ else toVerdict i (s₁.modSlot i fun sl => sl.find f))

/-- R83: a debounced presence loss is taken in slot `i`. -/
def presenceLoss (i : SlotId) (s : State) : State :=
  let sl := s.slot i
  let flag := if sl.profile.presenceEdges.reportsRemove then EventFlags.remove else 0
  let s₁ := s.modSlot i fun sl => { sl with flags := sl.flags ||| flag }
  if sl.state.testing then removal i s₁ else s₁

/-- R81: the debounced presence of slot `i` takes the raw input's value and the change is taken. -/
def debounceTaken (i : SlotId) (s : State) : State :=
  let now := rawPresence s i
  let s₁ := s.modSlot i fun sl => { sl with present := now, debounceTimer := none }
  if (s.slot i).present = now then s₁
  else if now then presenceAssertion i s₁
  else presenceLoss i s₁

/-- R81: the debounce timer of slot `i` expires: it is running, its time has come and presence is
tracked. -/
def debounceDue (s : State) (i : SlotId) : Bool :=
  (s.slot i).tracking && timerDue s.us (s.slot i).debounceTimer

/-- DEBOUNCE_EXPIRY (R81). -/
def execDebounceExpiry (i : SlotId) (s : State) : Result :=
  if debounceDue s i then .next (settle (debounceTaken i s)) else .next s

/-! ### The state timer (R87, R122) -/

/-- R57, R87: slot `i` enters DISCOVER: its WAKING lanes become ACTIVE, the plug identity becomes none
and a discovery entry joins the Sideband Queue. -/
def toDiscover (i : SlotId) (s : State) : State :=
  sbJoin (.discovery i) (s.modSlot i fun sl =>
    { sl.mapLanes (fun _ x => x.activate) with
      state := .discover
      stateTimer := none
      identity := none })

/-- The state timer of slot `i` expires in the state. -/
def stateTimerDue (s : State) (i : SlotId) (st : SlotState) : Bool :=
  decide ((s.slot i).state = st) && timerDue s.us (s.slot i).stateTimer

/-- SETTLE_EXPIRY (R87). -/
def execSettleExpiry (i : SlotId) (s : State) : Result :=
  if stateTimerDue s i .settle then .next (toDiscover i s) else .next s

/-- TRAIN_TIMEOUT (R122). -/
def execTrainTimeout (i : SlotId) (s : State) : Result :=
  if stateTimerDue s i .train then .next (settle (endTraining i s)) else .next s

end Sys2Proof.Machine
end

