-- ==== Sys2Proof/Machine/TimebaseEvents.lean ====
section
/-! DEFINITION. The increments of the µs counter that wrap the prescaler, make an interval or make a
checkpoint (R132). -/

namespace Sys2Proof.Machine

open Sys2Proof

/-- One increment of the µs counter as a whole event: with all it brings about in the timebase, in the
soaking slots and in what they leave pending (R132). DESIGN CHOICE (log 43): a timer's expiry that falls at the
microsecond this increment begins is due only after it, so a checkpoint comes before it (R99, R145). -/
def tick (s : State) : State :=
  if checkpointDue s then settle (usTick s) else usTick s

/-- INTERVAL (R132): the increment of the µs counter that makes an interval. -/
def execInterval (s : State) : Result :=
  if !s.porst && intervalDue s then .next (tick s) else .next s

/-- CHECKPOINT (R132): the increment of the µs counter that makes a checkpoint. DESIGN CHOICE (log 43): an expiry
of the same microsecond, of a relock or debounce timer or any other, is taken after it. -/
def execCheckpoint (s : State) : Result :=
  if !s.porst && checkpointDue s then .next (tick s) else .next s

/-- PRESCALER_WRAP (R132): the increment of the µs counter that makes the prescaler count return
to 0. -/
def execPrescalerWrap (s : State) : Result :=
  if !s.porst && wrapDue s then .next (tick s) else .next s

end Sys2Proof.Machine
end

