-- ==== Sys2Proof/Machine/RingEvents.lean ====
section
/-! DEFINITION. The events of the Record Writer and the Attention Unit that no acknowledgement, command or
response brings: the start of a record's write and the expiry of the age timer (chapter 10). -/

namespace Sys2Proof.Machine

open Sys2Proof

/-- RECORD_WRITE_START (R167): the write of a selection that fits starts, or the PAD's before it. -/
def execRecordWriteStart (s : State) : Result :=
  match s.writer.waitingSelection with
  | none => .next s
  | some sel => if s.writer.fits sel.length then .next (settle (startWrite s)) else .next s

/-- The age timer is running and its time has come. -/
def ageDue (s : State) : Bool :=
  match s.attention.age with
  | .running expiry => reached s.us expiry
  | .stopped | .expired => false

/-- AGE_TIMER_EXPIRY (R174). -/
def execAgeTimerExpiry (s : State) : Result :=
  if ageDue s then .next (evaluate (s.modAttention fun a => { a with age := .expired })) else .next s

end Sys2Proof.Machine
end

