-- ==== Sys2Proof/Machine/SidebandEvents.lean ====
section
/-! DEFINITION. The events of the sideband line (chapter 6): a try ends, the waits end, the line sticks and
is recovered; and with them the steps and the end of a walk and the end of a host entry. -/

namespace Sys2Proof.Machine

open Sys2Proof

/-- The head of the Sideband Queue leaves it and the engine becomes IDLE (R108, R115, R116). -/
def headEnds (s : State) : State := engineFree (s.withSbQueue s.sideband.queue.tail)

/-! ### The end of a walk (R115) -/

/-- R115: the walk of slot `i` ends: its identity and findings are applied, its entry leaves the queue
and the slot leaves DISCOVER. -/
def walkEnd (i : SlotId) (intoTrain : Bool) (w : Walk) (s : State) : State :=
  let s₁ := headEnds (s.modSlot i fun sl =>
    { sl with identity := some w.identity, findings := addFindings sl.findings w.findings })
  if intoTrain then toTrain i s₁ else toVerdict i s₁

/-- The engine with the working record of the walk replaced. -/
def withWalk (w : Walk) (s : State) : State := s.withEngine { s.sideband.engine with walk := w }

/-- R114: the engine waits the plug's settle time, in units of 100 µs. -/
def beginPlugSettle (units : Nat) (s : State) : State :=
  s.withEngine { s.sideband.engine with phase := .plugSettle, wait := timerAfter s.us (units * 100) }

/-- R112 to R114: the walk of slot `i` goes on with the result of its transaction. -/
def walkGoesOn (i : SlotId) (r : TxnResult) (s : State) : State :=
  let free := (Config.findingValue s.freeCount).toNat
  let s₁ := { s with freeCount := s.freeCount + 1 }
  match s.sideband.engine.walk.next (s.slot i).profile.plugPolicy free r with
  | .transact direction offset count data w =>
    beginTxn { slot := i, direction := direction, offset := offset, count := count, data := data }
      (withWalk w s₁)
  | .settle units w => beginPlugSettle units (withWalk w s₁)
  | .finish intoTrain w => walkEnd i intoTrain w s₁

/-! ### The end of a host entry (R39, R116) -/

/-- The 8 bytes of the data field: the bytes read, then zeros (R39). -/
def dataField (bytes : List Byte) : Vector Byte 8 := Vector.ofFn fun k : Fin 8 => bytes.getD k.val 0

/-- R25, R39: the status, detail and extra of a host entry's result. -/
def hostAnswer (e : HostEntry) : TxnResult → Answer
  | .success _ =>
    if e.clamped then ⟨.doneClamped, 0, 1⟩ else ⟨.done, 0, BitVec.ofNat 32 e.count⟩
  | .nakAddress => ⟨.sidebandNak, 1, 0⟩
  | .nakData acked => ⟨.sidebandNak, 2, BitVec.ofNat 32 acked⟩
  | .stuck cause => ⟨.sidebandStuck, cause.value, 0⟩

/-- R39: the sideband data of the completion: only a read that succeeded has it. -/
def hostData (e : HostEntry) : TxnResult → Option (Vector Byte 8)
  | .success bytes => match e.direction with
    | .read => some (dataField bytes)
    | .write => none
  | .nakAddress | .nakData _ | .stuck _ => none

/-- R39: the decoder creates the completion word of the entry, for the SIDEBAND command outstanding in
its block. -/
def reportHost (e : HostEntry) (r : TxnResult) (s : State) : State :=
  match outstandingTag s.decoder e.block with
  | none => s
  | some tag =>
    let a := hostAnswer e r
    complete e.block tag a.status a.detail a.extra (hostData e r) true s

/-- R116, R117: the host entry `e` ends. DEDUCED (log 38): its word joins the Insert Queue in the same event
where there is a place for it (R10), so that the outstanding set has room; else its block stays in the set
until the word joins (R23, R27). Eight joins fill the queue. -/
def hostEnd (e : HostEntry) (r : TxnResult) (s : State) : State :=
  joinUntilAnswered e.block 8 (reportHost e r (headEnds s))

/-- R116: the transaction of the host entry `e` has ended: its post-wait begins, and one of 0 ends at
once. It is counted from the final STOP, or from the cut of a recovery that sends none (log 41). -/
def hostWait (e : HostEntry) (r : TxnResult) (s : State) : State :=
  if e.postWait = 0 then hostEnd e r s
  else
    s.withEngine { s.sideband.engine with
      phase := .postWait, wait := timerAfter s.us e.postWait, result := some r }

/-! ### The end of a transaction (R103, R105, R106, R109, R110) -/

/-- The transaction ends with result `r`: the entry in service goes on, and one that has been withdrawn
or removed leaves the engine IDLE. -/
def txnEnd (r : TxnResult) (s : State) : State :=
  if s.sideband.engine.abandoned then engineFree s
  else
    match s.sideband.queue with
    | [] => engineFree s
    | .discovery i :: _ => walkGoesOn i r s
    | .host e :: _ => hostWait e r s

/-- The bytes a successful try gives: the bytes read, none for a write. -/
def bytesRead (t : Txn) (bytes : Vector Byte 8) : List Byte :=
  match t.direction with
  | .read => bytes.toList.take t.count
  | .write => []

/-- R105: the try can end so: only a read sends the address byte 0x59, and only a write has a data NAK, on
one of the bytes it sends. -/
def resultPossible (t : Txn) : TryResult → Bool
  | .success _ => true
  | .addressNak byte => decide (t.direction = .read) || decide (byte.val < 2)
  | .dataNak acked => decide (t.direction = .write) && decide (acked.val < t.count)

/-- R105: a try failed by an address NAK: 1 ms to the next, or the end after the third. -/
def tryFailed (s : State) : State :=
  if s.sideband.engine.abandoned then engineFree s
  else if s.sideband.engine.tries < 3 then
    s.withEngine { s.sideband.engine with phase := .retryWait, wait := timerAfter s.us 1000 }
  else txnEnd .nakAddress s

/-- R103, R105: a try reaches its STOP. -/
def tryResult (r : TryResult) (s : State) : State :=
  match r with
  | .success bytes => txnEnd (.success (bytesRead s.sideband.engine.txn bytes)) s
  | .addressNak _ => tryFailed s
  | .dataNak acked => txnEnd (.nakData acked.val) s

/-- The line of the transaction as a try or a recovery that sent `items` leaves it at its STOP: what stood on
it (R102, R103, R106). -/
def lineUsed (items : List LineItem) (s : State) : State :=
  let e := s.sideband.engine
  s.withEngine { e with line := some { slot := e.txn.slot, speed := e.speed, items := items } }

/-- TRY_END (R105). A result the try cannot have is no event (log 22). -/
def execTryEnd (r : TryResult) (s : State) : Result :=
  if s.sideband.engine.phase = .try ∧ resultPossible s.sideband.engine.txn r = true then
    .next (settle (tryResult r (lineUsed (s.sideband.engine.txn.sent r) s)))
  else .next s

/-- The engine is in the phase and its wait is over. -/
def waitDue (s : State) (phase : Phase) : Bool :=
  decide (s.sideband.engine.phase = phase) && timerDue s.us s.sideband.engine.wait

/-- R104, R105: the next try of the transaction starts, at the speed the slot's state gives now. -/
def nextTry (s : State) : State :=
  s.withEngine { s.sideband.engine with
    phase := .try
    tries := s.sideband.engine.tries + 1
    speed := lineSpeed s s.sideband.engine.txn.slot
    wait := none }

/-- RETRY_WAIT_EXPIRY (R105). -/
def execRetryWaitExpiry (s : State) : Result :=
  if waitDue s .retryWait then .next (nextTry s) else .next s

/-- R106: the line is stuck: its recovery begins. -/
def beginRecovery (cause : StuckCause) (s : State) : State :=
  s.withEngine { s.sideband.engine with phase := .recovery, cause := cause }

/-- R106: the transaction ends STUCK with its cause. -/
def endStuck (s : State) : State := txnEnd (.stuck s.sideband.engine.cause) s

/-- CLOCK_HELD_LOW (R106): in a try the transaction is stuck by its clock; in a recovery the recovery is
cut short, both wires are released and the transaction ends with the cause it had (log 21). DEDUCED (log 41):
there being no final STOP, a host entry's post-wait is counted from this event. -/
def execClockHeldLow (s : State) : Result :=
  match s.sideband.engine.phase with
  | .try => .next (beginRecovery .clock s)
  | .recovery => .next (settle (endStuck s))
  | .idle | .retryWait | .plugSettle | .postWait => .next s

/-- DATA_STUCK_LOW (R106). -/
def execDataStuckLow (s : State) : Result :=
  if s.sideband.engine.phase = .try then .next (beginRecovery .data s) else .next s

/-- RECOVERY_END (R106). -/
def execRecoveryEnd (s : State) : Result :=
  if s.sideband.engine.phase = .recovery then .next (settle (endStuck (lineUsed recoverySequence s)))
  else .next s

/-- R114: the plug settle wait of the walk at the queue's head ends. -/
def plugSettled (s : State) : State :=
  match s.sideband.queue with
  | .discovery i :: _ => walkEnd i true s.sideband.engine.walk s
  | _ => engineFree s

/-- PLUG_SETTLE_EXPIRY (R114). -/
def execPlugSettleExpiry (s : State) : Result :=
  if waitDue s .plugSettle then .next (settle (plugSettled s)) else .next s

/-- R116: the post-wait of the host entry at the queue's head ends. -/
def postWaited (s : State) : State :=
  match s.sideband.queue, s.sideband.engine.result with
  | .host e :: _, some r => hostEnd e r s
  | _, _ => engineFree s

/-- POST_WAIT_EXPIRY (R116). -/
def execPostWaitExpiry (s : State) : Result :=
  if waitDue s .postWait then .next (postWaited s) else .next s

end Sys2Proof.Machine
end

