-- ==== Sys2Proof/Machine/Dispatch.lean ====
section
/-! DEFINITION. One arm for each command: the call of its meaning. -/

namespace Sys2Proof.Machine

open Sys2Proof

/-- What each command does to everything but the queue of the commands that wait. -/
def exec (i : Instr) (s : State) : Host.Outcome State Fault Refusal :=
  match i with
  | .requestAccept r => Sys2Proof.Machine.execRequestAccept r s
  | .forwardedIssue => Sys2Proof.Machine.execForwardedIssue s
  | .insertedIssue => Sys2Proof.Machine.execInsertedIssue s
  | .forwardedResponse id status data => Sys2Proof.Machine.execForwardedResponse id status data s
  | .insertJoin => Sys2Proof.Machine.execInsertJoin s
  | .insertAck place status => Sys2Proof.Machine.execInsertAck place status s
  | .portReset => Sys2Proof.Machine.execPortReset s
  | .portResetRelease => Sys2Proof.Machine.execPortResetRelease s
  | .powerOnReset => Sys2Proof.Machine.execPowerOnReset s
  | .powerOnResetRelease wbase => Sys2Proof.Machine.execPowerOnResetRelease wbase s
  | .noneBlock block => Sys2Proof.Machine.execNoneBlock block s
  | .unknownCode block code head => Sys2Proof.Machine.execUnknownCode block code head s
  | .setWindow block head params => Sys2Proof.Machine.execSetWindow block head params s
  | .setProfile block head params => Sys2Proof.Machine.execSetProfile block head params s
  | .definePattern block head length => Sys2Proof.Machine.execDefinePattern block head length s
  | .setTimebase block head params => Sys2Proof.Machine.execSetTimebase block head params s
  | .setAttention block head params => Sys2Proof.Machine.execSetAttention block head params s
  | .start block head => Sys2Proof.Machine.execStart block head s
  | .abort block head => Sys2Proof.Machine.execAbort block head s
  | .retest block head => Sys2Proof.Machine.execRetest block head s
  | .clear block head => Sys2Proof.Machine.execClear block head s
  | .snapshot block head => Sys2Proof.Machine.execSnapshot block head s
  | .sideband block head params => Sys2Proof.Machine.execSideband block head params s
  | .status block head => Sys2Proof.Machine.execStatus block head s
  | .frameStart slot lane => Sys2Proof.Machine.execFrameStart slot lane s
  | .headerInHunt slot lane bits => Sys2Proof.Machine.execHeaderInHunt slot lane bits s
  | .headerInLock slot lane bits => Sys2Proof.Machine.execHeaderInLock slot lane bits s
  | .frameReceived slot lane payload => Sys2Proof.Machine.execFrameReceived slot lane payload s
  | .relockTimeout slot lane => Sys2Proof.Machine.execRelockTimeout slot lane s
  | .presNChange slot asserted => Sys2Proof.Machine.execPresNChange slot asserted s
  | .energyDetectChange slot lane present => Sys2Proof.Machine.execEnergyDetectChange slot lane present s
  | .debounceExpiry slot => Sys2Proof.Machine.execDebounceExpiry slot s
  | .settleExpiry slot => Sys2Proof.Machine.execSettleExpiry slot s
  | .trainTimeout slot => Sys2Proof.Machine.execTrainTimeout slot s
  | .tryEnd result => Sys2Proof.Machine.execTryEnd result s
  | .retryWaitExpiry => Sys2Proof.Machine.execRetryWaitExpiry s
  | .clockHeldLow => Sys2Proof.Machine.execClockHeldLow s
  | .dataStuckLow => Sys2Proof.Machine.execDataStuckLow s
  | .recoveryEnd => Sys2Proof.Machine.execRecoveryEnd s
  | .plugSettleExpiry => Sys2Proof.Machine.execPlugSettleExpiry s
  | .postWaitExpiry => Sys2Proof.Machine.execPostWaitExpiry s
  | .interval => Sys2Proof.Machine.execInterval s
  | .checkpoint => Sys2Proof.Machine.execCheckpoint s
  | .recordWriteStart => Sys2Proof.Machine.execRecordWriteStart s
  | .ageTimerExpiry => Sys2Proof.Machine.execAgeTimerExpiry s
  | .prescalerWrap => Sys2Proof.Machine.execPrescalerWrap s

end Sys2Proof.Machine
end

