-- ==== Sys2Proof/Machine/Step.lean ====
section
/-! DEFINITION. One step of the part: the command at the front of the queue, or one increment of the µs
counter where none waits. -/

namespace Sys2Proof.Machine

open Sys2Proof

/-- What the part does while no command waits (log 2): one increment of the µs counter, which stands still
while PORST_N is asserted (R17). -/
def idle (s : State) : State := if s.porst then s else tick s

/-- The command at the front of the queue is executed on the state with the queue's rest; with an empty
queue the part idles. -/
def step (s : State) : Host.Outcome State Fault Refusal :=
  match s.pending with
  | [] => .next (idle s)
  | c :: rest => exec c { s with pending := rest }

/-- The state with the command that the word spells at the front of the queue; unchanged where it spells
none, as every word does (log 33). -/
def State.withFetchWord (s : State) (nbits w : Nat) : State :=
  match decodeTableWord nbits w with
  | none => s
  | some c => { s with pending := c :: s.pending }

end Sys2Proof.Machine
end

