-- ==== Sys2Proof/Safety.lean ====
section
/-! DEFINITION. What every reachable state of the part is claimed to satisfy: the statements the manual
makes about the whole machine, each as a property of one state. -/

namespace Sys2Proof.Safety

open Sys2Proof Sys2Proof.Machine

/-- R160: the list holds at most 16 entries, no two with the same code and lane, and TRUNCATED only as
its last entry; a list of 16 ends in it. -/
def findingsOk (fs : List Finding) : Prop :=
  fs.length ≤ 16 ∧ (fs.length = 16 → endsTruncated fs = true) ∧
    (fs.map fun f => (f.code, f.lane)).Nodup ∧ ∀ f ∈ fs.dropLast, f.code ≠ .truncated

/-- R160: every slot's findings list is as the rule says. -/
def FindingsOk (s : State) : Prop := ∀ i, findingsOk (s.slot i).findings

/-- R2, R3, R10, R13, R14: the bounds of the memory path's queues and of its arbiter's count. Places in
the Insert Queue are distinct, and only issued entries are void. -/
def PathOk (s : State) : Prop :=
  s.path.fwd.length ≤ 32 ∧ s.path.out.length ≤ 64 ∧ s.path.ins.length ≤ 8 ∧
    (s.path.ins.map InsEntry.place).Nodup ∧ (∀ e ∈ s.path.ins, e.void = true → e.issued = true) ∧
    s.path.arbCount ≤ 4

/-- R4, R9: window 0 is the 4 KiB command window, no other window is one, the enabled windows are aligned
to their sizes and do not overlap, a REPORT window has a size of R9, at most one window has role REPORT and
at most one captures into each pattern; while PORST_N is asserted
windows 1..7 are OFF (R17). -/
def WindowsOk (s : State) : Prop :=
  (s.path.windows[0]).role = .command ∧ (s.path.windows[0]).size = 4096 ∧
    (∀ i : Fin 8, i ≠ 0 → (s.path.windows[i.val]).role ≠ .command) ∧
    (∀ i : Fin 8, (s.path.windows[i.val]).role = .report → reportSize (s.path.windows[i.val]).size = true) ∧
    (∀ i : Fin 8, (s.path.windows[i.val]).enabled = true →
      (s.path.windows[i.val]).base.toNat % (s.path.windows[i.val]).size = 0) ∧
    (∀ i j : Fin 8, i ≠ j → (s.path.windows[i.val]).enabled = true →
      windowClash (s.path.windows[i.val]).base (s.path.windows[i.val]).size (s.path.windows[j.val])
        = false) ∧
    (∀ i j : Fin 8, i ≠ j → (s.path.windows[i.val]).role = .report →
      (s.path.windows[j.val]).role ≠ .report) ∧
    (∀ i j : Fin 8, i ≠ j → (s.path.windows[i.val]).role = .pattern →
      (s.path.windows[j.val]).role = .pattern →
      (s.path.windows[i.val]).pattern ≠ (s.path.windows[j.val]).pattern) ∧
    (s.porst = true → ∀ i : Fin 8, i ≠ 0 → (s.path.windows[i.val]).role = .off)

/-- R23, R26: at most one word in the backlog and one outstanding SIDEBAND for each block, and at most
four outstanding. -/
def DecoderOk (s : State) : Prop :=
  (s.decoder.backlog.map Completion.block).Nodup ∧ (s.decoder.outstanding.map Prod.fst).Nodup ∧
    s.decoder.outstanding.length ≤ 4

/-- R46, R53: the bytes of every pattern are in canonical form, and its length is 1..32. -/
def PatternsOk (s : State) : Prop :=
  ∀ n : Fin 4, Memory.wf (s.patterns[n.val]).mem = true ∧ 1 ≤ (s.patterns[n.val]).length ∧
    (s.patterns[n.val]).length ≤ 32

/-- R41, R73 to R76: the counts stay within their maxima. -/
def countersOk (c : LaneCounters) : Prop :=
  c.blocks ≤ max32 ∧ c.sub < 16 ∧ c.errors ≤ 65535 ∧ c.drops ≤ 255 ∧ c.headerErrors ≤ 255

/-- R41, R73 to R76: every count of the lanes and of the decoder stays within its maximum. -/
def CountsOk (s : State) : Prop :=
  (∀ i l, countersOk ((s.slot i).lane l).counters) ∧
    s.decoder.counts.commandsTaken ≤ max32 ∧ s.decoder.counts.commandsRefused ≤ max32 ∧
    s.decoder.counts.partialWrites ≤ max32 ∧ s.decoder.counts.commandWritesFailed ≤ max32 ∧
    s.decoder.counts.crossingRequests ≤ max32 ∧ s.decoder.counts.trespassWrites ≤ max32 ∧
    s.decoder.counts.insertedWritesFailed ≤ max32

/-- R43: the numeric fields of a profile lie in their ranges and its lane mask is not 0. -/
def profileOk (p : Profile) : Prop :=
  p.laneMask ≠ 0 ∧ (1 ≤ p.debounce ∧ p.debounce ≤ 255) ∧ (1 ≤ p.settle ∧ p.settle ≤ 255) ∧
    (1 ≤ p.trainTimeout ∧ p.trainTimeout ≤ 255) ∧ (1 ≤ p.relockTimeout ∧ p.relockTimeout ≤ 65535) ∧
    (1 ≤ p.soakLength ∧ p.soakLength ≤ 255) ∧ (1 ≤ p.berM ∧ p.berM ≤ 255) ∧
    (16 ≤ p.berX ∧ p.berX ≤ 47) ∧ p.errorCeiling ≤ 65535 ∧ p.maxLockDrops ≤ 255 ∧
    (1 ≤ p.dwell ∧ p.dwell ≤ 64) ∧ p.tolerance ≤ 15 ∧ (1 ≤ p.minEyeWidth ∧ p.minEyeWidth ≤ 32)

/-- R131: the settings of the timebase are legal and its counts lie below them. -/
def timebaseOk (t : Timebase) : Prop :=
  t.prescale ∈ [1, 4, 16, 64] ∧ (1 ≤ t.period ∧ t.period ≤ 65535) ∧
    (1 ≤ t.postscale ∧ t.postscale ≤ 16) ∧ t.prescalerCount < t.prescale ∧
    t.periodCount < t.period ∧ t.postscalerCount < t.postscale

/-- R43, R131, R173: the profiles, their copies, the timebase and the attention settings are in range. -/
def SettingsOk (s : State) : Prop :=
  (∀ k : Fin 4, profileOk (s.profiles[k.val])) ∧ (∀ i, profileOk (s.slot i).profile) ∧
    timebaseOk s.timebase ∧ (1 ≤ s.attention.threshold ∧ s.attention.threshold ≤ 16) ∧
    s.attention.delay ≤ 255

/-- R9, R162: a ring of these bytes is made of 32-byte units, from a base on such a unit to an end within the
address space. -/
def ringPlaced (base : Addr) (size : Nat) : Prop :=
  0 < size ∧ size % 32 = 0 ∧ base.toNat % 32 = 0 ∧ base.toNat + size ≤ 2 ^ 40

/-- R163: the length of a record, a positive multiple of 32. -/
def lengthOk (length : Nat) : Prop := 0 < length ∧ length % 32 = 0

/-- R162, R163, R166: the ring holds what is unconsumed: U is the sum of the listed lengths and no more than
S, no record extends past the ring's end, the oldest offset is the oldest record's, or W where none is
listed, and a record in flight lies at W within the free bytes, with no selection held behind it but
behind a PAD. W and every offset and length are multiples of 32. -/
def ringOk (w : Writer) (r : Ring) : Prop :=
  ringPlaced r.base r.size ∧ w.write < r.size ∧ w.write % 32 = 0 ∧ w.used ≤ r.size ∧
    w.used = (w.list.map Published.length).sum ∧
    (∀ p ∈ w.list, p.offset % 32 = 0 ∧ lengthOk p.length ∧ p.offset + p.length ≤ r.size) ∧
    w.oldest = (match w.list with
      | [] => w.write
      | p :: _ => p.offset) ∧
    (∀ sel, w.selection = some sel → lengthOk sel.length) ∧
    (∀ f, w.inFlight = some f →
      f.offset = w.write ∧ lengthOk f.length ∧ f.offset + f.length ≤ r.size ∧
        w.used + f.length ≤ r.size ∧ (f.kind ≠ .pad → w.selection = none))

/-- R9, R162, R166: the ring, where one is set, is as the rules say, and so is the place of a REPORT
window. -/
def RingOk (s : State) : Prop :=
  (∀ r, s.writer.ring = some r → ringOk s.writer r) ∧
    ∀ j : Fin 8, (s.path.windows[j.val]).role = .report →
      ringPlaced (s.path.windows[j.val]).base (s.path.windows[j.val]).size

/-- The record in flight is the VERDICT record of slot `i`. -/
def verdictInFlight (s : State) (i : SlotId) : Prop :=
  ∃ f, s.writer.inFlight = some f ∧ f.source = .slot i ∧ f.kind = .verdict

/-- R85, R90, R107, R148, R164, R165: how the slots' states go with the queues and the Record Writer. The
Scan Queue holds the slots in SCAN, each once; a discovery entry's slot is in DISCOVER and has no other;
a VERDICT record pending or in flight is of a slot in VERDICT, and never both; a selection's kind is
pending; the attempt count is at most 3, and 3 only in VERDICT or DONE. -/
def SlotsOk (s : State) : Prop :=
  s.scanner.queue.Nodup ∧ (∀ i, i ∈ s.scanner.queue ↔ (s.slot i).state = .scan) ∧
    (∀ i, s.sideband.queue.count (.discovery i) ≤ 1) ∧
    (∀ i, .discovery i ∈ s.sideband.queue → (s.slot i).state = .discover) ∧
    (∀ i, (s.slot i).verdictPending = true → (s.slot i).state = .verdict ∧ ¬ verdictInFlight s i) ∧
    (∀ i, verdictInFlight s i → (s.slot i).state = .verdict) ∧
    (∀ sel, s.writer.selection = some sel → sel.kind ∈ pendingKinds s sel.source) ∧
    (∀ i, (s.slot i).attempts ≤ 3 ∧
      ((s.slot i).attempts = 3 → (s.slot i).state = .verdict ∨ (s.slot i).state = .done))

/-- R148, R149, R154: a sweep is in progress exactly while the Scan Queue is not empty, and some lane of it
is in WAIT_LOCK or DWELL: between events no sweep can go on. Only lanes of the queue's head stand at a sampling
position other than 0; they, the lanes that take part in its sweep and every lane with the soak role are
ACTIVE. -/
def SweepOk (s : State) : Prop :=
  (s.scanner.sweep = none ↔ s.scanner.queue = []) ∧
    (∀ sw, s.scanner.sweep = some sw → sw.busy = true) ∧
    (∀ i l, let x := (s.slot i).lane l
      (x.position ≠ 0 → s.scanner.queue.head? = some i ∧ x.power = .active) ∧
      (x.soakRole = true → x.power = .active)) ∧
    ∀ i sw, s.scanner.queue.head? = some i → s.scanner.sweep = some sw →
      ∀ l : LaneId, (sw.steps[l.val]).takesPart = true → ((s.slot i).lane l).power = .active

/-- R54: slot `i` holds a claim on pattern `n`. -/
def claims (s : State) (n : Fin 4) (i : SlotId) : Bool :=
  (s.slot i).state.abortable && decide ((s.slot i).profile.payload = .pattern n)

/-- R54: each pattern's in-use count is the number of the slots that hold a claim on it. -/
def ClaimsOk (s : State) : Prop :=
  ∀ n : Fin 4, (s.patterns[n.val]).inUse = (allSlots.filter (claims s n)).length

/-- `P` holds of the next state of every step from a state that satisfies `P`. -/
def Kept (P : State → Prop) : Prop :=
  ∀ s t, P s → step s = .next t → P t

/-! ### What the statements name -/

/-- The head fields of a command that stands in a command block, NONE apart. -/
def blockHead? : Instr → Option BlockHead
  | .unknownCode _ _ h | .setWindow _ h _ | .setProfile _ h _ | .definePattern _ h _
  | .setTimebase _ h _ | .setAttention _ h _ | .start _ h | .abort _ h | .retest _ h | .clear _ h
  | .snapshot _ h | .sideband _ h _ | .status _ h => some h
  | .noneBlock .. | .requestAccept .. | .forwardedIssue | .insertedIssue | .forwardedResponse ..
  | .insertJoin | .insertAck .. | .portReset | .portResetRelease | .powerOnReset
  | .powerOnResetRelease .. | .frameStart .. | .headerInHunt .. | .headerInLock ..
  | .frameReceived .. | .relockTimeout .. | .presNChange .. | .energyDetectChange ..
  | .debounceExpiry .. | .settleExpiry .. | .trainTimeout .. | .tryEnd .. | .retryWaitExpiry
  | .clockHeldLow | .dataStuckLow | .recoveryEnd | .plugSettleExpiry | .postWaitExpiry | .interval
  | .checkpoint | .recordWriteStart | .ageTimerExpiry | .prescalerWrap => none

/-- Neither reset pin is asserted. -/
def running (s : State) : Prop := s.prst = false ∧ s.porst = false

/-- A command in block `n` with these head fields passes the steps of R22 before the command's own checks:
no reset pin is asserted, the block has no SIDEBAND outstanding and its zero byte is 0. -/
def ready (s : State) (n : BlockId) (h : BlockHead) : Prop :=
  running s ∧ outstandingTag s.decoder n = none ∧ h.zero = 0

/-- R18, R25: the slot mask names slots and no more: it is neither 0 nor has a bit for slot 12..15. -/
def maskLegal (h : BlockHead) : Prop := h.slotMask ≠ 0 ∧ h.slotMask.toNat < 4096

/-- R24 to R26, R41: the decoder after a take that answers `a` in block `n`: one more command taken, one
more refused where `a` is a refusal, and the completion word, addressed to bytes 48..63 of the block, in
the backlog. -/
def answered (s : State) (n : BlockId) (tag : BitVec 16) (a : Answer) : Decoder :=
  { s.decoder with
    backlog := placeCompletion s.decoder.backlog
      { block := n, addr := (s.path.windows[0]).base + BitVec.ofNat 40 (64 * n.toNat + 48), tag := tag,
        status := a.status, detail := BitVec.ofNat 8 a.detail, extra := a.extra, data := none,
        fromSideband := false }
    counts := { s.decoder.counts with
      commandsTaken := bump s.decoder.counts.commandsTaken
      commandsRefused :=
        if a.status.refusal then bump s.decoder.counts.commandsRefused
        else s.decoder.counts.commandsRefused } }

/-- R80: the raw presence input slot `i` would have under the presence source. -/
def rawInput (s : State) (i : SlotId) : PresenceSource → Bool
  | .pin => s.presN[i.val]
  | .signal => (s.energy[i.val])[0]
  | .either => s.presN[i.val] || (s.energy[i.val])[0]

/-- R92: the debounce timer as a restart of presence tracking leaves it, `raw` the raw input then. -/
def restartedTimer (s : State) (p : Profile) (raw : Bool) : Timer :=
  if raw then some (s.us + BitVec.ofNat 48 (p.debounce * 1000)) else none

/-- R9: what a SET_WINDOW may give window `i`. -/
def windowLegal (s : State) (i : Fin 8) (p : WindowParams) : Prop :=
  p.role = 0 ∨
  (p.role = 1 ∧ p.size.toNat = 4096 ∧ p.pattern.toNat < 4 ∧ p.base.toNat % 4096 = 0 ∧
    (∀ j : Fin 8, j ≠ i → windowClash p.base p.size.toNat (s.path.windows[j.val]) = false) ∧
    ∀ j : Fin 8, j ≠ i → ¬ ((s.path.windows[j.val]).role = .pattern ∧
      (s.path.windows[j.val]).pattern.val = p.pattern.toNat)) ∨
  (p.role = 2 ∧ reportSize p.size.toNat = true ∧ p.base.toNat % p.size.toNat = 0 ∧
    (∀ j : Fin 8, j ≠ i → windowClash p.base p.size.toNat (s.path.windows[j.val]) = false) ∧
    ∀ j : Fin 8, j ≠ i → (s.path.windows[j.val]).role ≠ .report)

/-- The lanes of a slot parked (R58), with their counters cleared too (R74). -/
def parkedCleared (sl : Slot) : Vector Lane 4 :=
  byLane fun l => { (sl.lane l).park with counters := .cleared }

/-- The lanes of a slot parked (R58). -/
def parkedLanes (sl : Slot) : Vector Lane 4 := byLane fun l => (sl.lane l).park

/-- R121: the confirmation counts after the lanes park. -/
def parkedConfirm (sl : Slot) : Vector Nat 4 :=
  byLane fun l => if (sl.lane l).power = .parked then sl.confirm[l.val] else 0

/-- Of the part, only the selection of the Record Writer and the condition, the count and the waiting
word of the Attention Unit differ: what the end of an event may change (R165, R174, R176). -/
def SameButSettled (s t : State) : Prop :=
  t = { s with
    writer := { s.writer with selection := t.writer.selection, lastSource := t.writer.lastSource }
    attention := { s.attention with
      condition := t.attention.condition, count := t.attention.count,
      waiting := t.attention.waiting } }

/-- Of the part, only the slots, the patterns' claims, the Sideband Controller, the Margin Scanner and the
count of free values taken differ: what a slot's transitions may change (chapters 4 to 9). -/
def SameOutsideTest (s t : State) : Prop :=
  t = { s with
    patterns := t.patterns, slots := t.slots, sideband := t.sideband, scanner := t.scanner,
    freeCount := t.freeCount }

/-! ### What the statements name of the Record Writer -/

/-- R164: the slots where the record `f` is not published: its kind is pending again at its source, an EVENT
record's flags merged back, and nothing else changes. -/
def slotsRepended (s : State) (f : InFlight) : Vector Slot 12 :=
  Vector.ofFn fun i : SlotId =>
    let sl := s.slot i
    if f.source = .slot i then
      { sl with
        flags := if f.kind = .event then sl.flags ||| f.flags else sl.flags
        progressPending := sl.progressPending || decide (f.kind = .progress)
        scanPending := sl.scanPending || decide (f.kind = .scan)
        verdictPending := sl.verdictPending || decide (f.kind = .verdict) }
    else sl

/-- R40, R164: the STATUS-pending flag where the record `f` is not published. -/
def statusRepended (s : State) (f : InFlight) : Bool :=
  s.decoder.statusPending || decide (f.source = .status ∧ f.kind = .status)

/-- R174: the age timer set at time `now` on the oldest of the records `list` whose kind is in the mask: stopped
where there is none or the delay, in ms, is 0, and expired at once where its time has come. -/
def ageFrom (mask : BitVec 6) (delay : Nat) (now : BitVec 48) (list : List Published) : AgeTimer :=
  match (list.filter fun p => kindInMask mask p.kind).head? with
  | none => .stopped
  | some p =>
    let expiry := p.time + BitVec.ofNat 48 (delay * 1000)
    if delay = 0 then .stopped else if reached now expiry then .expired else .running expiry

/-! ### What the statements name of the Sideband Controller -/

/-- R104: the speed of a try that starts on the line of slot `i`. -/
def trySpeed (s : State) (i : SlotId) : Speed :=
  if (s.slot i).state = .off then .khz100 else (s.slot i).profile.sidebandSpeed

/-- R108: the engine as it becomes free with the entries `q` in the queue: IDLE where there is none, else in
the first try of the oldest entry, which is a 1-byte read of byte 0 for a walk (R111) and its own transaction
for a host entry (R116). -/
def enginePasses (s : State) (q : List SbEntry) : Engine :=
  let idle : Engine :=
    { s.sideband.engine with phase := .idle, wait := none, abandoned := false, result := none }
  let begun (t : Txn) : Engine :=
    { idle with phase := .try, txn := t, tries := 1, speed := trySpeed s t.slot }
  match q with
  | [] => idle
  | .discovery i :: _ => { begun ⟨i, .read, 0, 1, []⟩ with walk := .fresh }
  | .host e :: _ =>
    begun ⟨e.slot, e.direction, e.offset, e.count,
      if e.direction = .read then [] else e.data.toList.take e.count⟩

/-- R109, R110: the Sideband Controller without the entries `gone`. Where the entry in service is one of
them, its try or recovery goes on, abandoned, and its wait ends at once, so that the engine passes on. -/
def sidebandWithout (s : State) (gone : SbEntry → Bool) : Sideband :=
  let g := s.sideband.engine
  let q := s.sideband.queue.filter fun e => !gone e
  let engine :=
    if g.phase ≠ .idle ∧ g.abandoned = false ∧ s.sideband.queue.head?.any gone = true then
      if g.phase = .try ∨ g.phase = .recovery then { g with abandoned := true }
      else enginePasses s q
    else g
  ⟨q, engine⟩

/-- R103, R105: a try of the transaction that ends so, after `tries` tries with it, ends the transaction with
the result: a success, the third address NAK, or a data NAK of a write. -/
def endsTxn (t : Txn) (tries : Nat) (r : TryResult) (result : TxnResult) : Prop :=
  (∃ bytes, r = .success bytes ∧
    result = .success (if t.direction = .read then bytes.toList.take t.count else [])) ∨
  (∃ byte : Fin 3, r = .addressNak byte ∧ (t.direction = .read ∨ byte.val < 2) ∧ 3 ≤ tries ∧
    result = .nakAddress) ∨
  ∃ acked : Fin 8, r = .dataNak acked ∧ t.direction = .write ∧ acked.val < t.count ∧
    result = .nakData acked.val

/-- What the part does with SBD at each sample of moves made from the wires `w` (R102). -/
def sampledDrives : Wires → List LineMove → List Drive
  | _, [] => []
  | w, m :: rest => (if m = .sample then [w.sbd] else []) ++ sampledDrives (m.apply w) rest

/-! ### What the statements name of the checker -/

/-- R62: the length k of the register of a PRBS payload and its second tap j. -/
def prbsTaps : Payload → Option (Nat × Nat)
  | .prbs7 => some (7, 6)
  | .prbs15 => some (15, 14)
  | .prbs23 => some (23, 18)
  | .prbs31 => some (31, 28)
  | .pattern _ => none

/-- R62, R63, R69, R70: bit `n` of the payload that the checker of lane `x` expects in the frame with count
`count` whose received bits are `got`: that of the pattern; or `got` itself in the first k bits while the
checker seeds, and every other bit the exclusive-or of the bits k and j before it, the register's k bits
standing before the first. -/
def expectedOf (pl : Payload) (pats : Vector Pattern 4) (x : Lane) (count : BitVec 8) (got want : Nat → Bool) :
    Prop :=
  (∀ q : Fin 4, pl = .pattern q → ∀ n < 4096,
    let o := (count.toNat * 4096 + n) % ((pats[q.val]).length * 512)
    want n = (Memory.read (pats[q.val]).mem (o / 8)).getLsbD (7 - o % 8)) ∧
  ∀ k j, prbsTaps pl = some (k, j) → ∀ n < 4096,
    let before (d : Nat) : Bool := if d ≤ n then want (n - d) else x.checkReg.getLsbD (d - n - 1)
    want n = if x.checker = .seeding ∧ n < k then got n else (before k != before j)

/-- R69: the checker's register after the frame: the last k bits expected for a PRBS payload, and unchanged for
a pattern. -/
def registerAfter (pl : Payload) (reg : BitVec 31) (want : Nat → Bool) (register : BitVec 31) : Prop :=
  (prbsTaps pl = none → register = reg) ∧
  ∀ k j, prbsTaps pl = some (k, j) → ∀ b < 31, register.getLsbD b = (decide (b < k) && want (4095 - b))

/-! ### What the statements name of the Margin Scanner -/

/-- R54: the patterns once slot `i` has released its claim. -/
def claimReleased (s : State) (i : SlotId) : Vector Pattern 4 :=
  Vector.ofFn fun q : Fin 4 =>
    let p := s.patterns[q.val]
    { p with inUse := p.inUse - if (s.slot i).profile.payload = .pattern q then 1 else 0 }

/-- R54: the patterns of `s`, each with the claims of the slots whose states in `t` hold one and in `s` did
not added to its in-use count, and those of the slots that no longer hold one taken off. -/
def claimsMoved (s t : State) : Vector Pattern 4 :=
  Vector.ofFn fun q : Fin 4 =>
    let p := s.patterns[q.val]
    { p with inUse := p.inUse + (allSlots.filter fun i => claims t q i && !claims s q i).length -
        (allSlots.filter fun i => claims s q i && !claims t q i).length }

/-- R151: the step state a lane takes from its engine. -/
def stepFrom (x : Lane) : StepState :=
  if x.rx = .locked then .dwell 0 0 false else if x.rx = .hunt then .waitLock else .broken

/-- R153: a lane broken at `p`: its counts from `p` on are 255. -/
def brokenAt (r : ScanLane) (p : Nat) (cause : DeadCause) : ScanLane :=
  { r with
    broken := some (p, cause)
    counts := Vector.ofFn fun q : Fin 32 => if p ≤ q.val then 255 else r.counts[q.val] }

/-- R149, R151: the step states of slot `i` as its sweep begins: its soaked lanes are scanned. -/
def firstSteps (sl : Slot) : Vector StepState 4 :=
  let step (l : LaneId) := if (sl.lane l).soakRole then stepFrom (sl.lane l) else .unscanned
  #v[step 0, step 1, step 2, step 3]

/-- R149, R151, R153: the scan result of a slot as its sweep begins: a lane already DEAD is broken at 0. -/
def firstResult (sl : Slot) : ScanResult :=
  let lane (l : LaneId) : ScanLane :=
    let x := sl.lane l
    let r : ScanLane := { ScanLane.empty with scanned := x.soakRole }
    if x.soakRole = true ∧ x.rx = .dead then brokenAt r 0 (x.deadCause.getD .relockTimeout) else r
  ⟨.sweeping, #v[lane 0, lane 1, lane 2, lane 3]⟩

/-- R149: the part with the Scan Queue `q`, the sweep of its head begun. -/
def sweepBegun (t : State) (q : List SlotId) : State :=
  match q with
  | [] => { t with scanner := ⟨[], none⟩ }
  | j :: _ => { t with
      slots := t.slots.set j.val { t.slot j with scan := firstResult (t.slot j) }
      scanner := ⟨q, some ⟨0, firstSteps (t.slot j)⟩⟩ }

/-- R68, R154: a lane at another sampling position, its relock timer, if it runs in HUNT, started anew. -/
def repositioned (s : State) (p : Nat) (timeout : Nat) (x : Lane) : Lane :=
  { x with
    position := p
    relock := if x.rx = .hunt ∧ x.relock ≠ none ∧ x.position ≠ p then
        some (s.us + BitVec.ofNat 48 timeout)
      else x.relock }

/-- R68, R154: a lane at the advance of the position to `p`: one whose relock timer has run out in HUNT dies of
it, and any other is at the position with its timer started anew if it runs (log 39). -/
def advanced (s : State) (p : Nat) (timeout : Nat) (x : Lane) : Lane :=
  if x.rx = .hunt ∧ x.relock.any (reached s.us) = true then
    { x with
      position := p, rx := .dead, searching := false, deadCause := some .relockTimeout, relock := none
      checker := .unseeded, rxFrame := .none }
  else repositioned s p timeout x

/-! ### What the statements name of the Insert Queue -/

/-- The state that INSERT_JOIN, taken `k` times, leads to. -/
def joined : Nat → State → State
  | 0, s => s
  | k + 1, s => match exec .insertJoin (joined k s) with
    | .next t => t
    | .fault _ | .refused _ => joined k s

/-! ### The layouts of chapter 11 -/

/-- A field of a layout: its offset, its size in bytes and the number it holds, the least significant byte
first. -/
structure Field where
  offset : Nat
  size   : Nat
  value  : Nat

/-- R179: the bytes hold every field of the layout and are 0 where no field lies. -/
def carries (b : List Byte) (layout : List Field) : Prop :=
  (∀ f ∈ layout, leNat ((b.drop f.offset).take f.size) = f.value % 256 ^ f.size) ∧
    ∀ k < b.length, (∀ f ∈ layout, k < f.offset ∨ f.offset + f.size ≤ k) → b[k]? = some 0

/-- 1 for a true proposition, 0 for a false one. -/
def flag (p : Prop) [Decidable p] : Nat := if p then 1 else 0

/-- The record header of chapter 11.2. -/
def headerLayout (s : State) (sel : Selection) : List Field :=
  let more := match sel.source with
    | .status => 0
    | .slot _ => flag (∃ k ∈ pendingKinds s sel.source, k ≠ sel.kind)
  let slot := match sel.source with
    | .status => 255
    | .slot i => i.val
  [⟨0, 1, sel.kind.byte.toNat⟩, ⟨1, 1, slot⟩, ⟨2, 1, sel.length / 32⟩, ⟨3, 1, more⟩,
   ⟨4, 2, s.writer.seq.toNat⟩, ⟨6, 6, s.us.toNat⟩]

/-- The scan result of a lane as a record reports it: a lane of a result that is not COMPLETE is reported as
not scanned (R179). -/
def reportedScan (sl : Slot) (l : LaneId) : ScanLane :=
  if sl.scan.status = .complete then sl.scan.lanes[l.val] else .empty

/-- The VERDICT summary, bytes 16..31 of chapter 11.2.1. -/
def summaryLayout (sl : Slot) : List Field :=
  let plug := sl.identity.bind PlugIdentity.plugId
  let loop := sl.identity.bind PlugIdentity.loopMap
  let of (f : PlugId → Nat) : Nat := (plug.map f).getD 0
  [⟨16, 1, verdictCode sl.outcome⟩, ⟨17, 1, sl.attempts⟩,
   ⟨18, 1, sl.profile.laneMask.toNat + 16 * sl.profileNumber.val⟩, ⟨19, 1, sl.findings.length⟩,
   ⟨20, 1, flag (plug ≠ none) + 2 * flag (loop ≠ none)⟩,
   ⟨21, 1, (sl.identity.map PlugIdentity.descriptors).getD 0⟩, ⟨22, 1, of fun p => p.flags.toNat⟩,
   ⟨23, 1, (loop.map fun m => m.flags.toNat).getD 0⟩, ⟨24, 2, of fun p => p.model.toNat⟩,
   ⟨26, 1, of fun p => p.revision.toNat⟩, ⟨27, 1, of PlugId.laneCount⟩,
   ⟨28, 4, of fun p => p.serial.toNat⟩]

/-- The lane section of lane `l` at offset `o` of a VERDICT record (chapter 11.2.1). -/
def sectionLayout (sl : Slot) (o : Nat) (l : LaneId) : List Field :=
  let w := sl.wiring[l.val]
  let f := sl.finals[l.val]
  let r := reportedScan sl l
  let c := (sl.lane l).counters
  let of (g : Capture → Nat) : Nat := (c.capture.map g).getD 0
  let m := sl.profile.berM
  let unit := 2 ^ (sl.profile.berX - 16)
  [⟨o, 1, w.cls.code + 16 * flag (w.polarity = .inverted) + 32 * flag (f.soaked = true) +
     64 * flag (c.capture ≠ none) + 128 * flag (r.scanned = true)⟩,
   ⟨o + 1, 1, match w.source with
     | none => 255
     | some src => 4 * src.slot.toNat + src.lane.toNat⟩,
   ⟨o + 2, 1, f.state.code + 16 * causeCode f.cause⟩,
   ⟨o + 3, 1, r.width + 128 * flag (r.noEye = true)⟩, ⟨o + 4, 1, r.centre⟩, ⟨o + 5, 1, c.drops⟩,
   ⟨o + 6, 1, c.headerErrors⟩, ⟨o + 7, 1, of fun g => g.frameCount.toNat⟩, ⟨o + 8, 4, c.blocks⟩,
   ⟨o + 12, 2, c.errors⟩, ⟨o + 14, 2, min (c.blocks * m / unit) 65535⟩,
   ⟨o + 16, 4, min ((3 * unit + (m - 1)) / m) 4294967295⟩, ⟨o + 20, 4, of Capture.blocks⟩,
   ⟨o + 24, 4, of fun g => g.received.toNat⟩, ⟨o + 28, 4, of fun g => g.expected.toNat⟩]

/-- The lanes of the mask of a slot's profile copy, in ascending order. -/
def maskLanes (sl : Slot) : List LaneId :=
  ([0, 1, 2, 3] : List LaneId).filter fun l => sl.profile.laneMask.getLsbD l.val

/-- The VERDICT record of chapter 11.2.1 after its header. -/
def verdictLayout (sl : Slot) : List Field :=
  let lanes := maskLanes sl
  summaryLayout sl ++ lanes.zipIdx.flatMap (fun (l, k) => sectionLayout sl (32 + 32 * k) l) ++
    sl.findings.zipIdx.flatMap fun (f, k) =>
      let o := 32 + 32 * lanes.length + 8 * k
      [⟨o, 1, f.code.byte.toNat⟩, ⟨o + 1, 1, match f.lane with
         | none => 255
         | some l => l.val⟩,
       ⟨o + 2, 1, flag (f.failing = true)⟩, ⟨o + 4, 4, f.value⟩]

/-- The SCAN record of chapter 11.2.2 after its header. -/
def scanLayout (sl : Slot) : List Field :=
  ([0, 1, 2, 3] : List LaneId).flatMap fun l =>
    let r := reportedScan sl l
    [⟨16 + 4 * l.val, 1, flag (r.scanned = true) + 2 * flag (r.noEye = true) +
       4 * flag (r.broken ≠ none) + 16 * causeCode (r.broken.map Prod.snd)⟩,
     ⟨17 + 4 * l.val, 1, r.width⟩, ⟨18 + 4 * l.val, 1, r.centre⟩,
     ⟨19 + 4 * l.val, 1, (r.broken.map Prod.fst).getD 0⟩] ++
    r.counts.toList.zipIdx.map fun (n, p) => ⟨32 + 32 * l.val + p, 1, n⟩

/-- The PROGRESS record of chapter 11.2.2 after its header: all 0 where no values are frozen. -/
def progressLayout (sl : Slot) : List Field :=
  match sl.frozen with
  | none => []
  | some f =>
    [⟨16, 1, f.checkpoints⟩, ⟨17, 1, flag (f.snapshot = true)⟩] ++
    f.lanes.toList.zipIdx.flatMap fun (x, l) =>
      [⟨32 + 8 * l, 4, x.blocks⟩, ⟨36 + 8 * l, 2, x.errors⟩, ⟨38 + 8 * l, 1, x.drops⟩,
       ⟨39 + 8 * l, 1, x.state.code⟩]

/-- The EVENT record of chapter 11.2.2 after its header. -/
def eventLayout (sl : Slot) : List Field :=
  [⟨16, 2, sl.flags.toNat⟩, ⟨18, 1, flag (sl.present = true)⟩, ⟨19, 1, sl.attempts⟩,
   ⟨20, 1, sl.state.code⟩]

/-- The STATUS record of chapter 11.2.3 after its header. -/
def statusLayout (s : State) : List Field :=
  let hosts := (s.sideband.queue.filter SbEntry.isHost).length
  let c := s.decoder.counts
  let a := s.attention
  s.path.windows.toList.zipIdx.flatMap (fun (w, k) =>
    [⟨16 + 8 * k, 4, w.base.toNat / 4096⟩, ⟨20 + 8 * k, 2, w.size / 4096⟩,
     ⟨22 + 8 * k, 1, w.role.code⟩, ⟨23 + 8 * k, 1, w.pattern.val⟩]) ++
  [⟨80, 4, ((s.writer.ring.map fun r => r.base.toNat).getD 0) / 4096⟩,
   ⟨84, 2, ((s.writer.ring.map Ring.size).getD 0) / 4096⟩, ⟨86, 1, flag (s.writer.broken = true)⟩,
   ⟨88, 4, s.writer.write⟩, ⟨92, 4, s.writer.oldest⟩, ⟨96, 4, s.writer.used⟩,
   ⟨100, 2, s.writer.list.length⟩, ⟨102, 2, s.writer.seq.toNat⟩] ++
  s.slots.toList.zipIdx.flatMap (fun (sl, k) =>
    [⟨104 + 2 * k, 1, sl.state.code⟩, ⟨105 + 2 * k, 1, sl.attempts + 16 * sl.profileNumber.val⟩]) ++
  (List.range 12).map (fun k =>
    ⟨128 + k, 1, ((s.scanner.queue[k]?).map Fin.val).getD 255⟩) ++
  [⟨140, 1, s.sideband.queue.length - hosts⟩, ⟨141, 1, hosts⟩, ⟨142, 1, s.timebase.prescale⟩,
   ⟨143, 1, s.timebase.postscale⟩, ⟨144, 2, s.timebase.period⟩] ++
  s.patterns.toList.zipIdx.flatMap (fun (p, k) =>
    [⟨148 + 8 * k, 1, p.length⟩, ⟨149 + 8 * k, 1, p.inUse⟩, ⟨152 + 8 * k, 4, p.valid.toNat⟩]) ++
  [⟨180, 4, c.commandsTaken⟩, ⟨184, 4, c.commandsRefused⟩, ⟨188, 4, c.partialWrites⟩,
   ⟨192, 4, c.commandWritesFailed⟩, ⟨196, 4, c.crossingRequests⟩, ⟨200, 4, c.trespassWrites⟩,
   ⟨204, 4, c.insertedWritesFailed⟩,
   ⟨208, 1, flag (a.lineEnable = true) + 2 * flag (a.wordEnable = true)⟩, ⟨209, 1, a.mask.toNat⟩,
   ⟨210, 1, a.threshold⟩, ⟨211, 1, a.delay⟩, ⟨212, 5, a.address.toNat⟩, ⟨220, 4, a.count.toNat⟩]

/-- The layout of the record a selection names, after its header. -/
def contentLayout (s : State) (sel : Selection) : List Field :=
  match sel.source, sel.kind with
  | .slot i, .verdict => verdictLayout (s.slot i)
  | .slot i, .scan => scanLayout (s.slot i)
  | .slot i, .progress => progressLayout (s.slot i)
  | .slot i, .event => eventLayout (s.slot i)
  | .status, .status => statusLayout s
  | _, _ => []

end Sys2Proof.Safety
end

