-- ==== Sys2Proof/Certificates/Slice0/Obligations.lean ====
section
/-! DEFINITION. The statements for the provers. Each docstring names the rules of the manual it
formalises; a clause that rests on a choice of the model names its log entry. -/

open Sys2Proof Sys2Proof.Machine Sys2Proof.Safety

/-! ### The step -/

/-- The model's form of a step (no rule of the manual): the command at the front of the queue is executed
on the state with the queue's rest. -/
def Obligations.StepRunsTheFrontCommand : Prop :=
  ∀ (c : Instr) (rest : List Instr) (s : State), s.pending = c :: rest →
    step s = exec c { s with pending := rest }

/-- No command changes the queue of the commands that wait. That queue is the model's own, no rule of the
manual (log 5); that POWER_ON_RESET keeps it is the model's choice (log 28). -/
def Obligations.CommandsLeaveTheQueue : Prop :=
  ∀ (c : Instr) (s t : State), exec c s = .next t → t.pending = s.pending

/-- R132: an increment of the µs counter that wraps no count, that wraps the prescaler alone, and that makes
an interval alone. That an empty queue lets the counter advance is the model's choice (log 2), and that
these three rows are the increment itself is too (log 4). -/
def Obligations.MicrosecondsDriveTheTimebase : Prop :=
  ∀ s : State, s.porst = false → timebaseOk s.timebase →
    (s.pending = [] → s.timebase.prescalerCount + 1 < s.timebase.prescale →
      step s = .next { s with
        us := s.us + 1
        timebase := { s.timebase with prescalerCount := s.timebase.prescalerCount + 1 } }) ∧
    (s.timebase.prescalerCount + 1 = s.timebase.prescale →
      s.timebase.periodCount + 1 < s.timebase.period →
      exec .prescalerWrap s = .next { s with
        us := s.us + 1
        timebase := { s.timebase with
          prescalerCount := 0, periodCount := s.timebase.periodCount + 1 } }) ∧
    (s.timebase.prescalerCount + 1 = s.timebase.prescale →
      s.timebase.periodCount + 1 = s.timebase.period →
      s.timebase.postscalerCount + 1 < s.timebase.postscale →
      exec .interval s = .next { s with
        us := s.us + 1
        timebase := { s.timebase with
          prescalerCount := 0, periodCount := 0,
          postscalerCount := s.timebase.postscalerCount + 1 } })

/-! ### The memory path -/

/-- R2, R5, R8: an accepted request is classified, takes the next arrival place and joins the Forwarding
Queue at its tail; a crossing request and a trespass write are counted; nothing else changes. With 32
requests queued or a reset pin asserted it is not accepted and nothing changes. -/
def Obligations.RequestAcceptJoinsTheQueue : Prop :=
  ∀ (r : Request) (s : State), r.wf = true →
    (running s → s.path.fwd.length < 32 →
      exec (.requestAccept r) s = .next { s with
        path := { s.path with
          fwd := s.path.fwd ++
            [{ req := r, arrival := s.path.nextArrival, cls := classify s.path.windows r }]
          nextArrival := s.path.nextArrival + 1 }
        decoder := { s.decoder with counts := { s.decoder.counts with
          crossingRequests :=
            if crossing r then bump s.decoder.counts.crossingRequests
            else s.decoder.counts.crossingRequests
          trespassWrites :=
            if r.kind = .write ∧ (classify s.path.windows r).role = .report then
              bump s.decoder.counts.trespassWrites
            else s.decoder.counts.trespassWrites } } }) ∧
    (¬ running s ∨ 32 ≤ s.path.fwd.length → exec (.requestAccept r) s = .next s)

/-- R5 to R8: a crossing request and one in no window take no role; any other takes the role, number and
pattern of its window. READs and REPORT requests hand nothing on that is recorded at acceptance. Of a
COMMAND write a block is covered exactly when all 64 of its bytes are enabled, its 64 bytes are those the
write carried, the covered blocks stand in ascending order, and the write partly touches a block exactly
when it enables some of its bytes but not all; of a PATTERN write the enabled bytes at window offsets below
2048 are captured, each at its offset. -/
def Obligations.RequestsAreClassified : Prop :=
  ∀ (ws : Vector Window 8) (r : Request), r.wf = true →
    let cls := classify ws r
    let nothing : Prop := cls.covered = [] ∧ cls.partly = false ∧ cls.capture = []
    let crosses : Prop := r.addr.toNat / 4096 ≠ (r.addr.toNat + 16 * r.beats - 1) / 4096
    let inside (j : Fin 8) : Prop := (ws[j.val]).role ≠ .off ∧ (ws[j.val]).base.toNat ≤ r.addr.toNat ∧
      r.addr.toNat < (ws[j.val]).base.toNat + (ws[j.val]).size
    (crosses ∨ (∀ j, ¬ inside j) → cls.role = .off ∧ nothing) ∧
    ∀ i : Fin 8, ¬ crosses → inside i → (∀ j, j ≠ i → ¬ inside j) →
      let role := (ws[i.val]).role
      let base := (ws[i.val]).base.toNat
      let on (k j : Nat) : Prop := ∃ q < 16 * r.beats,
        r.addr.toNat + q = base + 64 * k + j ∧ r.enables[q]? = some true
      cls.role = role ∧ cls.window = i ∧ cls.pattern = (ws[i.val]).pattern ∧
      (r.kind = .read ∨ role = .report → nothing) ∧
      (r.kind = .write → role = .command →
        cls.capture = [] ∧
        (∀ k < 64, (∃ b, (BitVec.ofNat 6 k, b) ∈ cls.covered) ↔ ∀ j < 64, on k j) ∧
        (∀ k < 64, ∀ b, (BitVec.ofNat 6 k, b) ∈ cls.covered →
          b.length = 64 ∧ ∀ j < 64, ∃ q, r.addr.toNat + q = base + 64 * k + j ∧ b[j]? = r.data[q]?) ∧
        (cls.covered.map fun p => p.1.toNat).Pairwise (· < ·) ∧
        (cls.partly = true ↔ ∃ k < 64, (∃ j < 64, on k j) ∧ ¬ ∀ j < 64, on k j)) ∧
      (r.kind = .write → role = .pattern →
        cls.covered = [] ∧ cls.partly = false ∧ (cls.capture.map Prod.fst).Pairwise (· < ·) ∧
        ∀ o b, (o, b) ∈ cls.capture ↔ o < 2048 ∧ ∃ q < 16 * r.beats,
          r.addr.toNat + q = base + o ∧ r.enables[q]? = some true ∧ r.data[q]? = some b)

/-- R3, R10 to R13: an eligible head of the Forwarding Queue is issued with its request unchanged and moves
to the Outstanding List, unless an inserted write is eligible and the count is 4. The oldest unissued entry
of the Insert Queue is issued where R11 does not keep it back and no forwarded request is eligible, or one
is but the count is 4; it is marked issued, stays in its place, and the count becomes 0. Nothing else
changes. A READ at the head of the Forwarding Queue waits while the Insert Queue holds an overlapping
inserted write that arrived before it, a WRITE while it holds an unissued one; and the head of the Insert
Queue waits behind an overlapping forwarded request that arrived before it and is in the Forwarding Queue,
or is a READ on the Outstanding List. -/
def Obligations.IssueFollowsTheArbiter : Prop :=
  (∀ (s : State) (h : FwdEntry) (rest : List FwdEntry), running s → s.path.fwd = h :: rest →
    fwdHeld s.path.ins h = false → s.path.out.length < 64 →
    (insEligible s = none ∨ s.path.arbCount < 4) →
    exec .forwardedIssue s = .next { s with path := { s.path with
      fwd := rest
      out := s.path.out ++
        [{ id := h.req.id, kind := h.req.kind, addr := h.req.addr, beats := h.req.beats,
           arrival := h.arrival, cls := h.cls, discarded := false }]
      arbCount := min (s.path.arbCount + 1) 4
      memOut := some (.forwarded h.req) } }) ∧
  (∀ (s : State) (e : InsEntry), running s →
    s.path.ins.find? (fun e => !e.issued) = some e → insBlocked s.path e = false →
    (fwdEligible s = none ∨ s.path.arbCount = 4) →
    exec .insertedIssue s = .next { s with path := { s.path with
      ins := s.path.ins.map fun d => if d.place = e.place then { d with issued := true } else d
      arbCount := 0
      memOut := some (.inserted e.place e.write) } }) ∧
  (∀ (s : State) (h : FwdEntry) (rest : List FwdEntry) (e : InsEntry), s.path.fwd = h :: rest →
    e ∈ s.path.ins → e.arrival < h.arrival → overlapsInsert h.req.addr h.req.beats e = true →
    (h.req.kind = .read ∨ e.issued = false) → exec .forwardedIssue s = .next s) ∧
  (∀ (s : State) (e : InsEntry), s.path.ins.find? (fun e => !e.issued) = some e →
    ((∃ f ∈ s.path.fwd, f.arrival < e.arrival ∧ overlapsInsert f.req.addr f.req.beats e = true) ∨
      ∃ o ∈ s.path.out, o.kind = .read ∧ o.arrival < e.arrival ∧
        overlapsInsert o.addr o.beats e = true) →
    exec .insertedIssue s = .next s)

/-- R3, R8, R15, R16: a response is returned unchanged to the system port for the oldest entry with its ID,
which leaves the list, and hands nothing on for a request that takes no role, a COMMAND or PATTERN read, a
REPORT write, and a REPORT read answered ERROR; for a discarded entry it is absorbed and the entry leaves;
one that matches no entry is absorbed. -/
def Obligations.ResponsesAreReturnedOnce : Prop :=
  ∀ (s : State) (id : BitVec 8) (status : RespStatus) (data : List Byte),
    let left := s.path.out.eraseP fun e => decide (e.id = id)
    (∀ e, s.path.out.find? (fun e => decide (e.id = id)) = some e → e.discarded = false →
      (e.cls.role = .off ∨ (e.kind = .read ∧ (e.cls.role = .command ∨ e.cls.role = .pattern)) ∨
        (e.cls.role = .report ∧ (e.kind = .write ∨ status = .error))) →
      exec (.forwardedResponse id status data) s = .next { s with path := { s.path with
        out := left, sysOut := some { id := id, status := status, data := data } } }) ∧
    (∀ e, s.path.out.find? (fun e => decide (e.id = id)) = some e → e.discarded = true →
      exec (.forwardedResponse id status data) s = .next { s with path := { s.path with out := left } }) ∧
    ((∀ e ∈ s.path.out, e.id ≠ id) → exec (.forwardedResponse id status data) s = .next s)

/-- R19 to R22: the OK response to a command window write is the execution, one after another in ascending
block order, of the commands that its covered blocks decode to; a partly touched block is counted once;
an ERROR response takes none of them and is counted where a block was covered. That the selection and the
condition are settled after each of the takes is the model's choice (logs 15 and 40). -/
def Obligations.CommandWritesTakeTheirBlocks : Prop :=
  ∀ (s : State) (id : BitVec 8) (data : List Byte) (e : OutEntry),
    s.path.out.find? (fun e => decide (e.id = id)) = some e → e.discarded = false →
    e.cls.role = .command → e.kind = .write →
    let partialCount :=
      if e.cls.partly then bump s.decoder.counts.partialWrites else s.decoder.counts.partialWrites
    let failedCount :=
      if e.cls.covered = [] then s.decoder.counts.commandWritesFailed
      else bump s.decoder.counts.commandWritesFailed
    let path (status : RespStatus) : Path := { s.path with
      out := s.path.out.eraseP fun e => decide (e.id = id)
      sysOut := some { id := id, status := status, data := data } }
    let okCounts : Counts := { s.decoder.counts with partialWrites := partialCount }
    let errorCounts : Counts := { okCounts with commandWritesFailed := failedCount }
    exec (.forwardedResponse id .ok data) s =
      e.cls.covered.foldl (fun r b => match r with
        | .next u => exec (decodeBlock b.1 b.2) u
        | r => r)
        (.next { s with path := path .ok, decoder := { s.decoder with counts := okCounts } }) ∧
    exec (.forwardedResponse id .error data) s = .next
      { s with path := path .error, decoder := { s.decoder with counts := errorCounts } }

/-- R47 to R50: a pattern write answered OK while the pattern is not in use stores its enabled bytes and
makes every covered block valid; answered ERROR, or while the pattern is in use, it leaves the bytes and
makes every touched block invalid. The length, the in-use count and the other patterns stay. -/
def Obligations.PatternWritesAreCaptured : Prop :=
  ∀ (s : State) (id : BitVec 8) (status : RespStatus) (data : List Byte) (e : OutEntry),
    PatternsOk s → s.path.out.find? (fun e => decide (e.id = id)) = some e → e.discarded = false →
    e.cls.role = .pattern → e.kind = .write → (e.cls.capture.map Prod.fst).Nodup →
    let n := e.cls.pattern
    let p := s.patterns[n.val]
    ∃ p' : Pattern,
      exec (.forwardedResponse id status data) s = .next { s with
        path := { s.path with
          out := s.path.out.eraseP fun e => decide (e.id = id)
          sysOut := some { id := id, status := status, data := data } }
        patterns := s.patterns.set n.val p' } ∧
      p'.length = p.length ∧ p'.inUse = p.inUse ∧
      (status = .ok ∧ p.inUse = 0 →
        (∀ b ∈ e.cls.capture, Memory.read p'.mem b.1 = b.2) ∧
        (∀ a, (∀ b ∈ e.cls.capture, b.1 ≠ a) → Memory.read p'.mem a = Memory.read p.mem a) ∧
        ∀ k < 32, p'.valid.getLsbD k = true ↔
          (p.valid.getLsbD k = true ∨ ∀ j < 64, 64 * k + j ∈ e.cls.capture.map Prod.fst)) ∧
      (status = .error ∨ 0 < p.inUse →
        (∀ a, Memory.read p'.mem a = Memory.read p.mem a) ∧
        ∀ k < 32, p'.valid.getLsbD k = true ↔
          (p.valid.getLsbD k = true ∧ ∀ b ∈ e.cls.capture, b.1 / 64 ≠ k))

/-- R166, R172, R174: a REPORT read answered OK retires, from the oldest on, the entries whose 16 header bytes
lie wholly in its range: they leave the list, U decreases by their lengths, the oldest offset is that of the
next entry, or W, and the age timer is set again on the oldest record left in the mask. The write of a
waiting selection that now fits then starts in the same event, as RECORD_WRITE_START starts it. Where the
oldest header is not covered nothing is consumed. -/
def Obligations.ReportReadsConsume : Prop :=
  ∀ (s : State) (id : BitVec 8) (data : List Byte) (e : OutEntry) (r : Ring)
    (consumed rest : List Published),
    s.path.out.find? (fun e => decide (e.id = id)) = some e → e.discarded = false →
    e.cls.role = .report → e.kind = .read → s.writer.ring = some r →
    s.writer.list = consumed ++ rest →
    let covered (p : Published) : Prop := e.addr.toNat ≤ r.base.toNat + p.offset ∧
      r.base.toNat + p.offset + 16 ≤ e.addr.toNat + 16 * e.beats
    (∀ p ∈ consumed, covered p) → (∀ p, rest.head? = some p → ¬ covered p) →
    let path := { s.path with
      out := s.path.out.eraseP fun e => decide (e.id = id)
      sysOut := some { id := id, status := .ok, data := data } }
    let used := s.writer.used - (consumed.map Published.length).sum
    let age := ageFrom s.attention.mask s.attention.delay s.us rest
    let after : State := { s with
      path := path
      writer := { s.writer with
        list := rest, used := used
        oldest := (rest.head?.map Published.offset).getD s.writer.write }
      attention := { s.attention with age := age } }
    let fits (length : Nat) : Prop :=
      if s.writer.write + length ≤ r.size then length ≤ r.size - used
      else r.size - s.writer.write + length ≤ r.size - used
    (consumed = [] → exec (.forwardedResponse id .ok data) s = .next { s with path := path }) ∧
    (consumed ≠ [] →
      (∀ sel, s.writer.selection = some sel → s.writer.inFlight = none → fits sel.length →
        exec (.forwardedResponse id .ok data) s = exec .recordWriteStart after) ∧
      ((∀ sel, s.writer.selection = some sel → s.writer.inFlight = none → ¬ fits sel.length) →
        exec (.forwardedResponse id .ok data) s = .next (settle after)) ∧
      ∃ t, exec (.forwardedResponse id .ok data) s = .next t ∧
        t.writer.list = rest ∧ t.writer.used = used ∧ t.writer.oldest = after.writer.oldest ∧
        t.writer.write = s.writer.write ∧ t.writer.seq = s.writer.seq ∧
        t.writer.ring = s.writer.ring ∧ t.writer.broken = s.writer.broken ∧
        t = { s with
          path := path, writer := t.writer, slots := t.slots
          decoder := { s.decoder with statusPending := t.decoder.statusPending }
          attention := { s.attention with
            age := age, condition := t.attention.condition, count := t.attention.count,
            waiting := t.attention.waiting } })

/-- R10, R24, R27, R167, R176, R179: the first producer in rotation that has a write in hand is served: its
write joins the Insert Queue at the lowest free place and takes the next arrival place; a word leaves the
backlog, and with a SIDEBAND completion its block leaves the outstanding set; a piece is no longer on offer;
an attention word no longer waits. The rotation is Command Decoder, Record Writer, Attention Unit, beginning
after the producer last served. The decoder has in hand the first word of the backlog, the Record Writer the
first piece of its record until it joins, and the Attention Unit its waiting word; the bytes of the two
words are those of the layouts, a completion's enables leaving out the data field where it has no data. -/
def Obligations.InsertJoinServesInRotation : Prop :=
  (∀ (s : State) (k : Fin 8) (prod : Producer) (w : InsWrite) (before after : List Producer),
    (∀ e ∈ s.path.ins, e.place ≠ k) → (∀ j : Fin 8, j < k → ∃ e ∈ s.path.ins, e.place = j) →
    rotation s.path.lastServed = before ++ prod :: after → (∀ q ∈ before, offered s q = none) →
    offered s prod = some w →
    let entry : InsEntry := ⟨prod, k, w, s.path.nextArrival, false, false⟩
    exec .insertJoin s = .next { s with
      path := { s.path with
        ins := s.path.ins ++ [entry]
        lastServed := prod
        nextArrival := s.path.nextArrival + 1 }
      decoder := match prod, s.decoder.backlog with
        | .decoder, c :: backlog => { s.decoder with
            backlog := backlog
            outstanding := if c.fromSideband then
                s.decoder.outstanding.filter fun p => decide (p.1 ≠ c.block)
              else s.decoder.outstanding }
        | _, _ => s.decoder
      writer := match prod, s.writer.inFlight with
        | .record, some f => { s.writer with inFlight := some { f with joined := some k } }
        | _, _ => s.writer
      attention := match prod with
        | .attention => { s.attention with waiting := none }
        | _ => s.attention }) ∧
  (rotation .attention = [.decoder, .record, .attention] ∧
    rotation .decoder = [.record, .attention, .decoder] ∧
    rotation .record = [.attention, .decoder, .record]) ∧
  ∀ s : State,
    let code (status : Status) : Byte := match status with
      | .done => 0x01 | .doneClamped => 0x02 | .noEffect => 0x03 | .refusedState => 0x10
      | .refusedBusy => 0x11 | .blockBusy => 0x12 | .badParam => 0x20 | .unknown => 0x21
      | .sidebandNak => 0x30 | .sidebandStuck => 0x31
    (offered s .decoder = s.decoder.backlog.head?.map fun c =>
      ⟨c.addr, (match c.data with
          | none => List.replicate 8 none
          | some d => d.toList.map some) ++
        [some (c.tag.setWidth 8), some ((c.tag >>> 8).setWidth 8), some (code c.status), some c.detail,
         some (c.extra.setWidth 8), some ((c.extra >>> 8).setWidth 8),
         some ((c.extra >>> 16).setWidth 8), some ((c.extra >>> 24).setWidth 8)]⟩) ∧
    (offered s .attention = s.attention.waiting.map fun w =>
      ⟨w.addr, [some (w.seq.setWidth 8), some ((w.seq >>> 8).setWidth 8),
        some (BitVec.ofNat 8 w.records), some (BitVec.ofNat 8 (w.records / 256)),
        some (w.reasons.setWidth 8), some 0, some 0, some 0, some (w.count.setWidth 8),
        some ((w.count >>> 8).setWidth 8), some ((w.count >>> 16).setWidth 8),
        some ((w.count >>> 24).setWidth 8), some 0, some 0, some 0, some 0]⟩) ∧
    (s.writer.inFlight = none → offered s .record = none) ∧
    ∀ f, s.writer.inFlight = some f →
      (f.joined = none → offered s .record = f.pieces.head?) ∧
      (f.joined ≠ none → offered s .record = none)

/-- R14, R28, R164, R170, R171, R176: the acknowledgement of an issued write takes it out of the Insert Queue;
that of a void one tells no producer; an ERROR for a completion or attention word is counted and not
retried; that of the abandoned piece of a ring reset frees the Record Writer, an ERROR being counted; one
that matches no issued entry is absorbed. The ERROR acknowledgement of a piece of the record in flight is
counted, sets BROKEN, and the record is not published: its kind becomes pending again, an EVENT record's
flags being merged back; W, U and the list stay. -/
def Obligations.InsertAcksFreeTheirPlaces : Prop :=
  (∀ (s : State) (place : BitVec 8) (status : RespStatus),
    let issued := s.path.ins.find? fun e => e.issued && decide (e.place.val = place.toNat)
    (issued = none → exec (.insertAck place status) s = .next s) ∧
    (∀ e, issued = some e →
      let path := { s.path with ins := s.path.ins.filter fun d => decide (d.place ≠ e.place) }
      let decoder := { s.decoder with counts := { s.decoder.counts with
        insertedWritesFailed :=
          if status = .error then bump s.decoder.counts.insertedWritesFailed
          else s.decoder.counts.insertedWritesFailed } }
      (e.void = true → exec (.insertAck place status) s = .next { s with path := path }) ∧
      (e.void = false → e.producer ≠ .record →
        exec (.insertAck place status) s = .next { s with path := path, decoder := decoder }) ∧
      (e.void = false → e.producer = .record → s.writer.inFlight = none →
        s.writer.abandoned = some e.place →
        exec (.insertAck place status) s = .next (settle { s with
          path := path, decoder := decoder, writer := { s.writer with abandoned := none } })))) ∧
  ∀ (s : State) (place : BitVec 8) (e : InsEntry) (f : InFlight),
    s.path.ins.find? (fun e => e.issued && decide (e.place.val = place.toNat)) = some e →
    e.void = false → e.producer = .record → s.writer.inFlight = some f → f.joined = some e.place →
    let counts : Counts := { s.decoder.counts with
      insertedWritesFailed := bump s.decoder.counts.insertedWritesFailed }
    ∃ t, exec (.insertAck place .error) s = .next t ∧
      t = { s with
        path := { s.path with ins := s.path.ins.filter fun d => decide (d.place ≠ e.place) }
        decoder := { s.decoder with counts := counts, statusPending := statusRepended s f }
        slots := slotsRepended s f
        writer := { s.writer with broken := true, inFlight := none, selection := none }
        attention := { s.attention with
          condition := t.attention.condition, count := t.attention.count,
          waiting := t.attention.waiting } }

/-- R90, R165, R166, R167, R169, R174: the OK acknowledgement of a piece that is not the last puts the next
one on offer; that of the last publishes the record: it is appended to the Unconsumed List with the present
time, U and W move by its length, the next sequence is incremented, a VERDICT record's slot enters DONE, and
the age timer is loaded on the record where no record in the mask was held. The condition is evaluated (log
15), and the writer selects again in the same event. A PAD to the ring's end is published so too: W returns
to 0, and the write of the selection behind it starts in the same event, as RECORD_WRITE_START starts it. -/
def Obligations.LastPiecePublishes : Prop :=
  ∀ (s : State) (place : BitVec 8) (e : InsEntry) (f : InFlight) (r : Ring), RingOk s →
    s.path.ins.find? (fun e => e.issued && decide (e.place.val = place.toNat)) = some e →
    e.void = false → e.producer = .record → s.writer.inFlight = some f → f.joined = some e.place →
    s.writer.ring = some r →
    let path := { s.path with ins := s.path.ins.filter fun d => decide (d.place ≠ e.place) }
    let entry : Published := { offset := f.offset, length := f.length, kind := f.kind, time := s.us }
    let published : State := { s with
      path := path
      slots := Vector.ofFn fun i =>
        if f.source = .slot i ∧ f.kind = .verdict then
          { s.slot i with state := .done, stateTimer := none }
        else s.slot i
      writer := { s.writer with
        list := s.writer.list ++ [entry], used := s.writer.used + f.length
        write := (s.writer.write + f.length) % r.size, seq := s.writer.seq + 1, inFlight := none }
      attention := { s.attention with
        age := if ∃ p ∈ s.writer.list, kindInMask s.attention.mask p.kind = true then s.attention.age
          else ageFrom s.attention.mask s.attention.delay s.us [entry] } }
    (∀ done next more, f.pieces = done :: next :: more →
      exec (.insertAck place .ok) s = .next { s with
        path := path
        writer := { s.writer with
          inFlight := some { f with pieces := next :: more, joined := none } } }) ∧
    (∀ last, f.pieces = [last] → f.kind ≠ .pad →
      exec (.insertAck place .ok) s = .next (settle (evaluate published))) ∧
    ∀ last sel, f.pieces = [last] → f.kind = .pad → f.offset + f.length = r.size →
      s.writer.selection = some sel → sel.length ≤ r.size - (s.writer.used + f.length) →
      sel.length ≤ r.size → published.writer.write = 0 ∧
        exec (.insertAck place .ok) s = exec .recordWriteStart (evaluate published)

/-- R16, R42, R108, R110, R164, R171, R173: what PRST_N's assertion empties, voids, disables and keeps, and
its release. Of the slots and the STATUS-pending flag only the kind of a record in flight becomes pending
again at its own source. While PORST_N is asserted only the pin is recorded (log 28). A host entry in
service leaves its try or recovery to run on, abandoned; its wait ends at once and the oldest discovery
entry is served in the same event. -/
def Obligations.PortResetKeepsTheTests : Prop :=
  (∀ s : State, s.porst = false → WindowsOk s → ∃ t, exec .portReset s = .next t ∧ t.prst = true ∧
    t.path = { s.path with
      fwd := []
      out := s.path.out.map fun e => { e with discarded := true }
      ins := (s.path.ins.filter fun e => e.issued).map fun e => { e with void := true }
      arbCount := 0
      lastServed := .attention
      windows := #v[s.path.windows[0], .none, .none, .none, .none, .none, .none, .none] } ∧
    t.decoder.backlog = [] ∧ t.decoder.outstanding = [] ∧ t.decoder.counts = s.decoder.counts ∧
    t.writer = .powerOn ∧
    t.attention = { Attention.powerOn with count := s.attention.count } ∧
    t.sideband = sidebandWithout s SbEntry.isHost ∧
    (s.writer.inFlight = none → t.slots = s.slots ∧
      t.decoder.statusPending = s.decoder.statusPending) ∧
    (∀ f, s.writer.inFlight = some f → t.slots = slotsRepended s f ∧
      t.decoder.statusPending = statusRepended s f) ∧
    t = { s with
      prst := true, path := t.path, decoder := t.decoder, slots := t.slots, sideband := t.sideband,
      writer := t.writer, attention := t.attention }) ∧
  (∀ s : State, s.porst = true → exec .portReset s = .next { s with prst := true }) ∧
  (∀ s : State, exec .portResetRelease s = .next { s with prst := false })

/-- R17, R42, R46, R56, R79, R101, R108, R118, R131, R162, R173: PORST_N's assertion gives every state of
the part its power-on value but for the entries that await memory's responses and window 0, and its
release samples WBASE and starts the µs counter and the timebase. That the pins and the queue of commands
are not reset is the model's choice (log 28). -/
def Obligations.PowerOnResetInitialises : Prop :=
  (∀ s : State, exec .powerOnReset s = .next { State.reset with
    prst := s.prst, porst := true, presN := s.presN, energy := s.energy
    path := { s.path with
      fwd := []
      out := s.path.out.map fun e => { e with discarded := true }
      ins := (s.path.ins.filter fun e => e.issued).map fun e => { e with void := true }
      arbCount := 0
      lastServed := .attention
      windows := #v[s.path.windows[0], .none, .none, .none, .none, .none, .none, .none] }
    freeCount := s.freeCount
    pending := s.pending }) ∧
  (∀ (s : State) (wbase : BitVec 16), s.porst = true →
    let window : Window := ⟨BitVec.ofNat 40 (wbase.toNat * 65536), 4096, .command, 0⟩
    exec (.powerOnResetRelease wbase) s = .next { s with
      porst := false, us := 0, timebase := ⟨1, 1000, 10, 0, 0, 0⟩
      path := { s.path with windows := s.path.windows.set 0 window } })

/-! ### The end of an event -/

/-- R164 to R166, R173 to R176: what the end of an event, `settle` in the statements below, does. A held
selection whose kind is still pending stays; else one is made where the writer is free, of the first source
after the last served that has a kind pending, and of the first of its kinds, in the orders of R165. That a
fresh selection is only held then, its write starting by RECORD_WRITE_START though it fits, is the model's
choice (log 14), and so is that the condition is evaluated once, at the end of the event (log 15). The
condition is the disjunction of THRESHOLD, AGE and STALL; its change to true is counted and, with word
enable, forms the waiting word, whose reason flags are the parts that hold. ATTN_N follows the condition and
line enable. The age timer's expiry makes AGE true. The kinds stand in the mask in the order of chapter
11.1, PAD never. `evaluate` is the evaluation of the condition alone. -/
def Obligations.EventsEndInSelectionAndAttention : Prop :=
  let slots (a b : Nat) : List RecSource :=
    ((List.finRange 12).filter fun i => decide (a ≤ i.val ∧ i.val < b)).map RecSource.slot
  let evaluated (s t : State) : Prop :=
    let a := s.attention
    let b := t.attention
    let w := t.writer
    let records := s.writer.list.filter fun p => kindInMask a.mask p.kind
    let threshold : Prop := a.threshold ≤ records.length
    let age : Prop := a.delay ≠ 0 ∧ a.age = .expired
    let stall : Prop := a.mask.getLsbD 5 = true ∧ (w.broken = true ∨
      ∃ sel, w.selection = some sel ∧ w.inFlight = none ∧ w.fits sel.length = false)
    (b.condition = true ↔ threshold ∨ age ∨ stall) ∧
    (b.condition = true ∧ a.condition = false → b.count = a.count + 1 ∧
      (a.wordEnable = false → b.waiting = a.waiting) ∧
      (a.wordEnable = true → ∃ word, b.waiting = some word ∧ word.addr = a.address ∧
        word.seq = s.writer.seq - 1 ∧ word.records = s.writer.list.length ∧
        word.count = a.count + 1 ∧ (word.reasons.getLsbD 0 = true ↔ threshold) ∧
        (word.reasons.getLsbD 1 = true ↔ age) ∧ (word.reasons.getLsbD 2 = true ↔ stall))) ∧
    (b.condition = false ∨ a.condition = true → b.count = a.count ∧ b.waiting = a.waiting) ∧
    (attnAsserted t = true ↔ b.condition = true ∧ a.lineEnable = true ∧ s.porst = false)
  (∀ s : State, evaluated s (settle s) ∧ SameButSettled s (settle s) ∧
    (∀ sel, s.writer.selection = some sel → sel.kind ∈ pendingKinds s sel.source →
      (settle s).writer = s.writer) ∧
    ((∀ sel, s.writer.selection = some sel → sel.kind ∉ pendingKinds s sel.source) →
      (s.writer.inFlight = none ∧ s.writer.abandoned = none ∧ s.writer.ring ≠ none ∧
        s.writer.broken = false →
        (∀ before src after kind kinds, sourcesAfter s.writer.lastSource = before ++ src :: after →
          (∀ q ∈ before, pendingKinds s q = []) → pendingKinds s src = kind :: kinds →
          (settle s).writer = { s.writer with
            selection := some ⟨src, kind, recordLength s src kind⟩, lastSource := src }) ∧
        ((∀ q, pendingKinds s q = []) →
          (settle s).writer = { s.writer with selection := none })) ∧
      (s.writer.inFlight ≠ none ∨ s.writer.abandoned ≠ none ∨ s.writer.ring = none ∨
        s.writer.broken = true → (settle s).writer = { s.writer with selection := none }))) ∧
  (∀ s : State, evaluated s (evaluate s) ∧ SameButSettled s (evaluate s) ∧
    (evaluate s).writer = s.writer) ∧
  (∀ (s : State) (e : BitVec 48), s.attention.age = .running e → reached s.us e = true →
    let t := evaluate { s with attention := { s.attention with age := .expired } }
    exec .ageTimerExpiry s = .next t ∧ (s.attention.delay ≠ 0 → t.attention.condition = true)) ∧
  sourcesAfter .status = slots 0 12 ++ [.status] ∧
  (∀ i : SlotId,
    sourcesAfter (.slot i) = slots (i.val + 1) 12 ++ .status :: slots 0 (i.val + 1)) ∧
  (∀ s : State, pendingKinds s .status = (if s.decoder.statusPending then [.status] else []) ∧
    ∀ i : SlotId,
      let sl := s.slot i
      pendingKinds s (.slot i) =
        (if sl.flags ≠ 0 then [RecordKind.event] else []) ++ (if sl.progressPending then [.progress] else []) ++
        (if sl.scanPending then [.scan] else []) ++ (if sl.verdictPending then [.verdict] else [])) ∧
  ∀ mask : BitVec 6,
    ([.verdict, .scan, .progress, .event, .status, .pad] : List RecordKind).map (kindInMask mask) =
      [mask.getLsbD 0, mask.getLsbD 1, mask.getLsbD 2, mask.getLsbD 3, mask.getLsbD 4, false]

/-! ### The command blocks -/

/-- R22, R23, R24, R25, R26, R30, R41: NONE does nothing; a code that names no command is refused with UNKNOWN
and the code; any command in a block with a SIDEBAND outstanding is refused with BLOCK_BUSY and that
command's tag; a command whose zero byte is not 0 is refused with BAD_PARAM reason 1. Each refusal is
counted and answered, and changes nothing else. R26: a completion word takes the last position of the backlog
where its block has none waiting, is folded into a SIDEBAND completion that waits, and replaces any other
word in its position. -/
def Obligations.BlocksAreRefused : Prop :=
  (∀ (n : BlockId) (s : State), exec (.noneBlock n) s = .next s) ∧
  (∀ (n : BlockId) (code : Byte) (h : BlockHead) (s : State), knownCodes.contains code = false →
    running s → outstandingTag s.decoder n = none →
    exec (.unknownCode n code h) s =
      .next (settle { s with decoder := answered s n h.tag ⟨.unknown, 0, code.setWidth 32⟩ })) ∧
  (∀ (c : Instr) (n : BlockId) (h : BlockHead) (s : State), c.wf = true → c.block? = some n →
    blockHead? c = some h → running s →
    (∀ tag, outstandingTag s.decoder n = some tag →
      exec c s =
        .next (settle { s with decoder := answered s n h.tag ⟨.blockBusy, 0, tag.setWidth 32⟩ })) ∧
    (outstandingTag s.decoder n = none → h.zero ≠ 0 → (∀ m code g, c ≠ .unknownCode m code g) →
      exec c s = .next (settle { s with decoder := answered s n h.tag ⟨.badParam, 1, 0⟩ }))) ∧
  ∀ (backlog : List Completion) (c : Completion),
    ((∀ d ∈ backlog, d.block ≠ c.block) → placeCompletion backlog c = backlog ++ [c]) ∧
    ∀ (before after : List Completion) (d : Completion), backlog = before ++ d :: after →
      d.block = c.block → (∀ x ∈ before ++ after, x.block ≠ c.block) →
      placeCompletion backlog c = if d.fromSideband then backlog else before ++ c :: after

/-- R9, R31, R171: a SET_WINDOW is refused, with nothing but its answer changed, for the first of the checks
of R9 that it fails, in the order of that rule's table (log 12): window number 2, role 4, PATTERN size 6,
pattern number 2, REPORT size 6, base 6, overlap 7 with the lowest window overlapped, second use 8. A legal
one gives the window its new role, base, size and pattern; where the old or the new role is REPORT it is
also a ring reset, whose ring is the new REPORT window if there is one, and which makes the kind of an
abandoned record pending again. That the last source served becomes the status source is read from R162's
reset values (log 36). -/
def Obligations.SetWindowReplacesTheWindow : Prop :=
  (∀ (n : BlockId) (h : BlockHead) (p : WindowParams) (s : State), ready s n h →
    let ws := s.path.windows
    let size := p.size.toNat
    let refused (reason extra : Nat) : Prop := exec (.setWindow n h p) s =
      .next (settle { s with
        decoder := answered s n h.tag ⟨.badParam, reason, BitVec.ofNat 32 extra⟩ })
    let ring : Prop := ∃ k ≤ 8, size = 4096 * 2 ^ k
    let shaped : Prop := p.role = 1 ∧ size = 4096 ∧ p.pattern.toNat ≤ 3 ∨ p.role = 2 ∧ ring
    let clash (j : Fin 8) : Prop := (ws[j.val]).role ≠ .off ∧
      p.base.toNat < (ws[j.val]).base.toNat + (ws[j.val]).size ∧ (ws[j.val]).base.toNat < p.base.toNat + size
    (h.selector.toNat = 0 ∨ 8 ≤ h.selector.toNat → refused 2 0) ∧
    ∀ i : Fin 8, i ≠ 0 → h.selector.toNat = i.val →
      (3 ≤ p.role.toNat → refused 4 0) ∧
      (p.role = 1 → size ≠ 4096 → refused 6 0) ∧
      (p.role = 1 → size = 4096 → 3 < p.pattern.toNat → refused 2 0) ∧
      (p.role = 2 → ¬ ring → refused 6 0) ∧
      (shaped → p.base.toNat % size ≠ 0 → refused 6 0) ∧
      (shaped → p.base.toNat % size = 0 → ∀ j, j ≠ i → clash j → (∀ k, k < j → k ≠ i → ¬ clash k) →
        refused 7 j.val) ∧
      (shaped → p.base.toNat % size = 0 → (∀ j, j ≠ i → ¬ clash j) →
        (∃ j, j ≠ i ∧ (p.role = 2 ∧ (ws[j.val]).role = .report ∨ p.role = 1 ∧
          (ws[j.val]).role = .pattern ∧ (ws[j.val]).pattern.val = p.pattern.toNat)) → refused 8 0)) ∧
  ∀ (n : BlockId) (h : BlockHead) (p : WindowParams) (s : State) (i : Fin 8), WindowsOk s →
    ready s n h → h.selector.toNat = i.val → i ≠ 0 → windowLegal s i p →
    let new : Window :=
      if p.role = 1 then ⟨p.base, p.size.toNat, .pattern, Fin.ofNat 4 p.pattern.toNat⟩
      else if p.role = 2 then ⟨p.base, p.size.toNat, .report, 0⟩
      else ⟨0, 0, .off, 0⟩
    let path := { s.path with windows := s.path.windows.set i.val new }
    ((s.path.windows[i.val]).role ≠ .report → new.role ≠ .report →
      exec (.setWindow n h p) s = .next (settle { s with
        path := path, decoder := answered s n h.tag ⟨.done, 0, 0⟩ })) ∧
    ((s.path.windows[i.val]).role = .report ∨ new.role = .report →
      let s' : State := match s.writer.inFlight with
        | none => s
        | some f => { s with
            slots := slotsRepended s f
            decoder := { s.decoder with statusPending := statusRepended s f } }
      let ring : Option Ring := if new.role = .report then some ⟨p.base, p.size.toNat⟩ else none
      let left := match s.writer.inFlight with
        | none => s.writer.abandoned
        | some f => f.joined
      exec (.setWindow n h p) s = .next (settle { s' with
        path := path
        decoder := answered s' n h.tag ⟨.done, 0, 0⟩
        writer := { Writer.powerOn with ring := ring, abandoned := left }
        attention := { s.attention with age := .stopped } }))

/-- R31, R44: SET_PROFILE with a bad selector, lane mask or enumerated field is refused with reasons 2, 5
and 4; accepted, it replaces every field of the named profile by its parameter, each number brought to the
nearest limit, and answers how many were. No refusal, by the checks before these included, changes a
profile. -/
def Obligations.SetProfileReplacesEveryField : Prop :=
  (∀ (n : BlockId) (h : BlockHead) (p : ProfileParams) (s t : State), ¬ ready s n h →
    exec (.setProfile n h p) s = .next t → t.profiles = s.profiles) ∧
  ∀ (n : BlockId) (h : BlockHead) (p : ProfileParams) (s : State), ready s n h →
    let refused (reason : Nat) : State :=
      settle { s with decoder := answered s n h.tag ⟨.badParam, reason, 0⟩ }
    let badEnum : Prop :=
      2 < p.rate.toNat ∨ 7 < p.payload.toNat ∨ 2 < p.presenceSource.toNat ∨ 1 < p.plugPolicy.toNat ∨
      1 < p.sidebandSpeed.toNat ∨ 1 < p.allowInversion.toNat ∨ 1 < p.allowReorder.toNat ∨
      1 < p.stopOnFail.toNat ∨ 2 < p.marginMode.toNat ∨ 1 < p.progressReports.toNat ∨
      3 < p.presenceEdges.toNat
    let limits : List (Nat × Nat × Nat) :=
      [(p.debounce.toNat, 1, 255), (p.settle.toNat, 1, 255), (p.trainTimeout.toNat, 1, 255),
       (p.relockTimeout.toNat, 1, 65535), (p.soakLength.toNat, 1, 255), (p.berM.toNat, 1, 255),
       (p.berX.toNat, 16, 47), (p.dwell.toNat, 1, 64), (p.tolerance.toNat, 0, 15),
       (p.minEyeWidth.toNat, 1, 32)]
    let clamped := (limits.filter fun x => decide (x.1 < x.2.1 ∨ x.2.2 < x.1)).length
    let answer : Answer :=
      if clamped = 0 then ⟨.done, 0, 0⟩ else ⟨.doneClamped, 0, BitVec.ofNat 32 clamped⟩
    let new : Profile :=
      { laneMask := p.laneMask.setWidth 4, rate := .ofByte p.rate, payload := .ofByte p.payload
        presenceSource := .ofByte p.presenceSource
        debounce := max 1 (min p.debounce.toNat 255), settle := max 1 (min p.settle.toNat 255)
        plugPolicy := if p.plugPolicy = 0 then .requireDescriptor else .acceptAnonymous
        sidebandSpeed := if p.sidebandSpeed = 0 then .khz100 else .khz400
        trainTimeout := max 1 (min p.trainTimeout.toNat 255)
        relockTimeout := max 1 (min p.relockTimeout.toNat 65535)
        allowInversion := decide (p.allowInversion = 1), allowReorder := decide (p.allowReorder = 1)
        stopOnFail := decide (p.stopOnFail = 1)
        soakLength := max 1 (min p.soakLength.toNat 255), berM := max 1 (min p.berM.toNat 255)
        berX := max 16 (min p.berX.toNat 47), errorCeiling := p.errorCeiling.toNat
        maxLockDrops := p.maxLockDrops.toNat, marginMode := .ofByte p.marginMode
        dwell := max 1 (min p.dwell.toNat 64), tolerance := min p.tolerance.toNat 15
        minEyeWidth := max 1 (min p.minEyeWidth.toNat 32)
        progressReports := decide (p.progressReports = 1)
        presenceEdges := .ofByte p.presenceEdges }
    (4 ≤ h.selector.toNat → exec (.setProfile n h p) s = .next (refused 2)) ∧
    ∀ k : Fin 4, h.selector.toNat = k.val →
      (p.laneMask = 0 ∨ 15 < p.laneMask.toNat → exec (.setProfile n h p) s = .next (refused 5)) ∧
      (p.laneMask ≠ 0 → p.laneMask.toNat ≤ 15 →
        (badEnum → exec (.setProfile n h p) s = .next (refused 4)) ∧
        (¬ badEnum → exec (.setProfile n h p) s = .next (settle { s with
          profiles := s.profiles.set k.val new, decoder := answered s n h.tag answer })))

/-- R32, R53: DEFINE_PATTERN sets the named pattern's length to its length parameter brought into 1..32 and
leaves its bytes, validity map and in-use count; a selector above 3 is refused with reason 2, and while
the pattern is in use the command is refused with REFUSED_STATE and the in-use count. -/
def Obligations.DefinePatternSetsTheLength : Prop :=
  ∀ (n : BlockId) (h : BlockHead) (length : Byte) (s : State), ready s n h →
    let done (a : Answer) : State := { s with decoder := answered s n h.tag a }
    (4 ≤ h.selector.toNat →
      exec (.definePattern n h length) s = .next (settle (done ⟨.badParam, 2, 0⟩))) ∧
    ∀ k : Fin 4, h.selector.toNat = k.val →
      let p := s.patterns[k.val]
      (0 < p.inUse → exec (.definePattern n h length) s =
        .next (settle (done ⟨.refusedState, 255, BitVec.ofNat 32 p.inUse⟩))) ∧
      (p.inUse = 0 → exec (.definePattern n h length) s = .next (settle
        { done (if 1 ≤ length.toNat ∧ length.toNat ≤ 32 then ⟨.done, 0, 0⟩ else ⟨.doneClamped, 0, 1⟩) with
          patterns := s.patterns.set k.val { p with length := max 1 (min length.toNat 32) } }))

/-- R133: an accepted SET_TIMEBASE sets the prescale, and the period and postscale brought to their limits,
and sets the three counts to 0, all in the take, so that the next checkpoint falls one full spacing
later. -/
def Obligations.SetTimebaseRestartsTheCounts : Prop :=
  ∀ (n : BlockId) (h : BlockHead) (p : TimebaseParams) (s : State), ready s n h →
    p.prescale.toNat ∈ [1, 4, 16, 64] → (∀ i, (s.slot i).state ≠ .soak) →
    let badPeriod := if p.period = 0 then 1 else 0
    let badPostscale := if p.postscale = 0 ∨ 16 < p.postscale.toNat then 1 else 0
    let answer : Answer :=
      if badPeriod + badPostscale = 0 then ⟨.done, 0, 0⟩
      else ⟨.doneClamped, 0, BitVec.ofNat 32 (badPeriod + badPostscale)⟩
    let new : Timebase :=
      ⟨p.prescale.toNat, max 1 p.period.toNat, max 1 (min p.postscale.toNat 16), 0, 0, 0⟩
    exec (.setTimebase n h p) s =
      .next (settle { s with timebase := new, decoder := answered s n h.tag answer })

/-- R34, R173, R176: SET_ATTENTION with an enable above 1, a kind mask above 63 or an address that is no
multiple of 16 is refused with reasons 4, 4 and 9; accepted, it replaces the six settings, drops a waiting
word if word enable becomes no, sets the age timer again on the oldest record now in the mask, and the
condition is evaluated. -/
def Obligations.SetAttentionReplacesTheSettings : Prop :=
  ∀ (n : BlockId) (h : BlockHead) (p : AttentionParams) (s : State), ready s n h →
    let refused (reason : Nat) : State :=
      settle { s with decoder := answered s n h.tag ⟨.badParam, reason, 0⟩ }
    let legal := p.lineEnable.toNat ≤ 1 ∧ p.wordEnable.toNat ≤ 1 ∧ p.kindMask.toNat ≤ 63
    let mask : BitVec 6 := p.kindMask.setWidth 6
    let clamped := decide (p.threshold = 0 ∨ 16 < p.threshold.toNat)
    let age := ageFrom mask p.delay.toNat s.us s.writer.list
    (¬ legal → exec (.setAttention n h p) s = .next (refused 4)) ∧
    (legal → p.address.toNat % 16 ≠ 0 → exec (.setAttention n h p) s = .next (refused 9)) ∧
    (legal → p.address.toNat % 16 = 0 →
      exec (.setAttention n h p) s = .next (settle { s with
        attention := { s.attention with
          lineEnable := decide (p.lineEnable = 1), wordEnable := decide (p.wordEnable = 1)
          address := p.address, mask := mask, threshold := max 1 (min p.threshold.toNat 16)
          delay := p.delay.toNat, age := age
          waiting := if p.wordEnable = 1 then s.attention.waiting else none }
        decoder := answered s n h.tag (if clamped then ⟨.doneClamped, 0, 1⟩ else ⟨.done, 0, 0⟩) }))

/-- R35, R52, R54, R88, R91, R92: an accepted START gives every named slot the named profile and WATCH, a
fresh attempt count, outcome, findings list, event flags, identity, Wiring Map, lane counters and scan
result, parked lanes and presence tracking begun anew; a pattern it names has every block of its length
valid, and each slot takes a claim on the pattern the profile names. Other slots do not change. -/
def Obligations.StartBeginsTheTests : Prop :=
  ∀ (n : BlockId) (h : BlockHead) (s : State) (k : Fin 4), SlotsOk s → ready s n h →
    h.selector.toNat = k.val → maskLegal h →
    let profile := s.profiles[k.val]
    (∀ q : Fin 4, profile.payload = .pattern q →
      ∀ b < (s.patterns[q.val]).length, (s.patterns[q.val]).valid.getLsbD b = true) →
    (∀ i : SlotId, h.slotMask.getLsbD i.val = true →
      (s.slot i).state = .off ∨ (s.slot i).state = .done) →
    let started (i : SlotId) : Slot := { s.slot i with
      state := .watch, profile := profile, profileNumber := k, attempts := 0, tracking := true
      present := false, stateTimer := none, abortedMark := false, outcome := none, findings := []
      debounceTimer := restartedTimer s profile (rawInput s i profile.presenceSource)
      identity := none, flags := 0, lanes := parkedCleared (s.slot i)
      confirm := parkedConfirm (s.slot i), wiring := Vector.replicate 4 .cleared, scan := .empty }
    let claimed (q : Fin 4) : Pattern := { s.patterns[q.val] with
      inUse := (s.patterns[q.val]).inUse +
        if profile.payload = .pattern q then (slotsOf h.slotMask).length else 0 }
    exec (.start n h) s = .next (settle { s with
      slots := Vector.ofFn fun i => if h.slotMask.getLsbD i.val then started i else s.slot i
      patterns := Vector.ofFn claimed
      decoder := answered s n h.tag ⟨.done, 0, h.slotMask.setWidth 32⟩ })

/-- R25, R33, R35 to R37, R52: a START, ABORT, RETEST, CLEAR or SNAPSHOT whose slot mask is 0 or names a
slot above 11 is refused with reason 3, a START whose selector names no profile with reason 2 before that, a
START of an unusable pattern, one with a block of its length not valid, with reason 11, and a SET_TIMEBASE
of an undefined prescale with reason 4. A START, RETEST or CLEAR that names a slot in a state the command
does not accept, and a SET_TIMEBASE while a slot is in SOAK, is refused with REFUSED_STATE, the lowest such
slot and the mask of all of them. A refusal changes nothing else. -/
def Obligations.StatesRefuseCommands : Prop :=
  (∀ (c : Instr) (n : BlockId) (h : BlockHead) (s : State) (bad : SlotId → Prop) (low : SlotId)
    (m : BitVec 32), ready s n h →
    ((c = .start n h ∧ maskLegal h ∧ h.selector.toNat < 4 ∧
        (∀ k q : Fin 4, h.selector.toNat = k.val → (s.profiles[k.val]).payload = .pattern q →
          ∀ b < (s.patterns[q.val]).length, (s.patterns[q.val]).valid.getLsbD b = true) ∧
        ∀ i, bad i ↔ h.slotMask.getLsbD i.val = true ∧
          (s.slot i).state ≠ .off ∧ (s.slot i).state ≠ .done) ∨
      (c = .clear n h ∧ maskLegal h ∧ ∀ i, bad i ↔ h.slotMask.getLsbD i.val = true ∧
          (s.slot i).state ≠ .off ∧ (s.slot i).state ≠ .done) ∨
      (c = .retest n h ∧ maskLegal h ∧ ∀ i, bad i ↔ h.slotMask.getLsbD i.val = true ∧
          ((s.slot i).state = .off ∨ (s.slot i).state = .verdict)) ∨
      ∃ p : TimebaseParams, c = .setTimebase n h p ∧ p.prescale.toNat ∈ [1, 4, 16, 64] ∧
        ∀ i, bad i ↔ (s.slot i).state = .soak) →
    bad low → (∀ i, i < low → ¬ bad i) →
    (∀ j < 32, m.getLsbD j = true ↔ ∃ i : SlotId, i.val = j ∧ bad i) →
    exec c s =
      .next (settle { s with decoder := answered s n h.tag ⟨.refusedState, low.val, m⟩ })) ∧
  ∀ (n : BlockId) (h : BlockHead) (s : State), ready s n h →
    let refused (c : Instr) (reason extra : Nat) : Prop := exec c s =
      .next (settle { s with
        decoder := answered s n h.tag ⟨.badParam, reason, BitVec.ofNat 32 extra⟩ })
    (4 ≤ h.selector.toNat → refused (.start n h) 2 0) ∧
    (h.slotMask = 0 ∨ 4096 ≤ h.slotMask.toNat →
      (h.selector.toNat < 4 → refused (.start n h) 3 0) ∧ refused (.abort n h) 3 0 ∧
      refused (.retest n h) 3 0 ∧ refused (.clear n h) 3 0 ∧ refused (.snapshot n h) 3 0) ∧
    (∀ k q : Fin 4, maskLegal h → h.selector.toNat = k.val →
      (s.profiles[k.val]).payload = .pattern q →
      (∃ b < (s.patterns[q.val]).length, (s.patterns[q.val]).valid.getLsbD b = false) →
      refused (.start n h) 11 q.val) ∧
    ∀ p : TimebaseParams, p.prescale.toNat ∉ [1, 4, 16, 64] → refused (.setTimebase n h p) 4 0

/-- R36, R54, R89, R93, R109, R158: an ABORT takes every named slot in WATCH or a test in progress to
VERDICT with outcome ABORTED, its lanes parked, its record pending, its discovery entry withdrawn and its
scan result emptied; other slots do not change but for those whose sweep may begin. It answers the mask of
the slots it acted on, or NO_EFFECT. The value of the finding is not stated (log 8): any value is allowed
here. That several named slots are acted on as one event, with no sweep completing between two withdrawals,
is read from R158 (log 35). Of the patterns only the in-use counts move, by the claims of the slots that
enter VERDICT. The engine is left free: RemovalsAreCounted says what a withdrawal does to it. -/
def Obligations.AbortEndsTheTests : Prop :=
  ∀ (n : BlockId) (h : BlockHead) (s : State) (m : BitVec 32), SlotsOk s → SweepOk s → ready s n h →
    maskLegal h →
    let hit (i : SlotId) : Prop := h.slotMask.getLsbD i.val = true ∧
      (s.slot i).state ≠ .off ∧ (s.slot i).state ≠ .verdict ∧ (s.slot i).state ≠ .done
    (∀ j < 32, m.getLsbD j = true ↔ ∃ i : SlotId, i.val = j ∧ hit i) →
    ((∀ i, ¬ hit i) → exec (.abort n h) s =
      .next (settle { s with decoder := answered s n h.tag ⟨.noEffect, 0, 0⟩ })) ∧
    ((∃ i, hit i) → ∃ u, exec (.abort n h) s = .next u ∧
      (∀ i, hit i → ∃ value, u.slot i = { s.slot i with
        state := .verdict, stateTimer := none, abortedMark := true, outcome := some .aborted
        findings := addFinding (s.slot i).findings ⟨.aborted, none, true, value⟩
        finals := (s.slot i).finalLanes, lanes := parkedLanes (s.slot i)
        confirm := parkedConfirm (s.slot i), verdictPending := true
        scan := if (s.slot i).state = .scan then .empty else (s.slot i).scan }) ∧
      (∀ i, ¬ hit i → (s.slot i).state ≠ .scan → u.slot i = s.slot i) ∧
      (∀ i, hit i → i ∉ u.scanner.queue) ∧
      (∀ e, e ∈ u.sideband.queue ↔ e ∈ s.sideband.queue ∧ ∀ i, hit i → e ≠ .discovery i) ∧
      u.decoder = answered s n h.tag ⟨.done, 0, m⟩ ∧
      u = { s with
        patterns := claimsMoved s u, slots := u.slots, sideband := u.sideband, scanner := u.scanner
        freeCount := u.freeCount, decoder := u.decoder
        writer := { s.writer with selection := u.writer.selection, lastSource := u.writer.lastSource }
        attention := { s.attention with
          condition := u.attention.condition, count := u.attention.count,
          waiting := u.attention.waiting } })

/-- R37, R54, R88, R92, R94 to R96, R109, R158: an accepted RETEST sets the attempt count of a named slot in
WATCH to 0 and does nothing else to it; it takes every other named slot to WATCH under its own profile copy
with a fresh run, keeping the copy, the event flags, the identity and the Wiring Map. Other slots do not
change but for those whose sweep may begin. That several named slots are withdrawn with no sweep completing
between them is read from R158 (log 35). Of the patterns only the in-use counts move, by the claims that
slots out of DONE take and that a sweep completed meanwhile releases. The engine is left free:
RemovalsAreCounted says what a withdrawal does to it. -/
def Obligations.RetestRepeatsTheTests : Prop :=
  ∀ (n : BlockId) (h : BlockHead) (s : State), SlotsOk s → SweepOk s → ready s n h → maskLegal h →
    (∀ i : SlotId, h.slotMask.getLsbD i.val = true →
      (s.slot i).state ≠ .off ∧ (s.slot i).state ≠ .verdict) →
    ∃ u, exec (.retest n h) s = .next u ∧
      (∀ i : SlotId, h.slotMask.getLsbD i.val = true →
        ((s.slot i).state = .watch → u.slot i = { s.slot i with attempts := 0 }) ∧
        ((s.slot i).state ≠ .watch → u.slot i = { s.slot i with
          state := .watch, attempts := 0, tracking := true, present := false, stateTimer := none
          debounceTimer := restartedTimer s (s.slot i).profile
            (rawInput s i (s.slot i).profile.presenceSource)
          abortedMark := false, outcome := none, findings := []
          lanes := parkedCleared (s.slot i), confirm := parkedConfirm (s.slot i), scan := .empty })) ∧
      (∀ i : SlotId, h.slotMask.getLsbD i.val = false → (s.slot i).state ≠ .scan →
        u.slot i = s.slot i) ∧
      ((∀ i, (s.slot i).state ≠ .scan) → ∀ q : Fin 4, u.patterns[q.val] = { s.patterns[q.val] with
        inUse := (s.patterns[q.val]).inUse + ((slotsOf h.slotMask).filter fun i =>
          decide ((s.slot i).state = .done ∧ (s.slot i).profile.payload = .pattern q)).length }) ∧
      (∀ e, e ∈ u.sideband.queue ↔
        e ∈ s.sideband.queue ∧ ∀ i : SlotId, h.slotMask.getLsbD i.val = true → e ≠ .discovery i) ∧
      u.decoder = answered s n h.tag ⟨.done, 0, h.slotMask.setWidth 32⟩ ∧
      u = { s with
        patterns := claimsMoved s u, slots := u.slots, sideband := u.sideband, scanner := u.scanner
        decoder := u.decoder
        writer := { s.writer with selection := u.writer.selection, lastSource := u.writer.lastSource }
        attention := { s.attention with
          condition := u.attention.condition, count := u.attention.count,
          waiting := u.attention.waiting } }

/-- R97: an accepted CLEAR takes every named slot in OFF or DONE to OFF: its attempt count, aborted mark,
outcome, findings list, identity, Wiring Map and presence tracking are as power-on reset leaves them, and
its lanes parked and its state timer stopped. The profile copy, counters, event flags and every in-use
count are kept, and other slots do not change. -/
def Obligations.ClearReturnsTheSlotsToOff : Prop :=
  ∀ (n : BlockId) (h : BlockHead) (s : State), ready s n h → maskLegal h →
    (∀ i : SlotId, h.slotMask.getLsbD i.val = true →
      (s.slot i).state = .off ∨ (s.slot i).state = .done) →
    let cleared (i : SlotId) : Slot := { s.slot i with
      state := .off, attempts := 0, tracking := false, present := false, debounceTimer := none
      stateTimer := none, abortedMark := false, outcome := none, findings := [], identity := none
      wiring := Vector.replicate 4 ⟨none, .normal, .none⟩, lanes := parkedLanes (s.slot i)
      confirm := parkedConfirm (s.slot i) }
    exec (.clear n h) s = .next (settle { s with
      slots := Vector.ofFn fun i => if h.slotMask.getLsbD i.val then cleared i else s.slot i
      decoder := answered s n h.tag ⟨.done, 0, h.slotMask.setWidth 32⟩ })

/-- R36, R40, R137, R138: SNAPSHOT freezes the progress values of every named slot in SOAK or SCAN with the
snapshot flag set, makes its PROGRESS record pending and changes nothing else of it; it answers the mask of
those slots, or NO_EFFECT. STATUS sets the STATUS-pending flag and answers detail 1 where it was set. -/
def Obligations.SnapshotAndStatusAskForRecords : Prop :=
  (∀ (n : BlockId) (h : BlockHead) (s : State) (m : BitVec 32), ready s n h → maskLegal h →
    let hit (i : SlotId) : Bool := h.slotMask.getLsbD i.val &&
      decide ((s.slot i).state = .soak ∨ (s.slot i).state = .scan)
    (∀ j < 32, m.getLsbD j = true ↔ ∃ i : SlotId, i.val = j ∧ hit i = true) →
    let figures (i : SlotId) (l : LaneId) : FrozenLane :=
      let x := (s.slot i).lane l
      ⟨x.counters.blocks, x.counters.errors, x.counters.drops, x.reported⟩
    ((∀ i, hit i = false) → exec (.snapshot n h) s =
      .next (settle { s with decoder := answered s n h.tag ⟨.noEffect, 0, 0⟩ })) ∧
    ((∃ i, hit i = true) → exec (.snapshot n h) s = .next (settle { s with
      slots := Vector.ofFn fun i =>
        if hit i then { s.slot i with
          progressPending := true
          frozen := some ⟨(s.slot i).checkpoints, true,
            #v[figures i 0, figures i 1, figures i 2, figures i 3]⟩ }
        else s.slot i
      decoder := answered s n h.tag ⟨.done, 0, m⟩ }))) ∧
  ∀ (n : BlockId) (h : BlockHead) (s : State), ready s n h →
    exec (.status n h) s = .next (settle { s with decoder :=
      { answered s n h.tag ⟨.done, if s.decoder.statusPending then 1 else 0, 0⟩ with
        statusPending := true } })

/-- R38, R103, R104, R107, R108: SIDEBAND with a bad selector, direction or length is refused with reasons 2,
4 and 10, of a slot under test with REFUSED_STATE, and with four outstanding with REFUSED_BUSY; accepted, it
is not yet answered: its block joins the outstanding set and a host entry the Sideband Queue, which begins
its first try at once where the engine is IDLE and no entry waits. -/
def Obligations.SidebandQueuesAHostEntry : Prop :=
  ∀ (n : BlockId) (h : BlockHead) (p : SidebandParams) (s : State), ready s n h →
    let refused (a : Answer) : Host.Outcome State Fault Refusal :=
      .next (settle { s with decoder := answered s n h.tag a })
    let badCount := p.count = 0 ∨ 8 < p.count.toNat ∨ 256 < p.offset.toNat + p.count.toNat
    (12 ≤ h.selector.toNat → exec (.sideband n h p) s = refused ⟨.badParam, 2, 0⟩) ∧
    ∀ i : SlotId, h.selector.toNat = i.val →
      (1 < p.direction.toNat → exec (.sideband n h p) s = refused ⟨.badParam, 4, 0⟩) ∧
      (p.direction.toNat ≤ 1 → badCount → exec (.sideband n h p) s = refused ⟨.badParam, 10, 0⟩) ∧
      (p.direction.toNat ≤ 1 → ¬ badCount →
        let free := (s.slot i).state = .off ∨ (s.slot i).state = .watch ∨ (s.slot i).state = .done
        let direction : Direction := if p.direction = 0 then .read else .write
        let e : HostEntry := ⟨n, i, direction, p.offset.toNat, p.count.toNat, p.data,
          min p.postWait.toNat 16777215, decide (16777215 < p.postWait.toNat)⟩
        let txn : Txn := ⟨i, direction, p.offset.toNat, p.count.toNat,
          if p.direction = 0 then [] else p.data.toList.take p.count.toNat⟩
        let speed := if (s.slot i).state = .off then .khz100 else (s.slot i).profile.sidebandSpeed
        let begun : Engine := { s.sideband.engine with
          phase := .try, txn := txn, tries := 1, speed := speed, wait := none, abandoned := false
          result := none }
        let accepted (sideband : Sideband) : Host.Outcome State Fault Refusal := .next (settle { s with
          sideband := sideband
          decoder := { s.decoder with
            outstanding := s.decoder.outstanding ++ [(n, h.tag)]
            counts := { s.decoder.counts with commandsTaken := bump s.decoder.counts.commandsTaken } } })
        (¬ free → exec (.sideband n h p) s = refused ⟨.refusedState, i.val, 1#32 <<< i.val⟩) ∧
        (free → 4 ≤ s.decoder.outstanding.length →
          exec (.sideband n h p) s = refused ⟨.refusedBusy, 0, 4⟩) ∧
        (free → s.decoder.outstanding.length < 4 →
          (s.sideband.engine.phase ≠ .idle → exec (.sideband n h p) s =
            accepted ⟨s.sideband.queue ++ [.host e], s.sideband.engine⟩) ∧
          (s.sideband.engine.phase = .idle → s.sideband.queue = [] →
            exec (.sideband n h p) s = accepted ⟨[.host e], begun⟩)))

/-! ### Frames and lanes -/

/-- R60, R61: the transmitter of a lane that is not PARKED begins its next frame: the count one higher, the
header that of its source, kind and count, the kind that of its slot's state; nothing else changes. A
PARKED lane sends nothing. -/
def Obligations.FrameStartSendsTheNextFrame : Prop :=
  ∀ (i : SlotId) (l : LaneId) (s : State),
    let sl := s.slot i
    let x := sl.lane l
    (x.power = .parked → exec (.frameStart i l) s = .next s) ∧
    ∀ kind : FrameKind, x.power ≠ .parked →
      (sl.state, kind) ∈ [(SlotState.settle, FrameKind.idle), (.discover, .idle), (.train, .train),
        (.soak, .soak), (.scan, .scan)] →
      let gen := txAdvance sl.profile.payload x.txGen
      let frame : TestFrame :=
        ⟨headerBits ⟨BitVec.ofNat 4 i.val, BitVec.ofNat 2 l.val⟩ kind (x.txCount + 1),
         txPayload sl.profile.payload s.patterns gen (x.txCount + 1)⟩
      let next : Lane := { x with txCount := x.txCount + 1, txGen := gen, sending := some frame }
      exec (.frameStart i l) s = .next
        { s with slots := s.slots.set i.val { sl with lanes := sl.lanes.set l.val next } }

/-- R62, R63: over two successive frames each PRBS payload bit is the exclusive-or of the bits k and j before
it, the register's k bits standing before the first, and the generator goes on from frame to frame; bit `n`
of the pattern payload of frame count `c` is bit 7 − (o mod 8) of byte floor(o / 8), o = (4096 c + n) mod
512 L. -/
def Obligations.PayloadsFollowTheirGenerators : Prop :=
  (∀ (pl : Payload) (k j : Nat) (pats : Vector Pattern 4) (gen : BitVec 31) (c d : BitVec 8),
    (pl, k, j) ∈ [(Payload.prbs7, 7, 6), (.prbs15, 15, 14), (.prbs23, 23, 18), (.prbs31, 31, 28)] →
    let first := txPayload pl pats gen c
    let second := txPayload pl pats (txAdvance pl gen) d
    let sequence (t : Nat) : Bool :=
      if t < k then gen.getLsbD (k - 1 - t)
      else if t < k + 4096 then first.getMsbD (t - k)
      else second.getMsbD (t - k - 4096)
    ∀ t, k ≤ t → t < k + 8192 → sequence t = (sequence (t - k) != sequence (t - j))) ∧
  ∀ (q : Fin 4) (pats : Vector Pattern 4) (gen : BitVec 31) (c : BitVec 8) (n : Nat), n < 4096 →
    let o := (c.toNat * 4096 + n) % ((pats[q.val]).length * 512)
    (txPayload (.pattern q) pats gen c).getMsbD n =
      (Memory.read (pats[q.val]).mem (o / 8)).getLsbD (7 - o % 8)

/-- R60: the header of every source, kind and count is a good header that carries them, every good header is
one of these, and no header with one bit changed is good. -/
def Obligations.HeadersRoundTrip : Prop :=
  (∀ (src : Source) (kind : FrameKind) (count : BitVec 8),
    goodHeader (headerBits src kind count) = some ⟨src, kind, count⟩ ∧
    ∀ k < 48, goodHeader (headerBits src kind count ^^^ (1#48 <<< k)) = none) ∧
  ∀ (bits : BitVec 48) (h : Header), goodHeader bits = some h →
    bits = headerBits h.source h.kind h.count

/-- R65, R66, R121, R150: a searching receiver with no candidate takes one at a good header in a form it
accepts and stays as it is at any other place; a candidate ends at a bad header, counts a good one from its
source, begins again at one from another source, and with the fourth the lane is LOCKED, searching left as
it is (log 11); with the soak role and another source than the soak source it is DEAD in the same event, the
register of its checker, made unseeded, staying (log 27). A lock taken in TRAIN makes the lane's
confirmation count 0. The clauses about lock are of slots that are not being swept (LaneEventsMoveTheSweep
is of those) and whose training it does not end. -/
def Obligations.HuntingLanesTakeLock : Prop :=
  ∀ (i : SlotId) (l : LaneId) (bits : BitVec 48) (s : State),
    let sl := s.slot i
    let x := sl.lane l
    x.power = .active → x.rx = .hunt → x.searching = true →
    let after (flags : EventFlags) (confirm : Vector Nat 4) (y : Lane) : Host.Outcome State Fault Refusal :=
      let sl' : Slot :=
        { sl with lanes := sl.lanes.set l.val y, flags := sl.flags ||| flags, confirm := confirm }
      .next (settle { s with slots := s.slots.set i.val sl' })
    let accepts (p : Polarity) : Prop := x.soakRole = true → x.fixedPol = some p
    let locked (p : Polarity) (h : Header) : Lane := { x with
      rx := .locked, polarity := p, source := some h.source, lastKind := some h.kind
      lastCount := some h.count, badRun := 0, foreign := none, candidate := none, relock := none
      checker := if sl.profile.payload.isPrbs then .seeding else .seeded, rxFrame := .atLock }
    let dropped : Vector Nat 4 := if sl.state = .train then sl.confirm.set l.val 0 else sl.confirm
    let training : Prop := sl.state = .train ∧ ∀ m : LaneId, sl.profile.laneMask.getLsbD m.val = true →
      m.val < sl.plugLanes → dropped[m.val] = 4
    (x.candidate = none →
      (∀ p h, accepts p → goodHeader (applyPolarity p bits) = some h →
        exec (.headerInHunt i l bits) s =
          after 0 sl.confirm { x with candidate := some ⟨h.source, p, 1⟩ }) ∧
      ((∀ p, accepts p → goodHeader (applyPolarity p bits) = none) →
        exec (.headerInHunt i l bits) s = after 0 sl.confirm x)) ∧
    (∀ c, x.candidate = some c →
      (goodHeader (applyPolarity c.polarity bits) = none →
        exec (.headerInHunt i l bits) s = after 0 sl.confirm { x with candidate := none }) ∧
      (∀ h, goodHeader (applyPolarity c.polarity bits) = some h →
        (h.source ≠ c.source → exec (.headerInHunt i l bits) s =
          after 0 sl.confirm { x with candidate := some ⟨h.source, c.polarity, 1⟩ }) ∧
        (h.source = c.source → c.count < 3 → exec (.headerInHunt i l bits) s =
          after 0 sl.confirm { x with candidate := some ⟨c.source, c.polarity, c.count + 1⟩ }) ∧
        (h.source = c.source → 3 ≤ c.count → s.scanner.queue.head? ≠ some i → ¬ training →
          (x.soakRole = false ∨ x.soakSource = some h.source →
            exec (.headerInHunt i l bits) s = after 0 dropped (locked c.polarity h)) ∧
          (x.soakRole = true → x.soakSource ≠ some h.source →
            exec (.headerInHunt i l bits) s =
              after (if sl.state = .soak ∨ sl.state = .scan then EventFlags.sourceChange l else 0) dropped
                { locked c.polarity h with
                  rx := .dead, searching := false, deadCause := some .sourceChange
                  checker := .unseeded, rxFrame := .none }))))

/-- R67, R68, R76, R98, R121, R150: a LOCKED receiver: a good header from its source ends the runs; a bad
one is counted with the soak role in SOAK after a header of kind SOAK, and the third in a row loses lock,
with a drop counted, its flag set and the relock timer started with the soak role; the fourth good header in
a row from one other source is a source change, which makes a lane with the soak role DEAD, its foreign run
then none (log 37), and gives any other its new source. The register of a checker made unseeded stays (log
27). The relock timer's expiry makes a lane in HUNT DEAD. In TRAIN each of these but a good header from its
source makes the lane's confirmation count 0 (HeadersConfirmTraining is of that one). Written for slots that
are not being swept (LaneEventsMoveTheSweep is of those) and whose training the event does not end. -/
def Obligations.LockedLanesLoseLockAndDie : Prop :=
  ∀ (i : SlotId) (l : LaneId) (s : State),
    let sl := s.slot i
    let x := sl.lane l
    let soaking := x.soakRole = true ∧ sl.state = .soak
    let dropped : Vector Nat 4 := if sl.state = .train then sl.confirm.set l.val 0 else sl.confirm
    let training : Prop := sl.state = .train ∧ ∀ m : LaneId, sl.profile.laneMask.getLsbD m.val = true →
      m.val < sl.plugLanes → dropped[m.val] = 4
    s.scanner.queue.head? ≠ some i → ¬ training →
    let after (flags : EventFlags) (y : Lane) : Host.Outcome State Fault Refusal :=
      let sl' : Slot :=
        { sl with lanes := sl.lanes.set l.val y, flags := sl.flags ||| flags, confirm := dropped }
      .next (settle { s with slots := s.slots.set i.val sl' })
    let changed : EventFlags :=
      if sl.state = .soak ∨ sl.state = .scan then EventFlags.sourceChange l else 0
    let dead (cause : DeadCause) (y : Lane) : Lane := { y with
      rx := .dead, searching := false, deadCause := some cause, relock := none, checker := .unseeded
      rxFrame := .none }
    (x.power = .active → x.rx = .locked → ∀ bits : BitVec 48,
      (∀ h, goodHeader (applyPolarity x.polarity bits) = some h →
        let seen : Lane := { x with
          badRun := 0, foreign := none, lastKind := some h.kind, lastCount := some h.count
          rxFrame := .inLock }
        let run := match x.foreign with
          | some (r, n) => if r = h.source then n + 1 else 1
          | none => 1
        (sl.state ≠ .train → x.source = some h.source →
          exec (.headerInLock i l bits) s = after 0 seen) ∧
        (x.source ≠ some h.source → run < 4 →
          exec (.headerInLock i l bits) s = after 0 { seen with foreign := some (h.source, run) }) ∧
        (x.source ≠ some h.source → 4 ≤ run → x.soakRole = true →
          exec (.headerInLock i l bits) s = after changed (dead .sourceChange seen)) ∧
        (x.source ≠ some h.source → 4 ≤ run → x.soakRole = false →
          exec (.headerInLock i l bits) s = after 0 { seen with
            source := some h.source
            checker := if sl.profile.payload.isPrbs then .seeding else .seeded })) ∧
      (goodHeader (applyPolarity x.polarity bits) = none →
        let counted : LaneCounters :=
          if soaking ∧ x.lastKind = some .soak then
            { x.counters with headerErrors := min (x.counters.headerErrors + 1) 255 }
          else x.counters
        let droppedOne : LaneCounters :=
          if soaking then { counted with drops := min (counted.drops + 1) 255 } else counted
        (x.badRun < 2 → exec (.headerInLock i l bits) s = after 0 { x with
          badRun := x.badRun + 1, foreign := none, counters := counted, rxFrame := .inLock }) ∧
        (2 ≤ x.badRun → exec (.headerInLock i l bits) s =
          after (if soaking then EventFlags.laneDrop l else 0) { x with
            rx := .hunt, searching := true, badRun := 0, foreign := none, counters := droppedOne
            relock := if x.soakRole then some (s.us + BitVec.ofNat 48 sl.profile.relockTimeout)
              else x.relock
            checker := .unseeded, rxFrame := .none }))) ∧
    (∀ e, x.rx = .hunt → x.relock = some e → reached s.us e = true →
      exec (.relockTimeout i l) s = after 0 (dead .relockTimeout x))

/-- R121, R122: in TRAIN a good header of a LOCKED lane from its source, of kind TRAIN, SOAK or SCAN, adds 1
to the lane's confirmation count up to 4, one of kind IDLE leaves it and a bad one makes it 0; with every
counted lane at 4 training ends in the same event. What its end does is stated of TRAIN_TIMEOUT. That the
slot is not the one being swept follows from SlotsOk. -/
def Obligations.HeadersConfirmTraining : Prop :=
  ∀ (i : SlotId) (l : LaneId) (bits : BitVec 48) (s : State),
    let sl := s.slot i
    let x := sl.lane l
    sl.state = .train → s.scanner.queue.head? ≠ some i → x.power = .active → x.rx = .locked →
    let trained (n : Nat) (y : Lane) : State :=
      let sl' : Slot := { sl with lanes := sl.lanes.set l.val y, confirm := sl.confirm.set l.val n }
      { s with slots := s.slots.set i.val sl' }
    let wait (n : Nat) : Prop := ∃ m : LaneId, sl.profile.laneMask.getLsbD m.val = true ∧
      m.val < sl.plugLanes ∧ (if m = l then n else sl.confirm[m.val]) ≠ 4
    (∀ h, goodHeader (applyPolarity x.polarity bits) = some h → x.source = some h.source →
      let n := if h.kind = .idle then sl.confirm[l.val] else min (sl.confirm[l.val] + 1) 4
      let y : Lane := { x with
        badRun := 0, foreign := none, lastKind := some h.kind, lastCount := some h.count
        rxFrame := .inLock }
      (wait n → exec (.headerInLock i l bits) s = .next (settle (trained n y))) ∧
      (¬ wait n → exec (.headerInLock i l bits) s = .next (settle (endTraining i (trained n y))))) ∧
    (goodHeader (applyPolarity x.polarity bits) = none → x.badRun < 2 → wait 0 →
      exec (.headerInLock i l bits) s = .next (settle (trained 0 { x with
        badRun := x.badRun + 1, foreign := none, rxFrame := .inLock })))

/-- R54, R122 to R127, R134, R160, R161: the train timeout ends training: each lane's Wiring Map entry takes
the observed source and polarity of a LOCKED lane and the first class of R123's table that applies; the
findings of R124's and R125's tables are added, lane by lane in ascending order; with a failing finding and
stop on fail, or with no lane classed MATCH, SWAPPED or INVERTED, the slot enters VERDICT and releases its
claim, else SOAK with the lanes so classed as its soaked lanes. Every finding is added by R160's four steps,
the outcome is the first of R161's four rows that applies, and the final lane state of each lane is its
state just before parking, with the dead cause of a DEAD lane and its soak role. -/
def Obligations.TrainingEndsInAWiringMap : Prop :=
  (∀ (fs more : List Finding) (f : Finding),
    let full : Prop := ∃ t, fs.getLast? = some t ∧ t.code = .truncated
    let known : Prop := ∃ g ∈ fs, g.code = f.code ∧ g.lane = f.lane
    (full ∨ known → addFinding fs f = fs) ∧
    (¬ full → ¬ known → 15 ≤ fs.length →
      addFinding fs f = fs ++ [⟨.truncated, none, false, f.code.byte.toNat⟩]) ∧
    (¬ full → ¬ known → fs.length < 15 → addFinding fs f = fs ++ [f]) ∧
    addFindings fs [] = fs ∧ addFindings fs (f :: more) = addFindings (addFinding fs f) more) ∧
  (∀ fs : List Finding,
    composeOutcome true fs = .aborted ∧
    ((∃ f ∈ fs, f.failing = true) → composeOutcome false fs = .fail) ∧
    (fs ≠ [] → (∀ f ∈ fs, f.failing = false) → composeOutcome false fs = .passWithNotes) ∧
    composeOutcome false [] = .pass) ∧
  (∀ (sl : Slot) (l : LaneId),
    let x := sl.lane l
    let state : LaneState := match x.power, x.rx with
      | .parked, _ => .parked
      | .waking, _ => .waking
      | .active, .hunt => .hunt
      | .active, .locked => .locked
      | .active, .dead => .dead
    x.reported = state ∧
      sl.finalLanes[l.val] = ⟨state, if state = .dead then x.deadCause else none, x.soakRole⟩) ∧
  ∀ (i : SlotId) (s : State) (e : BitVec 48), SlotsOk s → (s.slot i).state = .train →
    (s.slot i).stateTimer = some e → reached s.us e = true →
    let sl := s.slot i
    let counted (l : LaneId) : Prop :=
      sl.profile.laneMask.getLsbD l.val = true ∧ l.val < sl.plugLanes
    let locked (l : LaneId) : Prop := (sl.lane l).power = .active ∧ (sl.lane l).rx = .locked
    let shared (l : LaneId) : Prop :=
      ∃ m, m ≠ l ∧ counted m ∧ locked m ∧ (sl.lane m).source = (sl.lane l).source
    let own (l : LaneId) : Prop := ∃ src, (sl.lane l).source = some src ∧ src.slot.toNat = i.val
    ∃ u, exec (.trainTimeout i) s = .next u ∧
      let v := u.slot i
      (∀ l : LaneId,
        let w := v.wiring[l.val]
        let x := sl.expected[l.val]
        w.source = (if locked l then (sl.lane l).source else none) ∧
        w.polarity = (if locked l then (sl.lane l).polarity else .normal) ∧
        (¬ counted l → w.cls = .excluded) ∧ (counted l → ¬ locked l → w.cls = .open) ∧
        (counted l → locked l →
          (shared l → w.cls = .shared) ∧ (¬ shared l → ¬ own l → w.cls = .crossed) ∧
          (¬ shared l → own l →
            (w.source ≠ x.source → w.cls = .swapped) ∧
            (w.source = x.source → w.polarity ≠ x.polarity → w.cls = .inverted) ∧
            (w.source = x.source → w.polarity = x.polarity → w.cls = .isMatch)))) ∧
      let finding (l : LaneId) : List Finding :=
        let w := v.wiring[l.val]
        let value := match w.source with
          | none => 0
          | some src => 4 * src.slot.toNat + src.lane.toNat
        match w.cls with
        | .excluded => if sl.profile.laneMask.getLsbD l.val then [⟨.plugNarrow, some l, false, sl.plugLanes⟩]
          else []
        | .open => [⟨.laneOpen, some l, true, 0⟩]
        | .shared => [⟨.laneShared, some l, true, value⟩]
        | .crossed => [⟨.laneCrossed, some l, true, value⟩]
        | .swapped => [⟨.laneSwapped, some l, !sl.profile.allowReorder, value⟩]
        | .inverted => [⟨.laneInverted, some l, !sl.profile.allowInversion,
            if w.polarity = .inverted then 1 else 0⟩]
        | .isMatch | .none => []
      let unusable := ∀ l : LaneId, (v.wiring[l.val]).cls ∉ [WireClass.isMatch, .swapped, .inverted]
      let found : List Finding := finding 0 ++ finding 1 ++ finding 2 ++ finding 3 ++
        (if unusable then [⟨.noUsableLane, none, true, 0⟩] else [])
      v.findings = addFindings sl.findings found ∧
      (sl.profile.stopOnFail = true ∧ (∃ f ∈ found, f.failing = true) ∨ unusable →
        v = { sl with
          wiring := v.wiring, findings := v.findings, state := .verdict, stateTimer := none
          finals := sl.finalLanes, lanes := parkedLanes sl, confirm := parkedConfirm sl
          outcome := some (composeOutcome sl.abortedMark v.findings), verdictPending := true }) ∧
      (¬ (sl.profile.stopOnFail = true ∧ ∃ f ∈ found, f.failing = true) → ¬ unusable →
        v = { sl with
          wiring := v.wiring, findings := v.findings, state := .soak, stateTimer := none
          checkpoints := 0, joined := false, lanes := v.lanes } ∧
        ∀ l : LaneId,
          let x := sl.lane l
          v.lane l = if (v.wiring[l.val]).cls ∈ [WireClass.isMatch, .swapped, .inverted] then
              { x with counters := ⟨0, 0, 0, 0, 0, none⟩, soakRole := true, soakSource := x.source,
                       fixedPol := some x.polarity }
            else { x with counters := ⟨0, 0, 0, 0, 0, none⟩ }) ∧
      (∀ j, j ≠ i → u.slot j = s.slot j) ∧
      u = { s with
        patterns := if v.state = .verdict then claimReleased s i else s.patterns, slots := u.slots
        writer := { s.writer with selection := u.writer.selection, lastSource := u.writer.lastSource }
        attention := { s.attention with
          condition := u.attention.condition, count := u.attention.count,
          waiting := u.attention.waiting } }

/-- R62, R69 to R73, R75, R77: a payload received whole in LOCKED is compared with what the sender must have
sent: for a pattern payload with the stored pattern at the frame's count (log 18), for a PRBS payload with
the sequence that the checker's register continues, the first k bits taken as correct and followed by theirs
while it seeds. With 1024 differing bits or more a PRBS checker seeds at the next frame, else it is seeded,
its register holding the last bits of that sequence. A frame of a soaked lane in SOAK, received whole after a
header of kind SOAK found in LOCKED (log 10), is counted: every sixteenth is a block, each differing bit an
error up to 65,535, and the first mismatch of a lane is captured with its frame's count and its 32-bit
words. A frame that is not counted changes no counter. Written for slots that are not being swept
(LaneEventsMoveTheSweep is of those). -/
def Obligations.FramesAreChecked : Prop :=
  ∀ (i : SlotId) (l : LaneId) (payload : BitVec 4096) (s : State) (want : Nat → Bool),
    let sl := s.slot i
    let x := sl.lane l
    let c := x.counters
    s.scanner.queue.head? ≠ some i → x.power = .active → x.rx = .locked → x.rxFrame ≠ .none →
    let count : BitVec 8 := x.lastCount.getD 0 + BitVec.ofNat 8 x.badRun
    let got (n : Nat) : Bool := payload.getMsbD n != decide (x.polarity = .inverted)
    expectedOf sl.profile.payload s.patterns x count got want →
    let errors := ((List.range 4096).filter fun n => got n != want n).length
    let counted : Prop := sl.state = .soak ∧ x.soakRole = true ∧ x.rxFrame = .inLock ∧
      x.lastKind = some .soak
    let reported : Prop := sl.state = .scan ∧ x.soakRole = true ∧ x.rxFrame = .inLock ∧
      x.lastKind = some .scan
    ∃ (capture : Option Capture) (register : BitVec 31),
      let counters : LaneCounters := { c with
        blocks := if c.sub + 1 < 16 then c.blocks else min (c.blocks + 1) 4294967295
        sub := if c.sub + 1 < 16 then c.sub + 1 else 0
        errors := min (c.errors + errors) 65535
        capture := capture }
      let y : Lane := { x with
        checker := if sl.profile.payload.isPrbs = true ∧ 1024 ≤ errors then .seeding else .seeded
        checkReg := register, rxFrame := .none, counters := if counted then counters else c }
      let t : State := { s with slots := s.slots.set i.val { sl with lanes := sl.lanes.set l.val y } }
      exec (.frameReceived i l payload) s = .next (if reported then settle t else t) ∧
      registerAfter sl.profile.payload x.checkReg want register ∧
      (errors = 0 ∨ c.capture ≠ none → capture = c.capture) ∧
      (c.capture = none → ∀ n < 4096, got n ≠ want n → (∀ k < n, got k = want k) →
        ∃ cap, capture = some cap ∧ cap.blocks = c.blocks ∧ cap.frameCount = count ∧
          ∀ b < 32, cap.received.getMsbD b = got (n / 32 * 32 + b) ∧
            cap.expected.getMsbD b = want (n / 32 * 32 + b))

/-- R62, R69, R72, R73, R75: a PRBS checker seeds itself from the stream: after one frame of a generator's
payload, from any register, a SEEDING checker stands where the generator stands, with no mismatch, and a
checker that stands where the generator stands follows it through the next frame with no mismatch. Such a
frame is counted in SOAK unless its header completed the lock (log 10). Written for slots that are not being
swept. -/
def Obligations.PrbsCheckersSeedThemselves : Prop :=
  ∀ (i : SlotId) (l : LaneId) (gen : BitVec 31) (count : BitVec 8) (s : State),
    let sl := s.slot i
    let x := sl.lane l
    let c := x.counters
    s.scanner.queue.head? ≠ some i → sl.profile.payload.isPrbs = true → x.power = .active →
    x.rx = .locked → x.rxFrame ≠ .none → x.checker = .seeding ∨ x.checkReg = gen →
    let frame := txPayload sl.profile.payload s.patterns gen count
    let counted := sl.state = .soak ∧ x.soakRole = true ∧ x.rxFrame = .inLock ∧ x.lastKind = some .soak
    let reported := sl.state = .scan ∧ x.soakRole = true ∧ x.rxFrame = .inLock ∧ x.lastKind = some .scan
    let clean : LaneCounters := { c with
      blocks := if c.sub + 1 < 16 then c.blocks else min (c.blocks + 1) 4294967295
      sub := if c.sub + 1 < 16 then c.sub + 1 else 0
      errors := min c.errors 65535 }
    let y : Lane := { x with
      checkReg := txAdvance sl.profile.payload gen, checker := .seeded, rxFrame := .none
      counters := if counted then clean else c }
    let t : State := { s with slots := s.slots.set i.val { sl with lanes := sl.lanes.set l.val y } }
    exec (.frameReceived i l (applyPolarity x.polarity frame)) s = .next (if reported then settle t else t)

/-! ### Presence and the slots -/

/-- R57, R59, R80 to R83, R86: a change of PRES_N or of a lane's energy detector is recorded; while presence
is tracked and PORST_N is not asserted, a change of the raw input to another value than the debounced
presence starts the debounce timer for the full debounce time, one back to it stops the timer, and without a
change of the raw input nothing else happens. Only lane 0's detector reaches the raw input. At the timer's
expiry the debounced presence takes the raw input's value. An assertion sets INSERT where the edges reported
have it, and takes a slot in WATCH to SETTLE: its state timer starts and every parked lane in its mask
wakes, sending an IDLE frame of count 0, its generator at 1 + 4s + l. A loss sets REMOVE where the edges
have it, and no more in a slot that is not under test (RemovalsAreCounted is of one that is). -/
def Obligations.PresenceIsDebounced : Prop :=
  (∀ (i : SlotId) (l : LaneId) (level : Bool) (s : State),
    let sl := s.slot i
    let raw (t : State) : Bool := rawInput t i sl.profile.presenceSource
    let pin : State := { s with presN := s.presN.set i.val level }
    let energy : State :=
      { s with energy := s.energy.set i.val ((s.energy[i.val]).set l.val level) }
    (l ≠ 0 → exec (.energyDetectChange i l level) s = .next energy) ∧
    ∀ (c : Instr) (t : State),
      (c = .presNChange i level ∧ t = pin) ∨ (c = .energyDetectChange i l level ∧ t = energy) →
      let timer (d : Timer) : State := { t with slots := s.slots.set i.val { sl with debounceTimer := d } }
      (sl.tracking = false ∨ s.porst = true ∨ raw t = raw s → exec c s = .next t) ∧
      (sl.tracking = true → s.porst = false → raw t ≠ raw s →
        (raw t = sl.present → exec c s = .next (timer none)) ∧
        (raw t ≠ sl.present → exec c s =
          .next (timer (some (s.us + BitVec.ofNat 48 (sl.profile.debounce * 1000))))))) ∧
  ∀ (i : SlotId) (s : State) (e : BitVec 48),
    let sl := s.slot i
    let p := sl.profile
    sl.tracking = true → sl.debounceTimer = some e → reached s.us e = true →
    let raw := rawInput s i p.presenceSource
    let after (x : Slot) : Host.Outcome State Fault Refusal :=
      .next (settle { s with slots := s.slots.set i.val x })
    let inserted : EventFlags :=
      sl.flags ||| (if p.presenceEdges = .insert ∨ p.presenceEdges = .both then 1#10 else 0#10)
    let removed : EventFlags :=
      sl.flags ||| (if p.presenceEdges = .remove ∨ p.presenceEdges = .both then 2#10 else 0#10)
    let woken (l : LaneId) : Lane :=
      let x := sl.lane l
      let gen := if p.payload.isPrbs then BitVec.ofNat 31 (1 + 4 * i.val + l.val) else x.txGen
      let frame : TestFrame :=
        ⟨headerBits ⟨BitVec.ofNat 4 i.val, BitVec.ofNat 2 l.val⟩ .idle 0,
         txPayload p.payload s.patterns gen 0⟩
      if p.laneMask.getLsbD l.val = true ∧ x.power = .parked then
        { x with power := .waking, rx := .hunt, searching := false, checker := .unseeded, txCount := 0,
                 txGen := gen, sending := some frame }
      else x
    (raw = sl.present → exec (.debounceExpiry i) s = after { sl with debounceTimer := none }) ∧
    (raw = true → sl.present = false → sl.state ≠ .watch → exec (.debounceExpiry i) s =
      after { sl with debounceTimer := none, present := true, flags := inserted }) ∧
    (raw = true → sl.present = false → sl.state = .watch → exec (.debounceExpiry i) s =
      after { sl with
        debounceTimer := none, present := true, flags := inserted, state := .settle
        stateTimer := some (s.us + BitVec.ofNat 48 (p.settle * 16))
        lanes := #v[woken 0, woken 1, woken 2, woken 3] }) ∧
    (raw = false → sl.present = true →
      sl.state = .off ∨ sl.state = .watch ∨ sl.state = .verdict ∨ sl.state = .done →
      exec (.debounceExpiry i) s =
        after { sl with debounceTimer := none, present := false, flags := removed })

/-- R54, R58, R83 to R85, R88, R89, R108, R109, R158: a debounced loss in a slot under test is a removal: an
attempt is counted; the first two take the slot back to WATCH, the third adds REMOVED_REPEATEDLY with value
3 and takes it to VERDICT. Either way its lanes park, its state timer stops, its scan result is emptied, and
its discovery entry is withdrawn: a try or recovery of its walk runs on, abandoned, and a wait of it ends at
once, the next entry being served in the same event. Other slots do not change but for those whose sweep may
begin. Of the patterns only the in-use counts move, by the claims of the slots that enter VERDICT. A lane
that parks keeps its counters and its first-error capture and has every other item as R58 says; a PARKED one
stays as it is. That the register of the unseeded checker of a lane that parks is 0 is the model's choice (log
27): R56 and R58 give it no contents. That no frame is being received there is read from R58 (log 10). -/
def Obligations.RemovalsAreCounted : Prop :=
  (∀ (sl : Slot) (l : LaneId),
    let x := sl.lane l
    (x.power = .parked → (parkedLanes sl)[l.val] = x ∧ (parkedConfirm sl)[l.val] = sl.confirm[l.val]) ∧
    (x.power ≠ .parked → (parkedConfirm sl)[l.val] = 0 ∧ (parkedLanes sl)[l.val] =
      { power := .parked, rx := .hunt, searching := false, polarity := .normal, source := none
        candidate := none, badRun := 0, foreign := none, lastKind := none, lastCount := none
        soakRole := false, soakSource := none, fixedPol := none, deadCause := none, relock := none
        txCount := 0, txGen := 0, checker := .unseeded, checkReg := 0, position := 0
        counters := x.counters, sending := none, rxFrame := .none }) ∧
    (parkedCleared sl)[l.val] =
      { (parkedLanes sl)[l.val] with counters := ⟨0, 0, 0, 0, 0, none⟩ }) ∧
  ∀ (i : SlotId) (s : State) (e : BitVec 48), SlotsOk s → SweepOk s →
    let sl := s.slot i
    sl.tracking = true → sl.debounceTimer = some e → reached s.us e = true →
    rawInput s i sl.profile.presenceSource = false → sl.present = true →
    sl.state ∈ [SlotState.settle, .discover, .train, .soak, .scan] →
    let lost : Slot := { sl with
      present := false, debounceTimer := none, stateTimer := none, attempts := sl.attempts + 1
      flags := sl.flags |||
        (if sl.profile.presenceEdges = .remove ∨ sl.profile.presenceEdges = .both then 2#10 else 0#10)
      lanes := parkedLanes sl, confirm := parkedConfirm sl
      scan := if sl.state = .scan then .empty else sl.scan }
    let findings := addFinding sl.findings ⟨.removedRepeatedly, none, true, 3⟩
    ∃ u, exec (.debounceExpiry i) s = .next u ∧
      (sl.attempts < 2 → u.slot i = { lost with state := .watch }) ∧
      (sl.attempts = 2 → u.slot i = { lost with
        state := .verdict, findings := findings, finals := sl.finalLanes, verdictPending := true
        outcome := some (composeOutcome sl.abortedMark findings) }) ∧
      (∀ j, j ≠ i → (s.slot j).state ≠ .scan → u.slot j = s.slot j) ∧
      i ∉ u.scanner.queue ∧
      u.sideband = sidebandWithout s (fun x => decide (x = .discovery i)) ∧
      u = { s with
        patterns := claimsMoved s u, slots := u.slots, sideband := u.sideband, scanner := u.scanner
        writer := { s.writer with selection := u.writer.selection, lastSource := u.writer.lastSource }
        attention := { s.attention with
          condition := u.attention.condition, count := u.attention.count,
          waiting := u.attention.waiting } }

/-- R57, R87, R107, R108, R111: at the state timer's expiry in SETTLE the waking lanes become ACTIVE and
search, the identity becomes none, the slot enters DISCOVER and its discovery entry joins the Sideband
Queue; where the engine is IDLE and no entry waits, its walk begins with a 1-byte read of byte 0. -/
def Obligations.SettledSlotsAreDiscovered : Prop :=
  ∀ (i : SlotId) (s : State) (e : BitVec 48),
    let sl := s.slot i
    sl.state = .settle → sl.stateTimer = some e → reached s.us e = true →
    let active (l : LaneId) : Lane :=
      if (sl.lane l).power = .waking then
        { sl.lane l with power := .active, rx := .hunt, searching := true }
      else sl.lane l
    let found : Slot := { sl with
      state := .discover, stateTimer := none, identity := none
      lanes := #v[active 0, active 1, active 2, active 3] }
    let after (sideband : Sideband) : Host.Outcome State Fault Refusal :=
      .next { s with slots := s.slots.set i.val found, sideband := sideband }
    let begun : Engine := { s.sideband.engine with
      phase := .try, txn := ⟨i, .read, 0, 1, []⟩, tries := 1, speed := sl.profile.sidebandSpeed
      wait := none, abandoned := false, walk := .fresh, result := none }
    (s.sideband.engine.phase ≠ .idle → exec (.settleExpiry i) s =
      after ⟨s.sideband.queue ++ [.discovery i], s.sideband.engine⟩) ∧
    (s.sideband.engine.phase = .idle → s.sideband.queue = [] →
      exec (.settleExpiry i) s = after ⟨[.discovery i], begun⟩)

/-! ### The sideband line -/

/-- R103 to R105: a NAK of the address byte 0x58, of the offset, or of a read's address byte 0x59 is
followed by the STOP at once, and in the first or second try by a wait of 1 ms and the next try, at the
speed the slot's state then gives. What the try sent stands on the line's record. -/
def Obligations.AddressNaksAreRetried : Prop :=
  (∀ (s : State) (byte : Fin 3),
    let g := s.sideband.engine
    let offset : LineItem := .send (BitVec.ofNat 8 g.txn.offset)
    let items : List LineItem := match byte with
      | 0 => [.start, .send 0x58, .stop]
      | 1 => [.start, .send 0x58, offset, .stop]
      | 2 => [.start, .send 0x58, offset, .repeatedStart, .send 0x59, .stop]
    g.phase = .try → g.abandoned = false → g.tries < 3 → (g.txn.direction = .read ∨ byte.val < 2) →
    exec (.tryEnd (.addressNak byte)) s = .next (settle { s with sideband := ⟨s.sideband.queue, { g with
      phase := .retryWait, wait := some (s.us + 1000#48)
      line := some ⟨g.txn.slot, g.speed, items⟩ }⟩ })) ∧
  ∀ (s : State) (e : BitVec 48),
    let g := s.sideband.engine
    g.phase = .retryWait → g.wait = some e → reached s.us e = true →
    let speed := if (s.slot g.txn.slot).state = .off then .khz100
      else (s.slot g.txn.slot).profile.sidebandSpeed
    exec .retryWaitExpiry s = .next { s with sideband := ⟨s.sideband.queue, { g with
      phase := .try, tries := g.tries + 1, speed := speed, wait := none }⟩ }

/-- R102, R103, R105, R106, R109, R110: what a try sends, for every way it can end, from its START to its
STOP, with the clock periods of a try acknowledged throughout, and what a recovery sends. On the wires every
such sequence begins and ends with both released; SBD is sampled only while SBC is released, and is needed
high only while both are; within a byte SBD moves only while SBC is low; a byte sent stands on SBD most
significant bit first with SBD released for its acknowledgement, and of a byte received the part leaves SBD
released for eight bits and then answers ACK, or NAK for the last. No two lines are driven at a time. The
STOP of an abandoned try or recovery frees the engine for the next entry, and so does a clock held low that
cuts an abandoned recovery short (log 21), with no STOP of its own. -/
def Obligations.TriesAreFramed : Prop :=
  (∀ t : Txn,
    let offset : LineItem := .send (BitVec.ofNat 8 t.offset)
    let data (n : Nat) : List LineItem := (t.data.take n).map .send
    let addressed : List LineItem := [.start, .send 0x58, offset]
    let turned : List LineItem := addressed ++ [.repeatedStart, .send 0x59]
    let received : List LineItem :=
      (List.range t.count).map fun k => .receive (decide (k + 1 = t.count))
    t.sent (.addressNak 0) = [LineItem.start, .send 0x58, .stop] ∧
    t.sent (.addressNak 1) = addressed ++ [LineItem.stop] ∧
    (t.direction = .read →
      t.sent (.addressNak 2) = turned ++ [LineItem.stop] ∧
      (∀ bytes, t.sent (.success bytes) = turned ++ received ++ [LineItem.stop]) ∧
      ∀ bytes, linePeriods (t.sent (.success bytes)) = 30 + 9 * t.count) ∧
    (t.direction = .write → t.count ≤ t.data.length →
      (∀ bytes, t.sent (.success bytes) = addressed ++ data t.count ++ [LineItem.stop]) ∧
      (∀ bytes, linePeriods (t.sent (.success bytes)) = 20 + 9 * t.count) ∧
      ∀ acked : Fin 8, acked.val < t.count →
        t.sent (.dataNak acked) = addressed ++ data (acked.val + 1) ++ [LineItem.stop])) ∧
  (recoverySequence = LineItem.releaseData :: (List.replicate 9 LineItem.clockPulse ++ [LineItem.stop]) ∧
    linePeriods recoverySequence = 10 ∧ ∀ w : Wires, w.after (lineMoves recoverySequence) = ⟨.released, .released⟩) ∧
  (∀ (t : Txn) (r : TryResult),
    Wires.idle.after (lineMoves (t.sent r)) = ⟨.released, .released⟩ ∧
    ∀ before m rest, lineMoves (t.sent r) = before ++ m :: rest →
      let w := Wires.idle.after before
      (m = .sample → w.sbc = .released) ∧ (m = .needData → w = ⟨.released, .released⟩)) ∧
  (∀ (b : Byte) (last : Bool) (w : Wires), w.sbc = .low →
    let drive (high : Bool) : Drive := if high then .released else .low
    sampledDrives w (LineItem.moves (.send b)) =
      (List.range 8).map (fun k => drive (b.getMsbD k)) ++ [Drive.released] ∧
    sampledDrives w (LineItem.moves (.receive last)) = List.replicate 8 Drive.released ++ [drive last] ∧
    ∀ item ∈ [LineItem.send b, .receive last], ∀ before m rest, item.moves = before ++ m :: rest →
      m = .pullData ∨ m = .releaseData → (w.after before).sbc = .low) ∧
  (∀ (s : State) (i j : SlotId), lineDriven s i ≠ none → lineDriven s j ≠ none → i = j) ∧
  ∀ s : State,
    let g := s.sideband.engine
    let freed (items : List LineItem) : State := { s with sideband := ⟨s.sideband.queue,
      { enginePasses s s.sideband.queue with line := some ⟨g.txn.slot, g.speed, items⟩ }⟩ }
    g.abandoned = true →
    (∀ r, g.phase = .try → resultPossible g.txn r = true →
      exec (.tryEnd r) s = .next (settle (freed (g.txn.sent r)))) ∧
    (g.phase = .recovery → exec .recoveryEnd s = .next (settle (freed recoverySequence)) ∧
      exec .clockHeldLow s = .next (settle { s with
        sideband := ⟨s.sideband.queue, enginePasses s s.sideband.queue⟩ }))

/-- R10, R25, R27, R39, R103, R105, R106, R108, R116, R117: a host entry's transaction ends with success,
with a data NAK, with the address NAK of its third try, or STUCK with its recovery, one cut short (log 21)
too, the post-wait then beginning where the clock is found held (log 41). With post-wait 0 the entry ends in
the same event, else when the post-wait has run: its completion word is created with the status, detail,
extra and read bytes of the result, and the engine passes on to the next entry, or becomes IDLE. In the same
event (log 38) the waiting writes join the Insert Queue, as INSERT_JOIN has them join, until the word has
joined, so that its block is no longer outstanding and the set has room, or all 8 places are taken, and no
further. -/
def Obligations.HostEntriesAreAnswered : Prop :=
  (∀ (s : State) (n : BlockId), (∃ c ∈ s.decoder.backlog, c.block = n ∧ c.fromSideband = true) →
    let goesOn (u : State) : Prop := outstandingTag u.decoder n ≠ none ∧
      ∃ place : Fin 8, ∀ e ∈ u.path.ins, e.place ≠ place
    ∃ k, joinUntilAnswered n 8 s = joined k s ∧ ¬ goesOn (joined k s) ∧ ∀ j < k, goesOn (joined j s)) ∧
  ∀ (s : State) (e : HostEntry) (rest : List SbEntry) (tag : BitVec 16) (result : TxnResult)
    (answer : Answer) (data : Option (Vector Byte 8)),
    let g := s.sideband.engine
    s.sideband.queue = .host e :: rest → outstandingTag s.decoder e.block = some tag →
    ((∃ bytes, result = .success bytes ∧
        answer = (if e.clamped then ⟨.doneClamped, 0, 1⟩ else ⟨.done, 0, BitVec.ofNat 32 e.count⟩) ∧
        data = (if e.direction = .read then
          some (Vector.ofFn fun k : Fin 8 => bytes.getD k.val 0) else none)) ∨
      (result = .nakAddress ∧ answer = ⟨.sidebandNak, 1, 0⟩ ∧ data = none) ∨
      (∃ acked, result = .nakData acked ∧ answer = ⟨.sidebandNak, 2, BitVec.ofNat 32 acked⟩ ∧
        data = none) ∨
      (result = .stuck .clock ∧ answer = ⟨.sidebandStuck, 1, 0⟩ ∧ data = none) ∨
      (result = .stuck .data ∧ answer = ⟨.sidebandStuck, 2, 0⟩ ∧ data = none)) →
    let word : Completion :=
      ⟨e.block, (s.path.windows[0]).base + BitVec.ofNat 40 (64 * e.block.toNat + 48), tag,
       answer.status, BitVec.ofNat 8 answer.detail, answer.extra, data, true⟩
    let ended (line : Option LineUse) : State := joinUntilAnswered e.block 8 { s with
      sideband := ⟨rest, { enginePasses s rest with line := line }⟩
      decoder := { s.decoder with backlog := placeCompletion s.decoder.backlog word } }
    let waiting (line : Option LineUse) : State := { s with sideband := ⟨s.sideband.queue, { g with
      phase := .postWait, wait := some (s.us + BitVec.ofNat 48 e.postWait), result := some result
      line := line }⟩ }
    let ends (line : Option LineUse) : State := if e.postWait = 0 then ended line else waiting line
    (∀ r, g.phase = .try → g.abandoned = false → endsTxn g.txn g.tries r result →
      exec (.tryEnd r) s = .next (settle (ends (some ⟨g.txn.slot, g.speed, g.txn.sent r⟩)))) ∧
    (g.phase = .recovery → g.abandoned = false → result = .stuck g.cause →
      exec .recoveryEnd s =
        .next (settle (ends (some ⟨g.txn.slot, g.speed, recoverySequence⟩))) ∧
      exec .clockHeldLow s = .next (settle (ends g.line))) ∧
    (∀ w, g.phase = .postWait → g.wait = some w → reached s.us w = true → g.result = some result →
      exec .postWaitExpiry s = .next (ended g.line))

/-- R106, R108, R111, R115: in a try, SBC held low or SBD stuck low begins a recovery, whose STOP ends the
transaction STUCK with its cause, with no further try: a walk ends with the failing finding LINE_STUCK of
that cause and takes its slot to VERDICT, and the engine passes on to the next entry. (What a host entry is
then answered is HostEntriesAreAnswered.) That SBC held low in a recovery ends it at once with the same
effect is the model's choice (log 21). -/
def Obligations.StuckLinesAreRecovered : Prop :=
  (∀ s : State,
    let g := s.sideband.engine
    let after (g' : Engine) : State := { s with sideband := ⟨s.sideband.queue, g'⟩ }
    g.phase = .try →
      exec .clockHeldLow s = .next (after { g with phase := .recovery, cause := .clock }) ∧
      exec .dataStuckLow s = .next (after { g with phase := .recovery, cause := .data })) ∧
  ∀ (s : State) (i : SlotId) (rest : List SbEntry) (c : Instr) (line : Option LineUse), SlotsOk s →
    let g := s.sideband.engine
    s.sideband.queue = .discovery i :: rest → g.phase = .recovery → g.abandoned = false →
    (c = .recoveryEnd ∧ line = some ⟨g.txn.slot, g.speed, recoverySequence⟩ ∨
      c = .clockHeldLow ∧ line = g.line) →
    let sl := s.slot i
    let value := if g.cause = .clock then 1 else 2
    let findings := addFindings sl.findings (g.walk.findings ++ [⟨.lineStuck, none, true, value⟩])
    ∃ u, exec c s = .next u ∧
      u.slot i = { sl with
        identity := some g.walk.identity, findings := findings, state := .verdict
        stateTimer := none, finals := sl.finalLanes, lanes := parkedLanes sl
        confirm := parkedConfirm sl, verdictPending := true
        outcome := some (composeOutcome sl.abortedMark findings) } ∧
      (∀ j, j ≠ i → u.slot j = s.slot j) ∧
      u = { s with
        patterns := claimReleased s i, slots := u.slots
        sideband := ⟨rest, { enginePasses s rest with line := line }⟩
        freeCount := s.freeCount + 1
        writer := { s.writer with selection := u.writer.selection, lastSource := u.writer.lastSource }
        attention := { s.attention with
          condition := u.attention.condition, count := u.attention.count,
          waiting := u.attention.waiting } }

/-- R86, R89, R108, R114, R115, R119, R120, R122, R125: the walk of a slot ends with the end of a
transaction that finishes it (WalksGoForward says which do) or with the plug settle wait: its identity and
findings are applied, its entry leaves the queue, and the engine passes on to the next entry. A walk that
fails takes the slot to VERDICT. One that succeeds takes it to TRAIN with the train timeout, the plug lane
count of its PLUG_ID, cleared confirmation counts, and the expectation of each receive lane: its own
transmit lane without a LOOP_MAP, else the lowest used plug lane that returns onto it, or nothing; with no
counted lane training ends in the same event, in VERDICT. -/
def Obligations.WalksEndTheDiscovery : Prop :=
  ∀ (i : SlotId) (s : State) (rest : List SbEntry) (c : Instr) (intoTrain : Bool) (w : Walk)
    (line : Option LineUse), SlotsOk s → s.sideband.queue = .discovery i :: rest →
    let g := s.sideband.engine
    let sl := s.slot i
    ((c = .plugSettleExpiry ∧ g.phase = .plugSettle ∧ (∃ e, g.wait = some e ∧ reached s.us e = true) ∧
        intoTrain = true ∧ w = g.walk ∧ line = g.line) ∨
      ∃ r result, c = .tryEnd r ∧ g.phase = .try ∧ g.abandoned = false ∧
        endsTxn g.txn g.tries r result ∧
        g.walk.next sl.profile.plugPolicy (Config.findingValue s.freeCount).toNat result =
          .finish intoTrain w ∧ line = some ⟨g.txn.slot, g.speed, g.txn.sent r⟩) →
    let count := match w.identity.plugId with
      | some p => p.laneCount
      | none => 4
    let counted (l : LaneId) : Prop := sl.profile.laneMask.getLsbD l.val = true ∧ l.val < count
    let applied := addFindings sl.findings w.findings
    let verdict (x : Slot) (findings : List Finding) : Slot := { x with
      identity := some w.identity, findings := findings, state := .verdict, stateTimer := none
      finals := sl.finalLanes, lanes := parkedLanes sl, verdictPending := true
      outcome := some (composeOutcome sl.abortedMark findings) }
    ∃ u, exec c s = .next u ∧
      (intoTrain = false → u.slot i = { verdict sl applied with confirm := parkedConfirm sl }) ∧
      (intoTrain = true → (∃ l, counted l) → ∃ expected : Vector Expected 4,
        u.slot i = { sl with
          identity := some w.identity, findings := applied, state := .train
          stateTimer := some (s.us + BitVec.ofNat 48 (sl.profile.trainTimeout * 1000))
          plugLanes := count, expected := expected, confirm := Vector.replicate 4 0 } ∧
        ∀ r : LaneId,
          (w.identity.loopMap = none → expected[r.val] = ⟨some (laneSource i r), .normal⟩) ∧
          ∀ m, w.identity.loopMap = some m →
            let returns (k : LaneId) : Prop :=
              (m.lanes[k.val]).present = true ∧ k.val < count ∧ (m.lanes[k.val]).ret = r
            (∀ k, returns k → (∀ j, j < k → ¬ returns j) → expected[r.val] =
              ⟨some (laneSource i k), if (m.lanes[k.val]).invert then .inverted else .normal⟩) ∧
            ((∀ k, ¬ returns k) → expected[r.val] = ⟨none, .normal⟩)) ∧
      (intoTrain = true → (∀ l, ¬ counted l) →
        let narrow : List Finding :=
          (([0, 1, 2, 3] : List LaneId).filter fun l => sl.profile.laneMask.getLsbD l.val).map
            fun l => ⟨.plugNarrow, some l, false, count⟩
        let v := u.slot i
        v = { verdict sl (addFindings applied (narrow ++ [⟨.noUsableLane, none, true, 0⟩])) with
          plugLanes := count, expected := v.expected, confirm := Vector.replicate 4 0
          wiring := v.wiring } ∧
        ∀ l : LaneId, (v.wiring[l.val]).cls = .excluded) ∧
      (∀ j, j ≠ i → u.slot j = s.slot j) ∧
      (u.slot i).state = (if intoTrain = true ∧ ∃ l, counted l then .train else .verdict) ∧
      u = { s with
        patterns := if intoTrain = true ∧ ∃ l, counted l then s.patterns else claimReleased s i
        slots := u.slots, sideband := ⟨rest, { enginePasses s rest with line := line }⟩
        freeCount := if c = .plugSettleExpiry then s.freeCount else s.freeCount + 1
        writer := { s.writer with selection := u.writer.selection, lastSource := u.writer.lastSource }
        attention := { s.attention with
          condition := u.attention.condition, count := u.attention.count,
          waiting := u.attention.waiting } }

/-- R103, R104, R111 to R114: what a walk does with the result of each of its transactions. The start
pointer, a head and a payload lead on as the rules say, with the finding of each ending; the value of
PLUG_ANONYMOUS at a start pointer of 0 is free (log 8), and that a PLUG_ID or LOOP_MAP whose payload makes
the chain bad is not taken into the identity is the model's choice (log 13). Another transaction begins in
the same event, at the speed the slot's state gives, and so does the plug settle wait. The walk of a chain
goes forward: it counts every head read, never more than 16, every read lies within the 256 bytes and beyond
the descriptor's part read before it, and the one byte written is 0x01 at the LOOP_MAP's control offset. -/
def Obligations.WalksGoForward : Prop :=
  (∀ (i : SlotId) (s : State) (rest : List SbEntry) (r : TryResult) (result : TxnResult),
    let g := s.sideband.engine
    s.sideband.queue = .discovery i :: rest → g.phase = .try → g.abandoned = false →
    endsTxn g.txn g.tries r result →
    let next := g.walk.next (s.slot i).profile.plugPolicy (Config.findingValue s.freeCount).toNat result
    let after (g' : Engine) : State := { s with
      sideband := ⟨s.sideband.queue, { g' with line := some ⟨g.txn.slot, g.speed, g.txn.sent r⟩ }⟩
      freeCount := s.freeCount + 1 }
    (∀ direction offset count data w, next = .transact direction offset count data w →
      exec (.tryEnd r) s = .next (settle (after { g with
        phase := .try, txn := ⟨i, direction, offset, count, data⟩, tries := 1, speed := trySpeed s i
        wait := none, walk := w }))) ∧
    (∀ units w, next = .settle units w →
      exec (.tryEnd r) s = .next (settle (after { g with
        phase := .plugSettle, wait := some (s.us + BitVec.ofNat 48 (units * 100)), walk := w })))) ∧
  (∀ (w : Walk) (policy : PlugPolicy) (free : Nat) (bytes : List Byte),
    let noted (w : Walk) (code : FindingCode) (failing : Bool) (value : Nat) : Walk :=
      { w with findings := w.findings ++ [⟨code, none, failing, value⟩] }
    let failed (w : Walk) (code : FindingCode) (value : Nat) : WalkStep :=
      .finish false (noted w code true value)
    let silent (code : FindingCode) (value : Nat) : WalkStep :=
      .finish (decide (policy = .acceptAnonymous))
        (noted w code (decide (policy = .requireDescriptor)) value)
    let chain (w : Walk) (o : Nat) : WalkStep :=
      if 16 ≤ w.identity.descriptors ∨ 256 < o + 4 then failed w .chainBad o
      else .transact .read o 4 [] { w with stage := .head o }
    let close (w : Walk) : WalkStep := match w.identity.loopMap with
      | none => .finish true w
      | some m =>
        if m.control = 0 then .finish true w
        else .transact .write m.control 1 [0x01] { w with stage := .loopWrite }
    let onward (w : Walk) (next : Nat) : WalkStep :=
      if next ≠ 0 then chain w next
      else if w.identity.plugId ≠ none then close w
      else if policy = .requireDescriptor then failed w .plugUnknown 0
      else close (noted w .plugAnonymous false 0)
    let byte (k : Nat) : Nat := (bytes.getD k 0).toNat
    let nak (result : TxnResult) : Prop := result = .nakAddress ∨ ∃ k, result = .nakData k
    (∀ result, nak result →
      (w.stage = .start → w.next policy free result = silent .plugSilent 0) ∧
      (∀ o, w.stage = .head o → w.next policy free result = failed w .descriptorNak o) ∧
      (∀ o type next length flags, w.stage = .payload o type next length flags →
        w.next policy free result = failed w .descriptorNak (o + 4)) ∧
      ∀ m, w.stage = .loopWrite → w.identity.loopMap = some m →
        w.next policy free result = failed w .loopCloseFailed m.control) ∧
    (w.stage = .start → w.next policy free (.success bytes) =
      if byte 0 = 0 then silent .plugAnonymous free else chain w (byte 0)) ∧
    (∀ o, w.stage = .head o →
      let w' : Walk := { w with identity := { w.identity with
        descriptors := w.identity.descriptors + 1 } }
      let end_ := o + 4 + byte 2
      let bad := 32 < byte 2 ∨ 256 < end_ ∨ (byte 1 ≠ 0 ∧ byte 1 < end_)
      let need := if byte 0 = 1 ∧ w.identity.plugId = none then 8
        else if byte 0 = 2 ∧ w.identity.loopMap = none then 6 else 0
      (bad ∨ byte 2 < need → w.next policy free (.success bytes) = failed w' .chainBad o) ∧
      (¬ bad → need = 0 → w.next policy free (.success bytes) = onward w' (byte 1)) ∧
      (¬ bad → need ≠ 0 → need ≤ byte 2 → w.next policy free (.success bytes) =
        .transact .read (o + 4) need []
          { w' with stage := .payload o (byte 0) (byte 1) (byte 2) (bytes.getD 3 0) })) ∧
    (∀ o next length flags, w.stage = .payload o 1 next length flags →
      let plug : PlugId :=
        ⟨BitVec.ofNat 16 (byte 0 + 256 * byte 1), bytes.getD 2 0,
         BitVec.ofNat 32 (byte 3 + 256 * (byte 4 + 256 * (byte 5 + 256 * byte 6))), byte 7, flags⟩
      w.next policy free (.success bytes) =
        if byte 7 < 1 ∨ 4 < byte 7 then failed w .chainBad o
        else onward { w with identity := { w.identity with plugId := some plug } } next) ∧
    (∀ o next length flags, w.stage = .payload o 2 next length flags →
      let lane (k : Nat) : LoopLane :=
        ⟨Fin.ofNat 4 (byte k), (bytes.getD k 0).getLsbD 6, (bytes.getD k 0).getLsbD 7⟩
      let map : LoopMap := ⟨#v[lane 0, lane 1, lane 2, lane 3], byte 4, byte 5, flags⟩
      w.next policy free (.success bytes) =
        if byte 4 ≠ 0 ∧ byte 4 ≤ o + 4 + length then failed w .chainBad o
        else onward { w with identity := { w.identity with loopMap := some map } } next) ∧
    ∀ m, w.stage = .loopWrite → w.identity.loopMap = some m →
      w.next policy free (.success bytes) =
        if m.settle = 0 then .finish true w else .settle m.settle { w with stage := .settling }) ∧
  ∀ (w w' : Walk) (policy : PlugPolicy) (free offset count : Nat) (bytes data : List Byte)
    (direction : Direction),
    w.next policy free (.success bytes) = .transact direction offset count data w' →
    let forward (from_ : Nat) : Prop :=
      (direction = .read → data = [] ∧ offset + count ≤ 256 ∧
        (w'.stage = .head offset ∧ count = 4 ∧ from_ ≤ offset ∧ w'.identity.descriptors < 16 ∨
          ∃ o type next length flags, w'.stage = .payload o type next length flags ∧
            w.stage = .head o ∧ offset = o + 4 ∧ count ≤ length ∧ o + 4 + length ≤ 256 ∧
            (next = 0 ∨ o + 4 + length ≤ next))) ∧
      (direction = .write → count = 1 ∧ data = [0x01] ∧ w'.stage = .loopWrite ∧
        ∃ m, w'.identity.loopMap = some m ∧ m.control = offset ∧ m.control ≠ 0)
    (w.stage = .start → forward 1 ∧ w'.identity = w.identity) ∧
    (∀ o, w.stage = .head o → forward (o + 4 + (bytes.getD 2 0).toNat) ∧
      w'.identity.descriptors = w.identity.descriptors + 1) ∧
    (∀ o type next length flags, w.stage = .payload o type next length flags →
      next = 0 ∨ o + 4 + length ≤ next → forward (o + 4 + length) ∧
      w'.identity.descriptors = w.identity.descriptors)

/-! ### Checkpoints -/

/-- R54, R132, R134 to R137, R139 to R143, R148: the increment of the µs counter that makes a checkpoint
(the row is the increment itself: log 4) resets the three counts. A slot in SOAK that neither exceeds its
ceiling nor ends its soak joins, or counts one more checkpoint, and freezes its progress where its copy asks
for it. One over its ceiling, whether or not the finding is new (log 34), is judged and enters VERDICT. One
whose soak length is reached without that is judged, and enters SCAN with margin mode ALWAYS, or ON_PASS
where no finding of its list is failing, and VERDICT otherwise, where it releases its claim. Slots that
enter SCAN join the Scan Queue in an order that is free (log 9), and where none waited the sweep of the
first begins and goes on as far as it can, through slots whose soaked lanes are all DEAD
(SweepsAdvanceAndComplete). The judgement is R142's: allowance B × M / 2^(X − 16), and at least 3 × 2^(X −
16) / M blocks, rounded up. Nothing else changes but for the end of the event. -/
def Obligations.CheckpointsAdvanceSoaks : Prop :=
  ∀ s : State, SlotsOk s → SweepOk s → timebaseOk s.timebase → s.porst = false →
    s.timebase.prescalerCount + 1 = s.timebase.prescale →
    s.timebase.periodCount + 1 = s.timebase.period →
    s.timebase.postscalerCount + 1 = s.timebase.postscale →
    let lanes : List LaneId := [0, 1, 2, 3]
    let errors (i : SlotId) (l : LaneId) : Nat := ((s.slot i).lane l).counters.errors
    let exceeds (i : SlotId) (l : LaneId) : Prop := ((s.slot i).lane l).soakRole = true ∧
      (s.slot i).profile.errorCeiling ≠ 0 ∧ (s.slot i).profile.errorCeiling < errors i l
    let ceiling (i : SlotId) : List Finding := lanes.flatMap fun l =>
      if exceeds i l then [⟨.errorCeiling, some l, true, errors i l⟩] else []
    let judgement (i : SlotId) : List Finding := lanes.flatMap fun l =>
      let p := (s.slot i).profile
      let x := (s.slot i).lane l
      let c := x.counters
      let unit := 2 ^ (p.berX - 16)
      let one (code : FindingCode) (value : Nat) : List Finding := [⟨code, some l, true, value⟩]
      if x.soakRole then
        (if x.rx = .dead ∧ x.deadCause = some .relockTimeout then one .laneDead c.blocks
          else if x.rx = .dead ∧ x.deadCause = some .sourceChange then one .sourceUnstable c.blocks
          else if c.errors = 65535 ∨ c.blocks * p.berM / unit < c.errors then one .berExceeded c.errors
          else if c.blocks < min ((3 * unit + (p.berM - 1)) / p.berM) 4294967295 then
            one .berInsufficient c.blocks
          else []) ++ (if p.maxLockDrops < c.drops then one .lockUnstable c.drops else [])
      else []
    let judged (i : SlotId) : List Finding := addFindings (s.slot i).findings (judgement i)
    let passes (i : SlotId) : Prop := ∃ l, exceeds i l
    let ends (i : SlotId) : Prop := (s.slot i).state = .soak ∧ ¬ passes i ∧ (s.slot i).joined = true ∧
      (s.slot i).profile.soakLength ≤ (s.slot i).checkpoints + 1
    let margin (i : SlotId) : Prop := (s.slot i).profile.marginMode = .always ∨
      ((s.slot i).profile.marginMode = .onPass ∧ ∀ f ∈ judged i, f.failing = false)
    let met (i : SlotId) : Slot :=
      let sl := s.slot i
      let checkpoints := if sl.joined then sl.checkpoints + 1 else sl.checkpoints
      let figures (l : LaneId) : FrozenLane :=
        let x := sl.lane l
        ⟨x.counters.blocks, x.counters.errors, x.counters.drops, x.reported⟩
      { sl with
        checkpoints := checkpoints, joined := true
        progressPending := sl.progressPending || sl.profile.progressReports
        frozen := if sl.profile.progressReports then
            some ⟨checkpoints, false, #v[figures 0, figures 1, figures 2, figures 3]⟩
          else sl.frozen }
    let verdict (i : SlotId) (findings : List Finding) : Slot := { met i with
      state := .verdict, stateTimer := none, verdictPending := true, findings := findings
      finals := (s.slot i).finalLanes, lanes := parkedLanes (s.slot i)
      confirm := parkedConfirm (s.slot i)
      outcome := some (composeOutcome (s.slot i).abortedMark findings) }
    ∃ (v : State) (joining : List SlotId),
      exec .checkpoint s = .next (settle (if s.scanner.queue = [] then sweepSettle (sweepBegun v joining)
        else { v with scanner := ⟨s.scanner.queue ++ joining, s.scanner.sweep⟩ })) ∧
      joining.Nodup ∧ (∀ i, i ∈ joining ↔ ends i ∧ margin i) ∧
      (∀ i,
        ((s.slot i).state ≠ .soak → v.slot i = s.slot i) ∧
        ((s.slot i).state = .soak → ¬ passes i → ¬ ends i → v.slot i = met i) ∧
        ((s.slot i).state = .soak → passes i →
          v.slot i = verdict i (addFindings (addFindings (s.slot i).findings (ceiling i)) (judgement i))) ∧
        (ends i → ¬ margin i → v.slot i = verdict i (judged i)) ∧
        (ends i → margin i → v.slot i =
          { met i with state := .scan, stateTimer := none, findings := judged i, scan := .empty })) ∧
      v = { s with
        us := s.us + 1
        timebase := { s.timebase with prescalerCount := 0, periodCount := 0, postscalerCount := 0 }
        slots := v.slots, patterns := claimsMoved s v, freeCount := s.freeCount + 1 }

/-! ### The sweep -/

/-- R66 to R71, R76, R77, R98, R151 to R153: what the events of a lane do in the slot being swept, at
position p. A lane that waits for lock dwells, with no frames, once it takes lock; one that dwells has each
SCAN frame whose header was examined since then tallied (logs 10 and 29), and is finished, its count the
tally up to 255, with the last of its 16 × dwell frames; one that loses lock while it dwells is finished
with count 255; one that dies while it waits or dwells is broken at p, its counts from p on 255. A finished
lane keeps its count, and dies to no other effect at p. The lane itself moves as in a slot that is not
swept, with no counter changed and no drop; one that dies of a source change has its foreign run none (log
37), and lock leaves searching as it is (log 11). The count of a frame compared is the last good frame count
plus the bad-header run (log 18); with 1024 differing bits or more a PRBS checker seeds at the next frame.
The register of a checker made unseeded stays (log 27). After each of these the sweep goes on as far as it
can (SweepsAdvanceAndComplete). -/
def Obligations.LaneEventsMoveTheSweep : Prop :=
  ∀ (i : SlotId) (l : LaneId) (s : State) (sw : Sweep),
    let sl := s.slot i
    let x := sl.lane l
    let p := sw.position
    let at_ := sw.steps[l.val]
    let result := sl.scan.lanes[l.val]
    s.scanner.queue.head? = some i → s.scanner.sweep = some sw → sl.state = .scan →
    let told (flags : EventFlags) (y : Lane) (step : StepState) (r : ScanLane) :
        Host.Outcome State Fault Refusal :=
      let sl' : Slot := { sl with
        lanes := sl.lanes.set l.val y, flags := sl.flags ||| flags
        scan := { sl.scan with lanes := sl.scan.lanes.set l.val r } }
      .next (settle (sweepSettle { s with
        slots := s.slots.set i.val sl'
        scanner := { s.scanner with sweep := some { sw with steps := sw.steps.set l.val step } } }))
    let dwells : Bool := match at_ with
      | .dwell .. => true
      | _ => false
    let marked : StepState := match at_ with
      | .dwell f e _ => .dwell f e true
      | st => st
    let fixed (v : Nat) : ScanLane := { result with counts := result.counts.setIfInBounds p v }
    let dies (flags : EventFlags) (cause : DeadCause) (y : Lane) : Host.Outcome State Fault Refusal :=
      let y' : Lane := { y with
        rx := .dead, searching := false, deadCause := some cause, relock := none, checker := .unseeded
        rxFrame := .none }
      if at_ = .waitLock ∨ dwells = true then told flags y' .broken (brokenAt result p cause)
      else told flags y' at_ result
    let restarted : CheckerState := if sl.profile.payload.isPrbs then .seeding else .seeded
    (∀ (bits : BitVec 48) (c : Candidate) (h : Header), x.power = .active → x.rx = .hunt →
      x.searching = true → x.candidate = some c → 3 ≤ c.count →
      goodHeader (applyPolarity c.polarity bits) = some h → h.source = c.source →
      let locked : Lane := { x with
        rx := .locked, polarity := c.polarity, source := some h.source, lastKind := some h.kind
        lastCount := some h.count, badRun := 0, foreign := none, candidate := none, relock := none
        checker := restarted, rxFrame := .atLock }
      (x.soakRole = false ∨ x.soakSource = some h.source → exec (.headerInHunt i l bits) s =
        told 0 locked (if at_ = .waitLock then .dwell 0 0 false else at_) result) ∧
      (x.soakRole = true → x.soakSource ≠ some h.source →
        exec (.headerInHunt i l bits) s = dies (EventFlags.sourceChange l) .sourceChange locked)) ∧
    (x.power = .active → x.rx = .locked → ∀ bits : BitVec 48,
      (∀ h, goodHeader (applyPolarity x.polarity bits) = some h →
        let seen : Lane := { x with
          badRun := 0, foreign := none, lastKind := some h.kind, lastCount := some h.count
          rxFrame := .inLock }
        let run := match x.foreign with
          | some (r, n) => if r = h.source then n + 1 else 1
          | none => 1
        (x.source = some h.source → exec (.headerInLock i l bits) s = told 0 seen marked result) ∧
        (x.source ≠ some h.source → run < 4 → exec (.headerInLock i l bits) s =
          told 0 { seen with foreign := some (h.source, run) } marked result) ∧
        (x.source ≠ some h.source → 4 ≤ run → x.soakRole = true → exec (.headerInLock i l bits) s =
          dies (EventFlags.sourceChange l) .sourceChange seen) ∧
        (x.source ≠ some h.source → 4 ≤ run → x.soakRole = false → exec (.headerInLock i l bits) s =
          told 0 { seen with source := some h.source, checker := restarted } marked result)) ∧
      (goodHeader (applyPolarity x.polarity bits) = none →
        (x.badRun < 2 → exec (.headerInLock i l bits) s = told 0
          { x with badRun := x.badRun + 1, foreign := none, rxFrame := .inLock } marked result) ∧
        (2 ≤ x.badRun →
          let lost : Lane := { x with
            rx := .hunt, searching := true, badRun := 0, foreign := none
            relock := if x.soakRole then some (s.us + BitVec.ofNat 48 sl.profile.relockTimeout)
              else x.relock
            checker := .unseeded, rxFrame := .none }
          exec (.headerInLock i l bits) s =
            if dwells = true then told 0 lost .finished (fixed 255) else told 0 lost at_ result))) ∧
    (∀ e, x.rx = .hunt → x.relock = some e → reached s.us e = true →
      exec (.relockTimeout i l) s = dies 0 .relockTimeout x) ∧
    ∀ (payload : BitVec 4096) (want : Nat → Bool), x.power = .active → x.rx = .locked →
      x.rxFrame ≠ .none →
      let count : BitVec 8 := x.lastCount.getD 0 + BitVec.ofNat 8 x.badRun
      let got (n : Nat) : Bool := payload.getMsbD n != decide (x.polarity = .inverted)
      expectedOf sl.profile.payload s.patterns x count got want →
      let errors := ((List.range 4096).filter fun n => got n != want n).length
      ∃ register,
        let y : Lane := { x with
          checker := if sl.profile.payload.isPrbs = true ∧ 1024 ≤ errors then .seeding else .seeded
          checkReg := register, rxFrame := .none }
        let tallied : Prop := x.soakRole = true ∧ x.rxFrame = .inLock ∧ x.lastKind = some .scan
        registerAfter sl.profile.payload x.checkReg want register ∧
        (¬ tallied → exec (.frameReceived i l payload) s =
          .next { s with slots := s.slots.set i.val { sl with lanes := sl.lanes.set l.val y } }) ∧
        (tallied →
          (∀ f e, at_ = .dwell f e true → exec (.frameReceived i l payload) s =
            if f + 1 < 16 * sl.profile.dwell then told 0 y (.dwell (f + 1) (e + errors) true) result
            else told 0 y .finished (fixed (min (e + errors) 255))) ∧
          ((∀ f e, at_ ≠ .dwell f e true) → exec (.frameReceived i l payload) s = told 0 y at_ result))

/-- R54, R68, R78, R89, R149, R151, R153 to R155, R157: how far a sweep goes on within an event,
`sweepSettle` in the statements. While a lane waits or dwells nothing happens. Else, below position 31, the
position advances: every finished lane moves its sampling position, its relock timer restarted if it runs in
HUNT, and takes its step state from its engine as it stands, a dead one being broken there. One whose relock
timer has run out by then, its expiry still to be taken, dies in the advance (log 39). At position 31 the
sweep completes: the scanned lanes return to position 0, their eyes are computed (EyesAreTheLongestRuns),
the findings SCAN_BROKEN, NO_EYE and EYE_NARROW are added lane by lane, the SCAN record becomes pending, the
slot enters VERDICT, and the sweep of the next slot begins. -/
def Obligations.SweepsAdvanceAndComplete : Prop :=
  ∀ s : State,
    (s.scanner.queue = [] ∨ s.scanner.sweep = none → sweepSettle s = s) ∧
    ∀ (i : SlotId) (rest : List SlotId) (sw : Sweep), s.scanner.queue = i :: rest → rest.length < 12 →
      s.scanner.sweep = some sw →
      let sl := s.slot i
      let busy : Prop := ∃ l : LaneId, sw.steps[l.val] = .waitLock ∨ ∃ f e m, sw.steps[l.val] = .dwell f e m
      (busy → sweepSettle s = s) ∧
      (¬ busy → sw.position < 31 →
        let p := sw.position + 1
        let on (l : LaneId) : Prop := sw.steps[l.val] = .finished
        let lane (l : LaneId) : Lane :=
          if on l then advanced s p sl.profile.relockTimeout (sl.lane l) else sl.lane l
        let step (l : LaneId) : StepState := if on l then stepFrom (lane l) else sw.steps[l.val]
        let result (l : LaneId) : ScanLane :=
          if on l ∧ (lane l).rx = .dead then
            brokenAt (sl.scan.lanes[l.val]) p ((lane l).deadCause.getD .relockTimeout)
          else sl.scan.lanes[l.val]
        sweepSettle s = sweepSettle { s with
          slots := s.slots.set i.val { sl with
            lanes := #v[lane 0, lane 1, lane 2, lane 3]
            scan := ⟨sl.scan.status, #v[result 0, result 1, result 2, result 3]⟩ }
          scanner := ⟨i :: rest, some ⟨p, #v[step 0, step 1, step 2, step 3]⟩⟩ }) ∧
      (¬ busy → 31 ≤ sw.position →
        let scanned (l : LaneId) : Bool := (sl.scan.lanes[l.val]).scanned
        let eyed (l : LaneId) : ScanLane :=
          let r := sl.scan.lanes[l.val]
          let e := eye r.counts sl.profile.tolerance
          if scanned l then { r with width := e.1, centre := e.2.1, noEye := e.2.2 } else r
        let finding (l : LaneId) : List Finding :=
          let r := eyed l
          if scanned l then
            (match r.broken with
              | some (p, _) => [⟨.scanBroken, some l, true, p⟩]
              | none => []) ++
            (if r.width = 0 then [⟨.noEye, some l, true, 0⟩]
              else if r.width < sl.profile.minEyeWidth then [⟨.eyeNarrow, some l, true, r.width⟩]
              else [])
          else []
        let findings := addFindings sl.findings (finding 0 ++ finding 1 ++ finding 2 ++ finding 3)
        let lane (l : LaneId) : Lane := (if scanned l then
          repositioned s 0 sl.profile.relockTimeout (sl.lane l) else sl.lane l).park
        let ended : Slot := { sl with
          state := .verdict, stateTimer := none, scanPending := true, verdictPending := true
          scan := ⟨.complete, #v[eyed 0, eyed 1, eyed 2, eyed 3]⟩, findings := findings
          finals := sl.finalLanes, lanes := #v[lane 0, lane 1, lane 2, lane 3]
          confirm := parkedConfirm sl
          outcome := some (composeOutcome sl.abortedMark findings) }
        sweepSettle s = sweepSettle (sweepBegun
          { s with slots := s.slots.set i.val ended, patterns := claimReleased s i } rest))

/-- R156: the eye of a lane's 32 counts: NO_EYE exactly where no position is clean; else the width is that of
a run of clean positions, taken around modulo 32, that no longer run exceeds, and the centre is the middle
of that run, 0 where all are clean. Of several runs of that width it is the one that contains position 0, else
the one with the lowest start. -/
def Obligations.EyesAreTheLongestRuns : Prop :=
  ∀ (counts : Vector Nat 32) (tolerance : Nat),
    let open_ (p : Nat) : Prop := countAt counts p ≤ tolerance ∧ countAt counts p ≠ 255
    let width := (eye counts tolerance).1
    let centre := (eye counts tolerance).2.1
    let noEye := (eye counts tolerance).2.2
    (noEye = true ↔ ∀ p, ¬ open_ p) ∧ (noEye = true → width = 0 ∧ centre = 0) ∧
    ((∀ p, open_ p) → width = 32 ∧ centre = 0) ∧
    (noEye = false → (∃ p, ¬ open_ p) → 1 ≤ width ∧ width ≤ 31 ∧ ∃ start < 32,
      centre = (start + (width - 1) / 2) % 32 ∧ (∀ q < width, open_ (start + q)) ∧
      ¬ open_ (start + 31) ∧ ¬ open_ (start + width) ∧
      (∀ a n, n ≤ 32 → (∀ q < n, open_ (a + q)) → n ≤ width) ∧
      let hasZero (a : Nat) : Prop := ∃ q < width, (a + q) % 32 = 0
      ∀ a < 32, (∀ q < width, open_ (a + q)) → ¬ open_ (a + 31) →
        (hasZero a → start = a) ∧ (¬ hasZero start → start ≤ a))

/-! ### Records -/

/-- R163, R164, R166, R167: the write of a selection that fits starts: a record of its length, kind and
source at W, whose first 16 bytes are the header with the next sequence and the present time, its pending
mark cleared; where it would pass the ring's end a PAD to that end goes first and the selection waits; where
it does not fit nothing happens. -/
def Obligations.SelectedRecordsAreWritten : Prop :=
  ∀ (s : State) (sel : Selection) (r : Ring),
    s.writer.selection = some sel → s.writer.inFlight = none → s.writer.ring = some r →
    sel.kind ∈ pendingKinds s sel.source → 16 ≤ sel.length → s.writer.write < r.size →
    let w := s.writer.write
    let room := r.size - s.writer.used
    let header (kind : RecordKind) (slot : Byte) (length more : Nat) : List Byte :=
      [kind.byte, slot, BitVec.ofNat 8 (length / 32), BitVec.ofNat 8 more] ++
        leBytes 2 s.writer.seq.toNat ++ leBytes 6 s.us.toNat ++ [0, 0, 0, 0]
    let more := match sel.source with
      | .status => 0
      | .slot _ => if ∃ k ∈ pendingKinds s sel.source, k ≠ sel.kind then 1 else 0
    (w + sel.length ≤ r.size → sel.length ≤ room →
      ∃ u f b, exec .recordWriteStart s = .next u ∧
        b.length = sel.length ∧ b.take 16 = header sel.kind sel.source.byte sel.length more ∧
        u.writer = { s.writer with selection := none, inFlight := some f } ∧
        f.source = sel.source ∧ f.kind = sel.kind ∧ f.offset = w ∧ f.length = sel.length ∧
        f.joined = none ∧ f.pieces = piecesOf (r.base + BitVec.ofNat 40 w) b ∧
        (∀ i : SlotId,
          let was := s.slot i
          u.slot i = if sel.source = .slot i then
              { was with
                flags := if sel.kind = .event then 0 else was.flags
                progressPending := was.progressPending && decide (sel.kind ≠ .progress)
                scanPending := was.scanPending && decide (sel.kind ≠ .scan)
                verdictPending := was.verdictPending && decide (sel.kind ≠ .verdict) }
            else was) ∧
        (sel.kind = .event → ∀ i, sel.source = .slot i → f.flags = (s.slot i).flags) ∧
        (sel.kind = .status → u.decoder.statusPending = false) ∧
        u = { s with
          writer := u.writer, slots := u.slots
          decoder := { s.decoder with statusPending := u.decoder.statusPending }
          attention := { s.attention with
            condition := u.attention.condition, count := u.attention.count,
            waiting := u.attention.waiting } }) ∧
    (r.size < w + sel.length → r.size - w + sel.length ≤ room →
      let pad : InFlight := ⟨sel.source, .pad, w, r.size - w, 0,
        piecesOf (r.base + BitVec.ofNat 40 w) (header .pad 0xFF (r.size - w) 0), none⟩
      exec .recordWriteStart s =
        .next (settle { s with writer := { s.writer with inFlight := some pad } })) ∧
    (room < sel.length ∨ (r.size < w + sel.length ∧ room < r.size - w + sel.length) →
      exec .recordWriteStart s = .next s)

/-- R147, R163, R164, R168, R179, chapter 11.2: the record whose write starts holds the fields of its kind's
layout, each at its offset with the value the part then has, and 0 in every other byte; its length is that of
its kind. The encodings of slot states, lane states, causes, outcomes, classes, roles, kinds and findings are
those of chapter 11.2. That the break position of a scanned lane that did not break, and the descriptors read
of a slot with no plug identity, are 0 is the model's choice (log 42). -/
def Obligations.RecordsCarryTheirLayouts : Prop :=
  (∀ (s : State) (sel : Selection) (r : Ring),
    s.writer.selection = some sel → s.writer.inFlight = none → s.writer.ring = some r →
    sel.kind ∈ pendingKinds s sel.source → sel.length = recordLength s sel.source sel.kind →
    s.scanner.queue.length ≤ 12 → s.writer.write < r.size →
    s.writer.write + sel.length ≤ r.size → s.writer.used + sel.length ≤ r.size →
    ∃ u f b, exec .recordWriteStart s = .next u ∧ u.writer.inFlight = some f ∧ f.kind = sel.kind ∧
      f.pieces = piecesOf (r.base + BitVec.ofNat 40 s.writer.write) b ∧ b.length = sel.length ∧
      carries b (headerLayout s sel ++ contentLayout s sel)) ∧
  (∀ (s : State) (i : SlotId),
    let sl := s.slot i
    let content := 32 + 32 * (maskLanes sl).length + 8 * sl.findings.length
    let length := recordLength s (.slot i)
    length .verdict % 32 = 0 ∧ content ≤ length .verdict ∧ length .verdict < content + 32 ∧
      length .scan = 192 ∧ length .progress = 64 ∧ length .event = 32 ∧
      recordLength s .status .status = 256) ∧
  ([SlotState.off, .watch, .settle, .discover, .train, .soak, .scan, .verdict, .done].map SlotState.code =
      List.range 9 ∧
    [LaneState.parked, .waking, .hunt, .locked, .dead].map LaneState.code = List.range 5 ∧
    [none, some DeadCause.relockTimeout, some .sourceChange].map causeCode = List.range 3 ∧
    [Verdict.pass, .passWithNotes, .fail, .aborted].map (fun v => verdictCode (some v)) = [1, 2, 3, 4] ∧
    [WireClass.none, .excluded, .open, .shared, .crossed, .swapped, .inverted, .isMatch].map
      WireClass.code = List.range 8 ∧
    [Role.off, .pattern, .report, .command].map Role.code = List.range 4 ∧
    [RecordKind.verdict, .scan, .progress, .event, .status, .pad].map RecordKind.byte =
      [1, 2, 3, 4, 5, 6] ∧
    [FindingCode.plugSilent, .plugAnonymous, .plugUnknown, .chainBad, .descriptorNak, .lineStuck,
      .loopCloseFailed, .plugNarrow, .laneOpen, .laneShared, .laneCrossed, .laneSwapped, .laneInverted,
      .noUsableLane, .errorCeiling, .laneDead, .sourceUnstable, .berExceeded, .berInsufficient,
      .lockUnstable, .scanBroken, .noEye, .eyeNarrow, .removedRepeatedly, .aborted, .truncated].map
      FindingCode.byte =
      [0x01, 0x02, 0x03, 0x04, 0x05, 0x06, 0x07, 0x10, 0x11, 0x12, 0x13, 0x14, 0x15, 0x16, 0x20, 0x21,
       0x22, 0x23, 0x24, 0x25, 0x30, 0x31, 0x32, 0x40, 0x41, 0x7F])

/-- R1, R167: the pieces of a record at a multiple of 32 are legal inserted writes: 1 to 16 beats at a
multiple of 16 within one 4 KiB page; there are at most two, the one with the record's header goes last,
and together they are the record's bytes in order. -/
def Obligations.PiecesAreLegalWrites : Prop :=
  ∀ (a : Addr) (b : List Byte), a.toNat % 32 = 0 → b.length % 16 = 0 → 16 ≤ b.length →
    b.length ≤ 288 → a.toNat + b.length ≤ 2 ^ 40 →
    (∀ p ∈ piecesOf a b, p.addr.toNat % 16 = 0 ∧ p.bytes.length = 16 * p.beats ∧ 1 ≤ p.beats ∧
      p.beats ≤ 16 ∧ p.addr.toNat / 4096 = (p.addr.toNat + p.bytes.length - 1) / 4096) ∧
    (piecesOf a b = [⟨a, b.map some⟩] ∨
      ∃ first second, piecesOf a b = [second, first] ∧ first.addr = a ∧
        second.addr.toNat = a.toNat + first.bytes.length ∧
        first.bytes ++ second.bytes = b.map some)

/-! ### The command block format -/

/-- R18, R178, chapter 11.1: every command of a block, with every value of its fields, is what its 64 bytes
decode to. -/
def Obligations.BlocksRoundTrip : Prop :=
  ∀ (i : Instr) (n : BlockId), i.wf = true → i.block? = some n →
    ∃ b, encodeBlock i = some b ∧ b.length = 64 ∧ decodeBlock n b = i

/-! ### Invariants -/

/-- R2, R3, R4, R9, R10, R13, R14, R17, R23, R26: from every state that meets them, a step keeps the bounds of
the memory path, the legality of the Window Table, and the bounds of the backlog and of the outstanding
set. -/
def Obligations.PathAndWindowsStayLegal : Prop :=
  Kept fun s => PathOk s ∧ DecoderOk s ∧ WindowsOk s

/-- R41, R43, R46, R53, R73 to R76, R131, R160, R173: from every state that meets them, a step keeps the
findings lists, the patterns, the counts and the settings within what the rules allow. -/
def Obligations.ContentsStayInRange : Prop :=
  Kept fun s => FindingsOk s ∧ PatternsOk s ∧ CountsOk s ∧ SettingsOk s

/-- R54, R78, R85, R90, R107, R148, R149, R154, R164, R165: from every state that meets them, a step keeps the
agreement of the slots' states with the queues, the sweep, the Record Writer and the claims. -/
def Obligations.SlotsAgreeWithTheQueues : Prop :=
  Kept fun s => SlotsOk s ∧ SweepOk s ∧ ClaimsOk s

/-- R9, R162, R163, R166, R169, R172: from every state that meets it, a step keeps the ring's bookkeeping, W
and every offset and length in it multiples of 32. -/
def Obligations.TheRingHoldsTheUnconsumed : Prop := Kept RingOk

/-- R17 and the reset values of every chapter: the state after reset meets every invariant. -/
def Obligations.ResetMeetsTheInvariants : Prop :=
  PathOk .reset ∧ DecoderOk .reset ∧ WindowsOk .reset ∧ FindingsOk .reset ∧ PatternsOk .reset ∧
    CountsOk .reset ∧ SettingsOk .reset ∧ SlotsOk .reset ∧ SweepOk .reset ∧ ClaimsOk .reset ∧
    RingOk .reset
end

