-- ==== Sys2Proof/Laws/State.lean ====
section
/-! SUPPORT. One lemma for each field under each named update of the state, so that no later proof
unfolds a record update; and reading a slot after an update. -/

namespace Sys2Proof.Machine

open Sys2Proof

variable (s : State)

/-! ### `State.withSlot` -/

@[simp] theorem State.withSlot_us (i : SlotId) (x : Slot) : (s.withSlot i x).us = s.us := rfl
@[simp] theorem State.withSlot_prst (i : SlotId) (x : Slot) : (s.withSlot i x).prst = s.prst := rfl
@[simp] theorem State.withSlot_porst (i : SlotId) (x : Slot) : (s.withSlot i x).porst = s.porst := rfl
@[simp] theorem State.withSlot_presN (i : SlotId) (x : Slot) : (s.withSlot i x).presN = s.presN := rfl
@[simp] theorem State.withSlot_energy (i : SlotId) (x : Slot) : (s.withSlot i x).energy = s.energy := rfl
@[simp] theorem State.withSlot_path (i : SlotId) (x : Slot) : (s.withSlot i x).path = s.path := rfl
@[simp] theorem State.withSlot_decoder (i : SlotId) (x : Slot) : (s.withSlot i x).decoder = s.decoder := rfl
@[simp] theorem State.withSlot_profiles (i : SlotId) (x : Slot) : (s.withSlot i x).profiles = s.profiles := rfl
@[simp] theorem State.withSlot_patterns (i : SlotId) (x : Slot) : (s.withSlot i x).patterns = s.patterns := rfl
@[simp] theorem State.withSlot_slots (i : SlotId) (x : Slot) : (s.withSlot i x).slots = s.slots.set i.val x := rfl
@[simp] theorem State.withSlot_sideband (i : SlotId) (x : Slot) : (s.withSlot i x).sideband = s.sideband := rfl
@[simp] theorem State.withSlot_timebase (i : SlotId) (x : Slot) : (s.withSlot i x).timebase = s.timebase := rfl
@[simp] theorem State.withSlot_scanner (i : SlotId) (x : Slot) : (s.withSlot i x).scanner = s.scanner := rfl
@[simp] theorem State.withSlot_writer (i : SlotId) (x : Slot) : (s.withSlot i x).writer = s.writer := rfl
@[simp] theorem State.withSlot_attention (i : SlotId) (x : Slot) : (s.withSlot i x).attention = s.attention := rfl
@[simp] theorem State.withSlot_freeCount (i : SlotId) (x : Slot) : (s.withSlot i x).freeCount = s.freeCount := rfl
@[simp] theorem State.withSlot_pending (i : SlotId) (x : Slot) : (s.withSlot i x).pending = s.pending := rfl

/-! ### `State.modSlot` -/

@[simp] theorem State.modSlot_us (i : SlotId) (f : Slot → Slot) : (s.modSlot i f).us = s.us := rfl
@[simp] theorem State.modSlot_prst (i : SlotId) (f : Slot → Slot) : (s.modSlot i f).prst = s.prst := rfl
@[simp] theorem State.modSlot_porst (i : SlotId) (f : Slot → Slot) : (s.modSlot i f).porst = s.porst := rfl
@[simp] theorem State.modSlot_presN (i : SlotId) (f : Slot → Slot) : (s.modSlot i f).presN = s.presN := rfl
@[simp] theorem State.modSlot_energy (i : SlotId) (f : Slot → Slot) : (s.modSlot i f).energy = s.energy := rfl
@[simp] theorem State.modSlot_path (i : SlotId) (f : Slot → Slot) : (s.modSlot i f).path = s.path := rfl
@[simp] theorem State.modSlot_decoder (i : SlotId) (f : Slot → Slot) : (s.modSlot i f).decoder = s.decoder := rfl
@[simp] theorem State.modSlot_profiles (i : SlotId) (f : Slot → Slot) : (s.modSlot i f).profiles = s.profiles := rfl
@[simp] theorem State.modSlot_patterns (i : SlotId) (f : Slot → Slot) : (s.modSlot i f).patterns = s.patterns := rfl
@[simp] theorem State.modSlot_slots (i : SlotId) (f : Slot → Slot) : (s.modSlot i f).slots = s.slots.set i.val (f (s.slot i)) := rfl
@[simp] theorem State.modSlot_sideband (i : SlotId) (f : Slot → Slot) : (s.modSlot i f).sideband = s.sideband := rfl
@[simp] theorem State.modSlot_timebase (i : SlotId) (f : Slot → Slot) : (s.modSlot i f).timebase = s.timebase := rfl
@[simp] theorem State.modSlot_scanner (i : SlotId) (f : Slot → Slot) : (s.modSlot i f).scanner = s.scanner := rfl
@[simp] theorem State.modSlot_writer (i : SlotId) (f : Slot → Slot) : (s.modSlot i f).writer = s.writer := rfl
@[simp] theorem State.modSlot_attention (i : SlotId) (f : Slot → Slot) : (s.modSlot i f).attention = s.attention := rfl
@[simp] theorem State.modSlot_freeCount (i : SlotId) (f : Slot → Slot) : (s.modSlot i f).freeCount = s.freeCount := rfl
@[simp] theorem State.modSlot_pending (i : SlotId) (f : Slot → Slot) : (s.modSlot i f).pending = s.pending := rfl

/-! ### `State.modPattern` -/

@[simp] theorem State.modPattern_us (n : Fin 4) (f : Pattern → Pattern) : (s.modPattern n f).us = s.us := rfl
@[simp] theorem State.modPattern_prst (n : Fin 4) (f : Pattern → Pattern) : (s.modPattern n f).prst = s.prst := rfl
@[simp] theorem State.modPattern_porst (n : Fin 4) (f : Pattern → Pattern) : (s.modPattern n f).porst = s.porst := rfl
@[simp] theorem State.modPattern_presN (n : Fin 4) (f : Pattern → Pattern) : (s.modPattern n f).presN = s.presN := rfl
@[simp] theorem State.modPattern_energy (n : Fin 4) (f : Pattern → Pattern) : (s.modPattern n f).energy = s.energy := rfl
@[simp] theorem State.modPattern_path (n : Fin 4) (f : Pattern → Pattern) : (s.modPattern n f).path = s.path := rfl
@[simp] theorem State.modPattern_decoder (n : Fin 4) (f : Pattern → Pattern) : (s.modPattern n f).decoder = s.decoder := rfl
@[simp] theorem State.modPattern_profiles (n : Fin 4) (f : Pattern → Pattern) : (s.modPattern n f).profiles = s.profiles := rfl
@[simp] theorem State.modPattern_patterns (n : Fin 4) (f : Pattern → Pattern) : (s.modPattern n f).patterns = s.patterns.set n.val (f s.patterns[n.val]) := rfl
@[simp] theorem State.modPattern_slots (n : Fin 4) (f : Pattern → Pattern) : (s.modPattern n f).slots = s.slots := rfl
@[simp] theorem State.modPattern_sideband (n : Fin 4) (f : Pattern → Pattern) : (s.modPattern n f).sideband = s.sideband := rfl
@[simp] theorem State.modPattern_timebase (n : Fin 4) (f : Pattern → Pattern) : (s.modPattern n f).timebase = s.timebase := rfl
@[simp] theorem State.modPattern_scanner (n : Fin 4) (f : Pattern → Pattern) : (s.modPattern n f).scanner = s.scanner := rfl
@[simp] theorem State.modPattern_writer (n : Fin 4) (f : Pattern → Pattern) : (s.modPattern n f).writer = s.writer := rfl
@[simp] theorem State.modPattern_attention (n : Fin 4) (f : Pattern → Pattern) : (s.modPattern n f).attention = s.attention := rfl
@[simp] theorem State.modPattern_freeCount (n : Fin 4) (f : Pattern → Pattern) : (s.modPattern n f).freeCount = s.freeCount := rfl
@[simp] theorem State.modPattern_pending (n : Fin 4) (f : Pattern → Pattern) : (s.modPattern n f).pending = s.pending := rfl

/-! ### `State.modCounts` -/

@[simp] theorem State.modCounts_us (f : Counts → Counts) : (s.modCounts f).us = s.us := rfl
@[simp] theorem State.modCounts_prst (f : Counts → Counts) : (s.modCounts f).prst = s.prst := rfl
@[simp] theorem State.modCounts_porst (f : Counts → Counts) : (s.modCounts f).porst = s.porst := rfl
@[simp] theorem State.modCounts_presN (f : Counts → Counts) : (s.modCounts f).presN = s.presN := rfl
@[simp] theorem State.modCounts_energy (f : Counts → Counts) : (s.modCounts f).energy = s.energy := rfl
@[simp] theorem State.modCounts_path (f : Counts → Counts) : (s.modCounts f).path = s.path := rfl
@[simp] theorem State.modCounts_decoder (f : Counts → Counts) : (s.modCounts f).decoder = { s.decoder with counts := f s.decoder.counts } := rfl
@[simp] theorem State.modCounts_profiles (f : Counts → Counts) : (s.modCounts f).profiles = s.profiles := rfl
@[simp] theorem State.modCounts_patterns (f : Counts → Counts) : (s.modCounts f).patterns = s.patterns := rfl
@[simp] theorem State.modCounts_slots (f : Counts → Counts) : (s.modCounts f).slots = s.slots := rfl
@[simp] theorem State.modCounts_sideband (f : Counts → Counts) : (s.modCounts f).sideband = s.sideband := rfl
@[simp] theorem State.modCounts_timebase (f : Counts → Counts) : (s.modCounts f).timebase = s.timebase := rfl
@[simp] theorem State.modCounts_scanner (f : Counts → Counts) : (s.modCounts f).scanner = s.scanner := rfl
@[simp] theorem State.modCounts_writer (f : Counts → Counts) : (s.modCounts f).writer = s.writer := rfl
@[simp] theorem State.modCounts_attention (f : Counts → Counts) : (s.modCounts f).attention = s.attention := rfl
@[simp] theorem State.modCounts_freeCount (f : Counts → Counts) : (s.modCounts f).freeCount = s.freeCount := rfl
@[simp] theorem State.modCounts_pending (f : Counts → Counts) : (s.modCounts f).pending = s.pending := rfl

/-! ### `State.modWriter` -/

@[simp] theorem State.modWriter_us (f : Writer → Writer) : (s.modWriter f).us = s.us := rfl
@[simp] theorem State.modWriter_prst (f : Writer → Writer) : (s.modWriter f).prst = s.prst := rfl
@[simp] theorem State.modWriter_porst (f : Writer → Writer) : (s.modWriter f).porst = s.porst := rfl
@[simp] theorem State.modWriter_presN (f : Writer → Writer) : (s.modWriter f).presN = s.presN := rfl
@[simp] theorem State.modWriter_energy (f : Writer → Writer) : (s.modWriter f).energy = s.energy := rfl
@[simp] theorem State.modWriter_path (f : Writer → Writer) : (s.modWriter f).path = s.path := rfl
@[simp] theorem State.modWriter_decoder (f : Writer → Writer) : (s.modWriter f).decoder = s.decoder := rfl
@[simp] theorem State.modWriter_profiles (f : Writer → Writer) : (s.modWriter f).profiles = s.profiles := rfl
@[simp] theorem State.modWriter_patterns (f : Writer → Writer) : (s.modWriter f).patterns = s.patterns := rfl
@[simp] theorem State.modWriter_slots (f : Writer → Writer) : (s.modWriter f).slots = s.slots := rfl
@[simp] theorem State.modWriter_sideband (f : Writer → Writer) : (s.modWriter f).sideband = s.sideband := rfl
@[simp] theorem State.modWriter_timebase (f : Writer → Writer) : (s.modWriter f).timebase = s.timebase := rfl
@[simp] theorem State.modWriter_scanner (f : Writer → Writer) : (s.modWriter f).scanner = s.scanner := rfl
@[simp] theorem State.modWriter_writer (f : Writer → Writer) : (s.modWriter f).writer = f s.writer := rfl
@[simp] theorem State.modWriter_attention (f : Writer → Writer) : (s.modWriter f).attention = s.attention := rfl
@[simp] theorem State.modWriter_freeCount (f : Writer → Writer) : (s.modWriter f).freeCount = s.freeCount := rfl
@[simp] theorem State.modWriter_pending (f : Writer → Writer) : (s.modWriter f).pending = s.pending := rfl

/-! ### `State.modAttention` -/

@[simp] theorem State.modAttention_us (f : Attention → Attention) : (s.modAttention f).us = s.us := rfl
@[simp] theorem State.modAttention_prst (f : Attention → Attention) : (s.modAttention f).prst = s.prst := rfl
@[simp] theorem State.modAttention_porst (f : Attention → Attention) : (s.modAttention f).porst = s.porst := rfl
@[simp] theorem State.modAttention_presN (f : Attention → Attention) : (s.modAttention f).presN = s.presN := rfl
@[simp] theorem State.modAttention_energy (f : Attention → Attention) : (s.modAttention f).energy = s.energy := rfl
@[simp] theorem State.modAttention_path (f : Attention → Attention) : (s.modAttention f).path = s.path := rfl
@[simp] theorem State.modAttention_decoder (f : Attention → Attention) : (s.modAttention f).decoder = s.decoder := rfl
@[simp] theorem State.modAttention_profiles (f : Attention → Attention) : (s.modAttention f).profiles = s.profiles := rfl
@[simp] theorem State.modAttention_patterns (f : Attention → Attention) : (s.modAttention f).patterns = s.patterns := rfl
@[simp] theorem State.modAttention_slots (f : Attention → Attention) : (s.modAttention f).slots = s.slots := rfl
@[simp] theorem State.modAttention_sideband (f : Attention → Attention) : (s.modAttention f).sideband = s.sideband := rfl
@[simp] theorem State.modAttention_timebase (f : Attention → Attention) : (s.modAttention f).timebase = s.timebase := rfl
@[simp] theorem State.modAttention_scanner (f : Attention → Attention) : (s.modAttention f).scanner = s.scanner := rfl
@[simp] theorem State.modAttention_writer (f : Attention → Attention) : (s.modAttention f).writer = s.writer := rfl
@[simp] theorem State.modAttention_attention (f : Attention → Attention) : (s.modAttention f).attention = f s.attention := rfl
@[simp] theorem State.modAttention_freeCount (f : Attention → Attention) : (s.modAttention f).freeCount = s.freeCount := rfl
@[simp] theorem State.modAttention_pending (f : Attention → Attention) : (s.modAttention f).pending = s.pending := rfl

/-! ### `State.modPath` -/

@[simp] theorem State.modPath_us (f : Path → Path) : (s.modPath f).us = s.us := rfl
@[simp] theorem State.modPath_prst (f : Path → Path) : (s.modPath f).prst = s.prst := rfl
@[simp] theorem State.modPath_porst (f : Path → Path) : (s.modPath f).porst = s.porst := rfl
@[simp] theorem State.modPath_presN (f : Path → Path) : (s.modPath f).presN = s.presN := rfl
@[simp] theorem State.modPath_energy (f : Path → Path) : (s.modPath f).energy = s.energy := rfl
@[simp] theorem State.modPath_path (f : Path → Path) : (s.modPath f).path = f s.path := rfl
@[simp] theorem State.modPath_decoder (f : Path → Path) : (s.modPath f).decoder = s.decoder := rfl
@[simp] theorem State.modPath_profiles (f : Path → Path) : (s.modPath f).profiles = s.profiles := rfl
@[simp] theorem State.modPath_patterns (f : Path → Path) : (s.modPath f).patterns = s.patterns := rfl
@[simp] theorem State.modPath_slots (f : Path → Path) : (s.modPath f).slots = s.slots := rfl
@[simp] theorem State.modPath_sideband (f : Path → Path) : (s.modPath f).sideband = s.sideband := rfl
@[simp] theorem State.modPath_timebase (f : Path → Path) : (s.modPath f).timebase = s.timebase := rfl
@[simp] theorem State.modPath_scanner (f : Path → Path) : (s.modPath f).scanner = s.scanner := rfl
@[simp] theorem State.modPath_writer (f : Path → Path) : (s.modPath f).writer = s.writer := rfl
@[simp] theorem State.modPath_attention (f : Path → Path) : (s.modPath f).attention = s.attention := rfl
@[simp] theorem State.modPath_freeCount (f : Path → Path) : (s.modPath f).freeCount = s.freeCount := rfl
@[simp] theorem State.modPath_pending (f : Path → Path) : (s.modPath f).pending = s.pending := rfl

/-! ### `State.setStatusPending` -/

@[simp] theorem State.setStatusPending_us (b : Bool) : (s.setStatusPending b).us = s.us := rfl
@[simp] theorem State.setStatusPending_prst (b : Bool) : (s.setStatusPending b).prst = s.prst := rfl
@[simp] theorem State.setStatusPending_porst (b : Bool) : (s.setStatusPending b).porst = s.porst := rfl
@[simp] theorem State.setStatusPending_presN (b : Bool) : (s.setStatusPending b).presN = s.presN := rfl
@[simp] theorem State.setStatusPending_energy (b : Bool) : (s.setStatusPending b).energy = s.energy := rfl
@[simp] theorem State.setStatusPending_path (b : Bool) : (s.setStatusPending b).path = s.path := rfl
@[simp] theorem State.setStatusPending_decoder (b : Bool) : (s.setStatusPending b).decoder = { s.decoder with statusPending := b } := rfl
@[simp] theorem State.setStatusPending_profiles (b : Bool) : (s.setStatusPending b).profiles = s.profiles := rfl
@[simp] theorem State.setStatusPending_patterns (b : Bool) : (s.setStatusPending b).patterns = s.patterns := rfl
@[simp] theorem State.setStatusPending_slots (b : Bool) : (s.setStatusPending b).slots = s.slots := rfl
@[simp] theorem State.setStatusPending_sideband (b : Bool) : (s.setStatusPending b).sideband = s.sideband := rfl
@[simp] theorem State.setStatusPending_timebase (b : Bool) : (s.setStatusPending b).timebase = s.timebase := rfl
@[simp] theorem State.setStatusPending_scanner (b : Bool) : (s.setStatusPending b).scanner = s.scanner := rfl
@[simp] theorem State.setStatusPending_writer (b : Bool) : (s.setStatusPending b).writer = s.writer := rfl
@[simp] theorem State.setStatusPending_attention (b : Bool) : (s.setStatusPending b).attention = s.attention := rfl
@[simp] theorem State.setStatusPending_freeCount (b : Bool) : (s.setStatusPending b).freeCount = s.freeCount := rfl
@[simp] theorem State.setStatusPending_pending (b : Bool) : (s.setStatusPending b).pending = s.pending := rfl

/-! ### `State.withEngine` -/

@[simp] theorem State.withEngine_us (e : Engine) : (s.withEngine e).us = s.us := rfl
@[simp] theorem State.withEngine_prst (e : Engine) : (s.withEngine e).prst = s.prst := rfl
@[simp] theorem State.withEngine_porst (e : Engine) : (s.withEngine e).porst = s.porst := rfl
@[simp] theorem State.withEngine_presN (e : Engine) : (s.withEngine e).presN = s.presN := rfl
@[simp] theorem State.withEngine_energy (e : Engine) : (s.withEngine e).energy = s.energy := rfl
@[simp] theorem State.withEngine_path (e : Engine) : (s.withEngine e).path = s.path := rfl
@[simp] theorem State.withEngine_decoder (e : Engine) : (s.withEngine e).decoder = s.decoder := rfl
@[simp] theorem State.withEngine_profiles (e : Engine) : (s.withEngine e).profiles = s.profiles := rfl
@[simp] theorem State.withEngine_patterns (e : Engine) : (s.withEngine e).patterns = s.patterns := rfl
@[simp] theorem State.withEngine_slots (e : Engine) : (s.withEngine e).slots = s.slots := rfl
@[simp] theorem State.withEngine_sideband (e : Engine) : (s.withEngine e).sideband = { s.sideband with engine := e } := rfl
@[simp] theorem State.withEngine_timebase (e : Engine) : (s.withEngine e).timebase = s.timebase := rfl
@[simp] theorem State.withEngine_scanner (e : Engine) : (s.withEngine e).scanner = s.scanner := rfl
@[simp] theorem State.withEngine_writer (e : Engine) : (s.withEngine e).writer = s.writer := rfl
@[simp] theorem State.withEngine_attention (e : Engine) : (s.withEngine e).attention = s.attention := rfl
@[simp] theorem State.withEngine_freeCount (e : Engine) : (s.withEngine e).freeCount = s.freeCount := rfl
@[simp] theorem State.withEngine_pending (e : Engine) : (s.withEngine e).pending = s.pending := rfl

/-! ### `State.withSbQueue` -/

@[simp] theorem State.withSbQueue_us (q : List SbEntry) : (s.withSbQueue q).us = s.us := rfl
@[simp] theorem State.withSbQueue_prst (q : List SbEntry) : (s.withSbQueue q).prst = s.prst := rfl
@[simp] theorem State.withSbQueue_porst (q : List SbEntry) : (s.withSbQueue q).porst = s.porst := rfl
@[simp] theorem State.withSbQueue_presN (q : List SbEntry) : (s.withSbQueue q).presN = s.presN := rfl
@[simp] theorem State.withSbQueue_energy (q : List SbEntry) : (s.withSbQueue q).energy = s.energy := rfl
@[simp] theorem State.withSbQueue_path (q : List SbEntry) : (s.withSbQueue q).path = s.path := rfl
@[simp] theorem State.withSbQueue_decoder (q : List SbEntry) : (s.withSbQueue q).decoder = s.decoder := rfl
@[simp] theorem State.withSbQueue_profiles (q : List SbEntry) : (s.withSbQueue q).profiles = s.profiles := rfl
@[simp] theorem State.withSbQueue_patterns (q : List SbEntry) : (s.withSbQueue q).patterns = s.patterns := rfl
@[simp] theorem State.withSbQueue_slots (q : List SbEntry) : (s.withSbQueue q).slots = s.slots := rfl
@[simp] theorem State.withSbQueue_sideband (q : List SbEntry) : (s.withSbQueue q).sideband = { s.sideband with queue := q } := rfl
@[simp] theorem State.withSbQueue_timebase (q : List SbEntry) : (s.withSbQueue q).timebase = s.timebase := rfl
@[simp] theorem State.withSbQueue_scanner (q : List SbEntry) : (s.withSbQueue q).scanner = s.scanner := rfl
@[simp] theorem State.withSbQueue_writer (q : List SbEntry) : (s.withSbQueue q).writer = s.writer := rfl
@[simp] theorem State.withSbQueue_attention (q : List SbEntry) : (s.withSbQueue q).attention = s.attention := rfl
@[simp] theorem State.withSbQueue_freeCount (q : List SbEntry) : (s.withSbQueue q).freeCount = s.freeCount := rfl
@[simp] theorem State.withSbQueue_pending (q : List SbEntry) : (s.withSbQueue q).pending = s.pending := rfl

/-! ### Reading a slot -/

@[simp] theorem State.withSlot_slot (i j : SlotId) (x : Slot) :
    (s.withSlot i x).slot j = if j = i then x else s.slot j := by
  unfold State.slot State.withSlot
  by_cases h : j = i
  · subst h; simp
  · have h' : i.val ≠ j.val := fun e => h (Fin.ext e.symm)
    simp [h, Vector.getElem_set_ne, h']

@[simp] theorem State.modSlot_slot (i j : SlotId) (f : Slot → Slot) :
    (s.modSlot i f).slot j = if j = i then f (s.slot i) else s.slot j := by
  simp [State.modSlot]

@[simp] theorem State.modPattern_slot (n : Fin 4) (f : Pattern → Pattern) (j : SlotId) : (s.modPattern n f).slot j = s.slot j := rfl
@[simp] theorem State.modCounts_slot (f : Counts → Counts) (j : SlotId) : (s.modCounts f).slot j = s.slot j := rfl
@[simp] theorem State.modWriter_slot (f : Writer → Writer) (j : SlotId) : (s.modWriter f).slot j = s.slot j := rfl
@[simp] theorem State.modAttention_slot (f : Attention → Attention) (j : SlotId) : (s.modAttention f).slot j = s.slot j := rfl
@[simp] theorem State.modPath_slot (f : Path → Path) (j : SlotId) : (s.modPath f).slot j = s.slot j := rfl
@[simp] theorem State.setStatusPending_slot (b : Bool) (j : SlotId) : (s.setStatusPending b).slot j = s.slot j := rfl
@[simp] theorem State.withEngine_slot (e : Engine) (j : SlotId) : (s.withEngine e).slot j = s.slot j := rfl
@[simp] theorem State.withSbQueue_slot (q : List SbEntry) (j : SlotId) : (s.withSbQueue q).slot j = s.slot j := rfl

/-! ### Reading a lane -/

@[simp] theorem Slot.withLane_lane (sl : Slot) (l m : LaneId) (x : Lane) :
    (sl.withLane l x).lane m = if m = l then x else sl.lane m := by
  unfold Slot.lane Slot.withLane
  by_cases h : m = l
  · subst h; simp
  · have h' : l.val ≠ m.val := fun e => h (Fin.ext e.symm)
    simp [h, Vector.getElem_set_ne, h']

@[simp] theorem byLane_getElem {α : Type} (f : LaneId → α) (l : LaneId) :
    (byLane f)[l.val] = f l := by
  fin_cases l <;> rfl


end Sys2Proof.Machine
end

