-- ==== Sys2Proof/Laws/Entries.lean ====
section
/-! SUPPORT. What the transitions of a slot can change: for each shared operation of chapters 4 to 9 one
lemma, that it changes nothing outside the slots, the patterns, the Sideband Controller and the Margin
Scanner. -/

namespace Sys2Proof.Safety

open Sys2Proof Sys2Proof.Machine

theorem SameOutsideTest.refl (s : State) : SameOutsideTest s s := rfl

theorem SameOutsideTest.trans {s t u : State} (h : SameOutsideTest s t) (h' : SameOutsideTest t u) :
    SameOutsideTest s u := by
  unfold SameOutsideTest at *
  refine h'.trans ?_
  rw [h]

/-- A fold of operations that each keep the rest keeps it. -/
theorem SameOutsideTest.fold {α : Type} {f : State → α → State}
    (h : ∀ s a, SameOutsideTest s (f s a)) (xs : List α) (s : State) :
    SameOutsideTest s (xs.foldl f s) := by
  induction xs generalizing s with
  | nil => exact .refl s
  | cons a xs ih => exact (h s a).trans (ih (f s a))

end Sys2Proof.Safety

namespace Sys2Proof.Machine

open Sys2Proof Sys2Proof.Safety

theorem modSlot_test (i : SlotId) (f : Slot → Slot) (s : State) : SameOutsideTest s (s.modSlot i f) :=
  rfl

theorem withSlot_test (i : SlotId) (x : Slot) (s : State) : SameOutsideTest s (s.withSlot i x) := rfl

theorem modPattern_test (n : Fin 4) (f : Pattern → Pattern) (s : State) :
    SameOutsideTest s (s.modPattern n f) := rfl

theorem withEngine_test (e : Engine) (s : State) : SameOutsideTest s (s.withEngine e) := rfl

theorem withSbQueue_test (q : List SbEntry) (s : State) : SameOutsideTest s (s.withSbQueue q) := rfl

theorem withScanner_test (x : Scanner) (s : State) : SameOutsideTest s { s with scanner := x } := rfl

theorem withFreeCount_test (n : Nat) (s : State) : SameOutsideTest s { s with freeCount := n } := rfl

theorem takeClaim_test (i : SlotId) (s : State) : SameOutsideTest s (takeClaim i s) := by
  unfold takeClaim; split <;> rfl

theorem releaseClaim_test (i : SlotId) (s : State) : SameOutsideTest s (releaseClaim i s) := by
  unfold releaseClaim; split <;> rfl

theorem restartPresence_test (i : SlotId) (s : State) : SameOutsideTest s (restartPresence i s) := rfl

/-! ### The Sideband Controller -/

theorem beginTxn_test (t : Txn) (s : State) : SameOutsideTest s (beginTxn t s) := rfl

theorem serve_test (s : State) : SameOutsideTest s (serve s) := by
  unfold serve
  split
  · exact .refl s
  · split <;> rfl

theorem engineFree_test (s : State) : SameOutsideTest s (engineFree s) :=
  (withEngine_test _ s).trans (serve_test _)

theorem dropService_test (s : State) : SameOutsideTest s (dropService s) := by
  unfold dropService
  split <;> first | rfl | exact engineFree_test s

theorem withdrawDiscovery_test (i : SlotId) (s : State) : SameOutsideTest s (withdrawDiscovery i s) := by
  simp only [withdrawDiscovery]
  split
  · exact (withSbQueue_test _ s).trans (dropService_test _)
  · exact withSbQueue_test _ s

theorem sidebandPortReset_test (s : State) : SameOutsideTest s (sidebandPortReset s) := by
  simp only [sidebandPortReset]
  split
  · exact (withSbQueue_test _ s).trans (dropService_test _)
  · exact withSbQueue_test _ s

theorem sbJoin_test (e : SbEntry) (s : State) : SameOutsideTest s (sbJoin e s) :=
  (withSbQueue_test _ s).trans (serve_test _)

/-! ### The sweep -/

theorem verdictCore_test (i : SlotId) (s : State) : SameOutsideTest s (verdictCore i s) :=
  (modSlot_test i _ s).trans (releaseClaim_test i _)

theorem takeSteps_test (i : SlotId) (p : Nat) (steps : Vector StepState 4) (s : State) :
    SameOutsideTest s (takeSteps i p steps s) := rfl

theorem sweepStart_test (i : SlotId) (s : State) : SameOutsideTest s (sweepStart i s) := rfl

theorem sweepNext_test (s : State) : SameOutsideTest s (sweepNext s) := by
  unfold sweepNext; split <;> rfl

theorem sweepAdvance_test (i : SlotId) (sw : Sweep) (s : State) :
    SameOutsideTest s (sweepAdvance i sw s) := rfl

theorem sweepComplete_test (i : SlotId) (s : State) : SameOutsideTest s (sweepComplete i s) :=
  (((modSlot_test i _ s).trans (withScanner_test _ _)).trans (verdictCore_test i _)).trans
    (sweepNext_test _)

theorem sweepRun_test (n : Nat) (s : State) : SameOutsideTest s (sweepRun n s) := by
  induction n generalizing s with
  | zero => exact .refl s
  | succ n ih =>
    unfold sweepRun
    split
    · split
      · exact .refl s
      · split
        · exact (sweepAdvance_test _ _ s).trans (ih _)
        · exact (sweepComplete_test _ s).trans (ih _)
    · exact .refl s

theorem sweepSettle_test (s : State) : SameOutsideTest s (sweepSettle s) := sweepRun_test _ s

theorem withdrawScan_test (i : SlotId) (s : State) : SameOutsideTest s (withdrawScan i s) := by
  simp only [withdrawScan]
  split
  · have h := (modSlot_test i (fun sl => { sl with scan := .empty }) s).trans
      (withScanner_test { s.scanner with queue := s.scanner.queue.filter (· ≠ i) } _)
    split
    · exact h.trans (sweepNext_test _)
    · exact h
  · exact .refl s

/-! ### Entries -/

theorem toVerdict_test (i : SlotId) (s : State) : SameOutsideTest s (toVerdict i s) :=
  ((verdictCore_test i s).trans (withdrawDiscovery_test i _)).trans (withdrawScan_test i _)

theorem toWatch_test (i : SlotId) (s : State) : SameOutsideTest s (toWatch i s) :=
  ((modSlot_test i _ s).trans (withdrawDiscovery_test i _)).trans (withdrawScan_test i _)

theorem toSettle_test (i : SlotId) (s : State) : SameOutsideTest s (toSettle i s) := rfl

theorem toScan_test (i : SlotId) (s : State) : SameOutsideTest s (toScan i s) := by
  simp only [toScan]
  have h := (modSlot_test i (fun sl =>
      { sl with state := .scan, stateTimer := none, scan := .empty }) s).trans
    (withScanner_test { s.scanner with queue := s.scanner.queue ++ [i] } _)
  split
  · exact (h.trans (sweepNext_test _)).trans (sweepSettle_test _)
  · exact h

theorem toSoak_test (i : SlotId) (s : State) : SameOutsideTest s (toSoak i s) := rfl

theorem endTraining_test (i : SlotId) (s : State) : SameOutsideTest s (endTraining i s) := by
  simp only [endTraining]
  split
  · exact (withSlot_test i _ s).trans (toVerdict_test i _)
  · split
    · exact (withSlot_test i _ s).trans (toVerdict_test i _)
    · exact (withSlot_test i _ s).trans (toSoak_test i _)

theorem toTrain_test (i : SlotId) (s : State) : SameOutsideTest s (toTrain i s) := by
  simp only [toTrain]
  split
  · exact (modSlot_test i _ s).trans (endTraining_test i _)
  · exact modSlot_test i _ s

theorem endSoak_test (i : SlotId) (b : Bool) (s : State) : SameOutsideTest s (endSoak i b s) := by
  simp only [endSoak]
  have h := modSlot_test i (fun sl => { sl with findings := addFindings sl.findings (judgeFindings sl) }) s
  split
  · exact h.trans (toVerdict_test i _)
  · split
    · exact h.trans (toScan_test i _)
    · split
      · exact h.trans (toVerdict_test i _)
      · exact h.trans (toScan_test i _)
    · exact h.trans (toVerdict_test i _)

theorem slotCheckpoint_test (i : SlotId) (s : State) : SameOutsideTest s (slotCheckpoint i s) := by
  simp only [slotCheckpoint]
  split
  · exact .refl s
  · split
    · exact (withSlot_test i _ s).trans (endSoak_test i _ _)
    · split
      · exact (withSlot_test i _ s).trans (endSoak_test i _ _)
      · exact withSlot_test i _ s

theorem checkpointAll_test (s : State) : SameOutsideTest s (checkpointAll s) :=
  (withFreeCount_test _ s).trans (.fold (fun s i => slotCheckpoint_test i s) _ _)

end Sys2Proof.Machine
end

