-- ==== Sys2Proof/Laws/Flags.lean ====
section
/-! SUPPORT. Saturating counts and the findings list: what an addition keeps. -/

namespace Sys2Proof.Machine

open Sys2Proof Sys2Proof.Safety

theorem satAdd_le (max n v : Nat) : satAdd max n v ≤ max := min_le_right _ _

theorem bump_le (v : Nat) : bump v ≤ max32 := satAdd_le _ _ _

theorem bump_eq {v : Nat} (h : v < max32) : bump v = v + 1 := by unfold bump satAdd; omega

theorem findingsOk_nil : findingsOk [] := by simp [findingsOk]

theorem endsTruncated_append (fs : List Finding) (f : Finding) :
    endsTruncated (fs ++ [f]) = decide (f.code = .truncated) := by simp [endsTruncated]

/-- In a sound list that does not end in TRUNCATED no entry is TRUNCATED. -/
theorem no_truncated {fs : List Finding} (ok : findingsOk fs) (h : endsTruncated fs = false) :
    ∀ f ∈ fs, f.code ≠ .truncated := by
  intro f hf
  rcases List.eq_nil_or_concat fs with e | ⟨init, last, e⟩
  · simp [e] at hf
  · subst e
    rw [List.concat_eq_append] at *
    rw [endsTruncated_append] at h
    simp only [decide_eq_false_iff_not] at h
    rcases List.mem_append.1 hf with hf | hf
    · exact ok.2.2.2 f (by simpa using hf)
    · simp at hf; subst hf; exact h

theorem sameFinding_false {fs : List Finding} {f : Finding} (h : sameFinding fs f = false) :
    (f.code, f.lane) ∉ fs.map fun g => (g.code, g.lane) := by
  intro hm
  obtain ⟨g, hg, e⟩ := List.mem_map.1 hm
  have := List.any_eq_false.1 h g hg
  simp_all

/-- R160: an addition keeps a findings list sound. -/
theorem findingsOk_addFinding {fs : List Finding} (ok : findingsOk fs) (f : Finding) :
    findingsOk (addFinding fs f) := by
  unfold addFinding
  split
  · exact ok
  · rename_i h
    simp only [Bool.not_eq_true] at h
    have plain := no_truncated ok h
    split
    · exact ok
    · rename_i hs
      simp only [Bool.not_eq_true] at hs
      have short : fs.length ≤ 15 := by
        have := ok.2.1
        have := ok.1
        by_contra hl
        have e : fs.length = 16 := by omega
        simp_all
      have distinct : ∀ g : Finding, (g.code, g.lane) ∉ (fs.map fun g => (g.code, g.lane)) →
          ((fs ++ [g]).map fun g => (g.code, g.lane)).Nodup := by
        intro g hg
        rw [List.map_append, List.nodup_append]
        refine ⟨ok.2.2.1, by simp, ?_⟩
        intro a ha b hb e
        simp at hb
        subst hb
        exact hg (e ▸ ha)
      split
      · refine ⟨by simp; omega, fun _ => by simp [endsTruncated_append], distinct _ ?_, ?_⟩
        · intro hm
          obtain ⟨g, hg, e⟩ := List.mem_map.1 hm
          exact plain g hg (by simpa using congrArg Prod.fst e)
        · simpa using plain
      · refine ⟨by simp; omega, fun hl => by simp at hl; omega,
          distinct _ (sameFinding_false hs), by simpa using plain⟩

/-- R160: additions one after another keep a findings list sound. -/
theorem findingsOk_addFindings {fs : List Finding} (ok : findingsOk fs) (more : List Finding) :
    findingsOk (addFindings fs more) := by
  induction more generalizing fs with
  | nil => exact ok
  | cons f more ih => exact ih (findingsOk_addFinding ok f)

end Sys2Proof.Machine
end

