-- ==== Sys2Proof/Laws/Memory.lean ====
section
/-! SUPPORT. The byte stores of the Pattern Store: reading after writing, and the canonical form kept by
every operation. -/

namespace Sys2Proof.Machine

open Sys2Proof

/-- The canonical form of a store with a first entry. -/
theorem Memory.wfFrom_cons (lo a : Nat) (b : Byte) (m : Memory) :
    Memory.wfFrom lo ((a, b) :: m) = true ↔ lo ≤ a ∧ b ≠ 0#8 ∧ Memory.wfFrom (a + 1) m = true := by
  simp [Memory.wfFrom, and_assoc]

theorem Memory.wfFrom_mono {m : Memory} {lo hi : Nat} (h : lo ≤ hi) (w : Memory.wfFrom hi m = true) :
    Memory.wfFrom lo m = true := by
  cases m with
  | nil => rfl
  | cons p m =>
    rw [Memory.wfFrom_cons] at w ⊢
    exact ⟨h.trans w.1, w.2⟩

/-- Nothing is listed below where the list may begin. -/
theorem Memory.read_below {m : Memory} {lo x : Nat} (w : Memory.wfFrom lo m = true) (h : x < lo) :
    Memory.read m x = 0#8 := by
  induction m generalizing lo with
  | nil => rfl
  | cons p m ih =>
    obtain ⟨a, b⟩ := p
    rw [Memory.wfFrom_cons] at w
    have : a ≠ x := by omega
    simpa [Memory.read, this] using ih w.2.2 (by omega)

/-- Reading after a write: the byte written at its address, and the old byte at every other one. -/
theorem Memory.read_write {m : Memory} {lo : Nat} (w : Memory.wfFrom lo m = true) (x y : Nat) (v : Byte) :
    Memory.read (Memory.write m x v) y = if y = x then v else Memory.read m y := by
  induction m generalizing lo with
  | nil =>
    by_cases hy : y = x
    · subst hy; by_cases hv : v = 0#8 <;> simp [Memory.write, Memory.read, hv]
    · have : x ≠ y := fun e => hy e.symm
      by_cases hv : v = 0#8 <;> simp [Memory.write, Memory.read, hv, hy, this]
  | cons p m ih =>
    obtain ⟨a, b⟩ := p
    rw [Memory.wfFrom_cons] at w
    rcases lt_trichotomy x a with h | h | h
    · have z := Memory.read_below w.2.2 (show x < a + 1 by omega)
      have hax : a ≠ x := by omega
      by_cases hy : y = x
      · subst hy; by_cases hv : v = 0#8 <;> simp [Memory.write, Memory.read, h, hv, hax, z]
      · have : x ≠ y := fun e => hy e.symm
        by_cases hv : v = 0#8 <;> simp [Memory.write, Memory.read, h, hv, hy, this]
    · subst h
      have z := Memory.read_below w.2.2 (show x < x + 1 by omega)
      by_cases hy : y = x
      · subst hy; by_cases hv : v = 0#8 <;> simp [Memory.write, Memory.read, hv, z]
      · have : x ≠ y := fun e => hy e.symm
        by_cases hv : v = 0#8 <;> simp [Memory.write, Memory.read, hv, hy, this]
    · have h1 : ¬ x < a := by omega
      have h2 : x ≠ a := by omega
      by_cases hy : a = y
      · subst hy; simp [Memory.write, Memory.read, h1, h2, h2.symm]
      · simp [Memory.write, Memory.read, h1, h2, hy, ih w.2.2]

/-- A write keeps the canonical form. -/
theorem Memory.wfFrom_write {m : Memory} {lo : Nat} (w : Memory.wfFrom lo m = true) {x : Nat} (v : Byte)
    (h : lo ≤ x) : Memory.wfFrom lo (Memory.write m x v) = true := by
  induction m generalizing lo with
  | nil =>
    by_cases hv : v = 0#8
    · simp [Memory.write, Memory.wfFrom, hv]
    · simp [Memory.write, Memory.wfFrom, hv, h]
  | cons p m ih =>
    obtain ⟨a, b⟩ := p
    have w' := w
    rw [Memory.wfFrom_cons] at w'
    obtain ⟨hlo, hb, wm⟩ := w'
    rcases lt_trichotomy x a with hx | hx | hx
    · by_cases hv : v = 0#8
      · simpa [Memory.write, hx, hv] using w
      · have e : Memory.write ((a, b) :: m) x v = (x, v) :: (a, b) :: m := by
          simp [Memory.write, hx, hv]
        rw [e, Memory.wfFrom_cons, Memory.wfFrom_cons]
        exact ⟨h, hv, hx, hb, wm⟩
    · subst hx
      by_cases hv : v = 0#8
      · simpa [Memory.write, hv] using Memory.wfFrom_mono (by omega) wm
      · have e : Memory.write ((x, b) :: m) x v = (x, v) :: m := by simp [Memory.write, hv]
        rw [e, Memory.wfFrom_cons]
        exact ⟨h, hv, wm⟩
    · have h1 : ¬ x < a := by omega
      have h2 : x ≠ a := by omega
      have e : Memory.write ((a, b) :: m) x v = (a, b) :: Memory.write m x v := by
        simp [Memory.write, h1, h2]
      rw [e, Memory.wfFrom_cons]
      exact ⟨hlo, hb, ih wm hx⟩

theorem Memory.wf_write {m : Memory} (w : Memory.wf m = true) (x : Nat) (v : Byte) :
    Memory.wf (Memory.write m x v) = true :=
  Memory.wfFrom_write w v (Nat.zero_le x)

/-- Writes one after another keep the canonical form. -/
theorem Memory.wf_writes {m : Memory} (w : Memory.wf m = true) (bytes : List (Nat × Byte)) :
    Memory.wf (Memory.writes m bytes) = true := by
  induction bytes generalizing m with
  | nil => exact w
  | cons p bytes ih => exact ih (Memory.wf_write w p.1 p.2)

/-- Reading after writes at other addresses gives what reading before gave. -/
theorem Memory.read_writes_of_not_mem {m : Memory} (w : Memory.wf m = true) {bytes : List (Nat × Byte)}
    {a : Nat} (h : ∀ p ∈ bytes, p.1 ≠ a) : Memory.read (Memory.writes m bytes) a = Memory.read m a := by
  induction bytes generalizing m with
  | nil => rfl
  | cons p bytes ih =>
    have hp : a ≠ p.1 := fun e => h p (by simp) e.symm
    have := ih (Memory.wf_write w p.1 p.2) fun q hq => h q (by simp [hq])
    simpa [Memory.writes, Memory.read_write w, hp] using this

/-- Reading an address that is written once gives the byte written. -/
theorem Memory.read_writes_of_mem {m : Memory} (w : Memory.wf m = true) {bytes : List (Nat × Byte)}
    (d : (bytes.map Prod.fst).Nodup) {p : Nat × Byte} (h : p ∈ bytes) :
    Memory.read (Memory.writes m bytes) p.1 = p.2 := by
  induction bytes generalizing m with
  | nil => simp at h
  | cons q bytes ih =>
    simp only [List.map_cons, List.nodup_cons] at d
    rcases List.mem_cons.1 h with e | e
    · subst e
      have away : ∀ r ∈ bytes, r.1 ≠ p.1 := fun r hr e =>
        d.1 (e ▸ List.mem_map_of_mem (f := Prod.fst) hr)
      have := Memory.read_writes_of_not_mem (Memory.wf_write w p.1 p.2) away
      simpa [Memory.writes, Memory.read_write w] using this
    · simpa [Memory.writes] using ih (Memory.wf_write w q.1 q.2) d.2 e

theorem Memory.wf_empty : Memory.wf [] = true := rfl

end Sys2Proof.Machine
end

