-- ==== Sys2Proof/Laws/Ring.lean ====
section
/-! SUPPORT. What the end of an event can change (`settle`), what a record's write start, publication and
failure can change, and what the consumption of records leaves. -/

namespace Sys2Proof.Safety

open Sys2Proof Sys2Proof.Machine

theorem SameButSettled.refl (s : State) : SameButSettled s s := rfl

theorem SameButSettled.trans {s t u : State} (h : SameButSettled s t) (h' : SameButSettled t u) :
    SameButSettled s u := by
  unfold SameButSettled at *
  refine h'.trans ?_
  rw [h]

end Sys2Proof.Safety

namespace Sys2Proof.Machine

open Sys2Proof Sys2Proof.Safety

/-! ### The end of an event (R165, R174) -/

theorem select_settled (s : State) : SameButSettled s (select s) := by
  unfold select
  split
  · split <;> rfl
  · rfl

theorem dropStale_settled (s : State) : SameButSettled s (dropStale s) := by
  unfold dropStale
  split
  · rfl
  · split <;> rfl

theorem evaluate_settled (s : State) : SameButSettled s (evaluate s) := by
  unfold evaluate
  split
  · rfl
  · split <;> rfl

/-- The end of an event changes only the selection, and the condition, count and waiting word. -/
theorem settle_settled (s : State) : SameButSettled s (settle s) :=
  ((dropStale_settled s).trans (select_settled _)).trans (evaluate_settled _)

section
variable (s : State)

@[simp] theorem settle_us : (settle s).us = s.us := by rw [settle_settled s]
@[simp] theorem settle_prst : (settle s).prst = s.prst := by rw [settle_settled s]
@[simp] theorem settle_porst : (settle s).porst = s.porst := by rw [settle_settled s]
@[simp] theorem settle_presN : (settle s).presN = s.presN := by rw [settle_settled s]
@[simp] theorem settle_energy : (settle s).energy = s.energy := by rw [settle_settled s]
@[simp] theorem settle_path : (settle s).path = s.path := by rw [settle_settled s]
@[simp] theorem settle_decoder : (settle s).decoder = s.decoder := by rw [settle_settled s]
@[simp] theorem settle_profiles : (settle s).profiles = s.profiles := by rw [settle_settled s]
@[simp] theorem settle_patterns : (settle s).patterns = s.patterns := by rw [settle_settled s]
@[simp] theorem settle_slots : (settle s).slots = s.slots := by rw [settle_settled s]
@[simp] theorem settle_sideband : (settle s).sideband = s.sideband := by rw [settle_settled s]
@[simp] theorem settle_timebase : (settle s).timebase = s.timebase := by rw [settle_settled s]
@[simp] theorem settle_scanner : (settle s).scanner = s.scanner := by rw [settle_settled s]
@[simp] theorem settle_freeCount : (settle s).freeCount = s.freeCount := by rw [settle_settled s]
@[simp] theorem settle_pending : (settle s).pending = s.pending := by rw [settle_settled s]
@[simp] theorem settle_slot (i : SlotId) : (settle s).slot i = s.slot i := by simp [State.slot]

end

/-! ### Consumption (R172) -/

/-- What remains of a list after a consumption is its end after the consumed entries. -/
theorem consumeList_eq_dropWhile (covered : Published → Bool) (ps : List Published) :
    consumeList covered ps = ps.dropWhile covered := by
  induction ps with
  | nil => rfl
  | cons p ps ih =>
    by_cases h : covered p <;> simp [consumeList, h, ih]

/-- The bytes consumed are those of the entries taken from the list's front. -/
theorem consumedBytes_eq_sum (covered : Published → Bool) (ps : List Published) :
    consumedBytes covered ps = ((ps.takeWhile covered).map Published.length).sum := by
  induction ps with
  | nil => rfl
  | cons p ps ih =>
    by_cases h : covered p <;> simp [consumedBytes, h, ih]

/-- The lengths listed are those consumed and those that remain. -/
theorem consumed_add_rest (covered : Published → Bool) (ps : List Published) :
    consumedBytes covered ps + ((consumeList covered ps).map Published.length).sum =
      (ps.map Published.length).sum := by
  induction ps with
  | nil => rfl
  | cons p ps ih =>
    by_cases h : covered p
    · simp [consumedBytes, consumeList, h, ← ih, Nat.add_assoc]
    · simp [consumedBytes, consumeList, h]

end Sys2Proof.Machine
end

