-- ==== Sys2Proof/Laws/Sideband.lean ====
section
/-! SUPPORT. What the shared operations of the Sideband Controller do: the engine passing on, the end of a
transaction, and what stands on a line. -/

namespace Sys2Proof.Machine

open Sys2Proof Sys2Proof.Safety

/-- R108: the engine becomes free: it passes on to the oldest entry of the queue. -/
theorem engineFree_eq (s : State) :
    engineFree s =
      { s with sideband := ⟨s.sideband.queue, enginePasses s s.sideband.queue⟩ } := by
  rcases hq : s.sideband.queue with _ | ⟨e, rest⟩
  · simp [engineFree, serve, State.withEngine, hq, Engine.toIdle, enginePasses]
  · cases e with
    | discovery i =>
      simp [engineFree, serve, State.withEngine, hq, Engine.toIdle, enginePasses, beginTxn,
        Txn.readStart, lineSpeed, trySpeed]
      rfl
    | host e =>
      simp [engineFree, serve, State.withEngine, hq, Engine.toIdle, enginePasses, beginTxn, lineSpeed,
        trySpeed, HostEntry.txn]
      cases e.direction <;> simp <;> rfl

/-- R108: the head leaves the queue and the engine passes on. -/
theorem headEnds_eq (s : State) :
    headEnds s =
      { s with sideband := ⟨s.sideband.queue.tail, enginePasses s s.sideband.queue.tail⟩ } := by
  unfold headEnds
  rw [engineFree_eq]
  rfl

/-- The engine passes on as before, whatever its record of the last line is: that record stays. -/
theorem enginePasses_line (s : State) (line : Option LineUse) (q q' : List SbEntry) :
    enginePasses { s with sideband := ⟨q', { s.sideband.engine with line := line }⟩ } q =
      { enginePasses s q with line := line } := by
  rcases q with _ | ⟨e, rest⟩
  · rfl
  · cases e <;> rfl

/-- R103, R105: a try that ends its transaction, as `exec` has it: the record of its line is set and the
transaction ends with the result. -/
theorem execTryEnd_of_endsTxn (s : State) (r : TryResult) (result : TxnResult)
    (hp : s.sideband.engine.phase = .try) (ha : s.sideband.engine.abandoned = false)
    (h : endsTxn s.sideband.engine.txn s.sideband.engine.tries r result) :
    exec (.tryEnd r) s =
      .next (settle (txnEnd result (lineUsed (s.sideband.engine.txn.sent r) s))) := by
  rcases h with ⟨bytes, rfl, rfl⟩ | ⟨byte, rfl, hd, ht, rfl⟩ | ⟨a, rfl, hd, hl, rfl⟩
  · simp only [exec, execTryEnd, hp, resultPossible, and_self, if_true, tryResult]
    cases hd : s.sideband.engine.txn.direction <;>
      simp [bytesRead, lineUsed, State.withEngine, hd]
  · have possible : resultPossible s.sideband.engine.txn (.addressNak byte) = true := by
      rcases hd with hd | hd <;> simp [resultPossible, hd]
    simp [exec, execTryEnd, hp, possible, tryResult, tryFailed, lineUsed, State.withEngine, ha,
      show ¬ s.sideband.engine.tries < 3 by omega]
  · simp [exec, execTryEnd, hp, resultPossible, hd, hl, tryResult]

/-- The wires after two runs of moves. -/
@[simp] theorem Wires.after_append (w : Wires) (a b : List LineMove) :
    w.after (a ++ b) = (w.after a).after b := by simp [Wires.after]

/-- R102: a STOP leaves both wires released, whatever they were. -/
@[simp] theorem Wires.after_stop (w : Wires) : w.after LineItem.stop.moves = .idle := rfl

/-- R102: a START leaves both wires low. -/
@[simp] theorem Wires.after_start (w : Wires) : w.after LineItem.start.moves = ⟨.low, .low⟩ := rfl

/-! ### The join of the waiting writes (R10) -/

theorem exec_insertJoin (s : State) : exec .insertJoin s = .next (joinNext s) := rfl

/-- A join changes the path, the decoder, the writer and the attention unit, and nothing else. -/
theorem joinNext_frame (s : State) : joinNext s = { s with
    path := (joinNext s).path, decoder := (joinNext s).decoder
    writer := (joinNext s).writer, attention := (joinNext s).attention } := by
  unfold joinNext
  split
  · rename_i k prod w _ _
    cases prod <;> rfl
  · rfl

/-- What the joins of an end of a host entry leave as it is. -/
theorem joinUntilAnswered_frame (n : BlockId) (k : Nat) (s : State) :
    joinUntilAnswered n k s = { s with
      path := (joinUntilAnswered n k s).path, decoder := (joinUntilAnswered n k s).decoder
      writer := (joinUntilAnswered n k s).writer, attention := (joinUntilAnswered n k s).attention } := by
  induction k generalizing s with
  | zero => rfl
  | succ k ih =>
    unfold joinUntilAnswered
    split
    · exact (ih (joinNext s)).trans (by rw [joinNext_frame s])
    · rfl

end Sys2Proof.Machine
end

