-- ==== Sys2Proof/Laws/Sweep.lean ====
section
/-! SUPPORT. The sweep within one event: the bound of `sweepSettle` is never reached, so one more advance or
completion changes nothing. -/

namespace Sys2Proof.Machine

open Sys2Proof

/-- How many advances and completions a sweep in progress and the slots behind it can still hold. -/
def sweepLeft (s : State) : Nat :=
  match s.scanner.queue, s.scanner.sweep with
  | _ :: rest, some sw => max 1 (32 - sw.position) + 32 * rest.length
  | _, _ => 0

theorem sweepAdvance_queue (i : SlotId) (sw : Sweep) (s : State) :
    (sweepAdvance i sw s).scanner.queue = s.scanner.queue := rfl

theorem sweepAdvance_sweep (i : SlotId) (sw : Sweep) (s : State) :
    ∃ steps, (sweepAdvance i sw s).scanner.sweep = some ⟨sw.position + 1, steps⟩ := ⟨_, rfl⟩

theorem releaseClaim_scanner (i : SlotId) (s : State) : (releaseClaim i s).scanner = s.scanner := by
  unfold releaseClaim
  split <;> rfl

theorem verdictCore_scanner (i : SlotId) (s : State) : (verdictCore i s).scanner = s.scanner := by
  unfold verdictCore
  rw [releaseClaim_scanner]
  rfl

theorem sweepNext_left (s : State) : sweepLeft (sweepNext s) ≤ 32 * s.scanner.queue.length := by
  unfold sweepNext
  rcases hq : s.scanner.queue with _ | ⟨i, rest⟩
  · simp [sweepLeft, hq]
  · have : (sweepStart i s).scanner.queue = i :: rest := hq
    simp only [sweepLeft, this, List.length_cons]
    split
    · rename_i h h' ; obtain ⟨rfl, rfl⟩ := List.cons.inj h
      have hp : (sweepStart i s).scanner.sweep.map Sweep.position = some 0 := rfl
      rw [h'] at hp
      obtain hp : _ = 0 := by simpa using hp
      simp only [hp]
      omega
    · omega

theorem sweepComplete_left (i j : SlotId) (rest : List SlotId) (s : State)
    (h : s.scanner.queue = j :: rest) : sweepLeft (sweepComplete i s) ≤ 32 * rest.length := by
  unfold sweepComplete
  refine Nat.le_trans (sweepNext_left _) ?_
  rw [verdictCore_scanner]
  simp [h]

/-- A run of the sweep that is long enough does no more with one step more. -/
theorem sweepRun_succ (n : Nat) (s : State) (h : sweepLeft s ≤ n) : sweepRun n s = sweepRun (n + 1) s := by
  induction n generalizing s with
  | zero =>
    unfold sweepRun
    split
    · rename_i i rest sw hq hs
      simp only [sweepLeft, hq, hs] at h
      omega
    · rfl
  | succ n ih =>
    conv_lhs => unfold sweepRun
    conv_rhs => unfold sweepRun
    split
    · rename_i i rest sw hq hs
      simp only [sweepLeft, hq, hs] at h
      split
      · rfl
      · split
        · apply ih
          obtain ⟨steps, hst⟩ := sweepAdvance_sweep i sw s
          simp only [sweepLeft, sweepAdvance_queue, hq, hst]
          omega
        · exact ih _ (Nat.le_trans (sweepComplete_left i i rest s hq) (by omega))
    · rfl

end Sys2Proof.Machine
end

