-- ==== Sys2Proof/Tests/Slice0.lean ====
section
/-! SUPPORT. Tests: ill-formed commands that `Instr.wf` refuses, command blocks and headers written out from
the formats of the manual, its worked figures, one step of each family of commands, and for each statement
with hypotheses a state and operands that meet them. -/

namespace Sys2Proof.Tests

-- Each proof is checked in its turn: on a thread each they need more memory than a check may have.
set_option Elab.async false

open Sys2Proof Sys2Proof.Machine Sys2Proof.Safety

/-! ### Well-formedness -/

/-- A 16-byte READ of address 0x1000. -/
def read16 : Request := ⟨.read, 0x1000, 1, 5, [], []⟩

/-- A 64-byte WRITE, all enables set, of command block 1 of a window at 0. -/
def write64 (data : List Byte) : Request := ⟨.write, 64, 4, 9, data, List.replicate 64 true⟩

theorem test_wf_accepts : (Instr.requestAccept read16).wf = true ∧
    (Instr.requestAccept (write64 (zeroBytes 64))).wf = true := by decide +kernel

theorem test_wf_refuses_unaligned : (Instr.requestAccept { read16 with addr := 8 }).wf = false := by decide +kernel

theorem test_wf_refuses_no_beats : (Instr.requestAccept { read16 with beats := 0 }).wf = false := by decide +kernel

theorem test_wf_refuses_17_beats : (Instr.requestAccept { read16 with beats := 17 }).wf = false := by decide +kernel

theorem test_wf_refuses_read_with_data :
    (Instr.requestAccept { read16 with data := [1] }).wf = false ∧
      (Instr.requestAccept { read16 with enables := [true] }).wf = false := by decide +kernel

theorem test_wf_refuses_short_data :
    (Instr.requestAccept (write64 (zeroBytes 63))).wf = false ∧
      (Instr.requestAccept { write64 (zeroBytes 64) with enables := [] }).wf = false := by decide +kernel

theorem test_wf_refuses_odd_response : (Instr.forwardedResponse 0 .ok [1]).wf = false ∧
    (Instr.forwardedResponse 0 .ok (zeroBytes 272)).wf = false := by decide +kernel

theorem test_wf_refuses_known_code : (Instr.unknownCode 0 0x10 ⟨0, 0, 0, 0⟩).wf = false := by decide +kernel

/-- The part stops on what no port and no block can carry. -/
theorem test_ill_formed_stops :
    exec (.requestAccept { read16 with beats := 0 }) .reset = .fault .malformedRequest ∧
      exec (.unknownCode 0 0x10 ⟨0, 0, 0, 0⟩) .reset = .fault .knownCommandCode := ⟨rfl, rfl⟩

/-! ### Formats: command blocks (chapter 11.1) -/

/-- SET_WINDOW of window 3: PATTERN 2 at 0x0123456000, 4096 bytes. -/
theorem test_decode_set_window :
    decodeBlock 5 ([0x01, 0x00, 0x34, 0x12, 0x00, 0x00, 0x03, 0x00, 0x01, 0x02] ++ zeroBytes 6 ++
      [0x00, 0x60, 0x45, 0x23, 0x01, 0, 0, 0, 0x00, 0x10, 0x00, 0x00] ++ zeroBytes 36) =
    .setWindow 5 ⟨0, 0x1234, 0, 3⟩ ⟨1, 2, 0x0123456000, 4096⟩ := by decide +kernel

/-- SET_PROFILE with every byte of offsets 8..33 its own offset. -/
theorem test_decode_set_profile :
    decodeBlock 0 ([0x02, 0x00, 0x01, 0x00, 0x00, 0x00, 0x02, 0x00] ++
      (List.range 26).map (fun k => BitVec.ofNat 8 (8 + k)) ++ zeroBytes 30) =
    .setProfile 0 ⟨0, 1, 0, 2⟩
      ⟨8, 9, 10, 11, 12, 13, 14, 15, 16, 17, 18, 19, 0x1514, 22, 23, 24, 25, 0x1B1A, 28, 29, 30, 31, 32,
       33⟩ := by decide +kernel

theorem test_decode_define_pattern :
    decodeBlock 1 ([0x03, 0x00, 0, 0, 0, 0, 0x01, 0x00, 0x20] ++ zeroBytes 55) =
    .definePattern 1 ⟨0, 0, 0, 1⟩ 32 := by decide +kernel

theorem test_decode_set_timebase :
    decodeBlock 1 ([0x04, 0x00, 0, 0, 0, 0, 0, 0, 0x10, 0x00, 0xE8, 0x03, 0x05] ++ zeroBytes 51) =
    .setTimebase 1 ⟨0, 0, 0, 0⟩ ⟨16, 1000, 5⟩ := by decide +kernel

theorem test_decode_set_attention :
    decodeBlock 1 ([0x05, 0x00, 0, 0, 0, 0, 0, 0, 1, 1, 0x3F, 4, 100, 0, 0, 0, 0x10, 0x32, 0x54, 0x76,
      0x98] ++ zeroBytes 43) =
    .setAttention 1 ⟨0, 0, 0, 0⟩ ⟨1, 1, 0x3F, 4, 100, 0x9876543210⟩ := by decide +kernel

/-- The five commands without parameters, on slots 0 and 11 with selector 3. -/
theorem test_decode_masks :
    ([0x10, 0x11, 0x12, 0x13, 0x14].map fun code =>
      decodeBlock 2 ([code, 0x00, 0x22, 0x11, 0x01, 0x08, 0x03, 0x00] ++ zeroBytes 56)) =
    [.start 2 ⟨0, 0x1122, 0x0801, 3⟩, .abort 2 ⟨0, 0x1122, 0x0801, 3⟩, .retest 2 ⟨0, 0x1122, 0x0801, 3⟩,
     .clear 2 ⟨0, 0x1122, 0x0801, 3⟩, .snapshot 2 ⟨0, 0x1122, 0x0801, 3⟩] := by decide +kernel

theorem test_decode_sideband :
    decodeBlock 1 ([0x20, 0x00, 0, 0, 0, 0, 0x0B, 0x00, 1, 0x40, 3, 0, 0xE8, 0x03, 0, 0] ++
      zeroBytes 32 ++ [0xA, 0xB, 0xC, 0, 0, 0, 0, 0] ++ zeroBytes 8) =
    .sideband 1 ⟨0, 0, 0, 11⟩ ⟨1, 0x40, 3, 1000, #v[0xA, 0xB, 0xC, 0, 0, 0, 0, 0]⟩ := by decide +kernel

theorem test_decode_status_none_unknown :
    decodeBlock 1 (0x30 :: zeroBytes 63) = .status 1 ⟨0, 0, 0, 0⟩ ∧
      decodeBlock 1 (zeroBytes 64) = .noneBlock 1 ∧
      decodeBlock 1 (0x7E :: zeroBytes 63) = .unknownCode 1 0x7E ⟨0, 0, 0, 0⟩ := by decide +kernel

/-! ### Formats and figures of the manual -/

/-- The header layout of R60: marker, slot, lane, kind and count in that order, the CRC last; the CRC-8 of a
single 1 bit is the polynomial. -/
theorem test_header_layout :
    (headerBits ⟨11, 2⟩ .scan 0xA5).extractLsb' 8 40 = 0xD29C4BBBA5#40 ∧
      (headerBits ⟨0, 0⟩ .idle 0).extractLsb' 24 24 = 0xD29C4B#24 ∧ crc8 1 = 0x07#8 := by decide +kernel

/-- R62: the first bits of PRBS7 from the seed 1: six zeros, then 1. -/
theorem test_prbs7_first_bits : (prbsBits 7 6 8 1 0).1 = 0b00000110#4096 := by decide +kernel

/-- R63: bit offset 0 of a pattern is the most significant bit of byte 0. -/
theorem test_pattern_bits : patternBits [(0, 0x80), (1, 0x01)] 512 16 0 0 = 0x8001#4096 := by decide +kernel

/-- R141: the default limit, M = 69 and X = 36, needs 45,591 blocks. -/
theorem test_min_blocks : minBlocks 69 36 = 45591 ∧ allowance 45591 69 36 = 3 := by decide +kernel

/-- R160: the sixteenth finding is TRUNCATED with the code it displaced, and the list then stays. -/
theorem test_findings_truncate :
    let f (l : LaneId) (c : FindingCode) : Finding := ⟨c, some l, true, 0⟩
    let full := addFindings [] ([FindingCode.laneOpen, .laneShared, .laneDead, .noEye].flatMap fun c =>
      allLanes.map fun l => f l c)
    full.length = 16 ∧ full.getLast? = some ⟨.truncated, none, false, 0x31⟩ ∧
      addFinding full (f 0 .lockUnstable) = full := by decide +kernel

/-! ### States for the tests -/

/-- SlotsOk of a state with no selection and no record in flight, from what can be evaluated. -/
theorem slotsOk_of {s : State} (hs : s.writer.selection = none) (hf : s.writer.inFlight = none)
    (h : s.scanner.queue.Nodup ∧ (∀ i, i ∈ s.scanner.queue ↔ (s.slot i).state = .scan) ∧
      (∀ i, s.sideband.queue.count (.discovery i) ≤ 1) ∧
      (∀ i, .discovery i ∈ s.sideband.queue → (s.slot i).state = .discover) ∧
      (∀ i, (s.slot i).verdictPending = true → (s.slot i).state = .verdict) ∧
      (∀ i, (s.slot i).attempts ≤ 3 ∧
        ((s.slot i).attempts = 3 → (s.slot i).state = .verdict ∨ (s.slot i).state = .done))) :
    SlotsOk s := by
  have no (i : SlotId) : ¬ verdictInFlight s i := fun ⟨f, h', _⟩ => by simp [hf] at h'
  obtain ⟨h1, h2, h3, h4, h5, h6⟩ := h
  exact ⟨h1, h2, h3, h4, fun i hi => ⟨h5 i hi, no i⟩, fun i hi => absurd hi (no i),
    fun _ hsel => by simp [hs] at hsel, h6⟩

/-- SweepOk of a state in which no sweep is in progress. -/
theorem sweepOk_of {s : State} (h : s.scanner.sweep = none) (hq : s.scanner.queue = [])
    (hl : ∀ i l, ((s.slot i).lane l).position = 0 ∧
      (((s.slot i).lane l).soakRole = true → ((s.slot i).lane l).power = .active)) : SweepOk s :=
  ⟨by simp [h, hq], by simp [h], fun i l => ⟨fun hp => absurd (hl i l).1 hp, (hl i l).2⟩, by simp [h]⟩

/-- SweepOk of a state in which slot `i` is swept, from what can be evaluated. -/
theorem sweepOk_at {s : State} {i : SlotId} {sw : Sweep} (hq : s.scanner.queue.head? = some i)
    (h : s.scanner.sweep = some sw) (hb : sw.busy = true)
    (hl : ∀ j l, let x := (s.slot j).lane l
      (x.position ≠ 0 → j = i ∧ x.power = .active) ∧ (x.soakRole = true → x.power = .active))
    (hp : ∀ l : LaneId, (sw.steps[l.val]).takesPart = true → ((s.slot i).lane l).power = .active) :
    SweepOk s := by
  refine ⟨?_, ?_, fun j l => ⟨fun hx => ?_, (hl j l).2⟩, ?_⟩
  · constructor
    · simp [h]
    · intro hn
      simp [hn] at hq
  · intro sw' h'
    obtain rfl : sw = sw' := by simpa [h] using h'
    exact hb
  · obtain ⟨rfl, hx⟩ := (hl j l).1 hx
    exact ⟨hq, hx⟩
  · intro j sw' hj h'
    obtain rfl : i = j := by simpa [hq] using hj
    obtain rfl : sw = sw' := by simpa [h] using h'
    exact hp

/-- RingOk of a state with this ring and the windows of reset. -/
theorem ringOk_of {s : State} {r : Ring} (hr : s.writer.ring = some r)
    (hw : s.path.windows = State.reset.path.windows) (h : ringOk s.writer r) : RingOk s := by
  have no : ∀ j : Fin 8, (State.reset.path.windows[j.val]).role ≠ .report := by decide
  refine ⟨fun r' hr' => ?_, fun j hj => absurd (by simpa [hw] using hj) (no j)⟩
  obtain rfl : r = r' := by simpa [hr] using hr'
  exact h

/-- The head of a command with tag 7 on slot 0 and selector 0. -/
def head0 : BlockHead := ⟨0, 7, 1, 0⟩

/-- The reset state with slot 0 changed. -/
def slot0 (f : Slot → Slot) : State := State.reset.modSlot 0 f

/-- Slot 0 in a state, tracking presence. -/
def slotIn (st : SlotState) : State := slot0 fun sl => { sl with state := st, tracking := true }

/-- A slot with lane 0 changed. -/
def withLane0 (f : Lane → Lane) (sl : Slot) : Slot := sl.withLane 0 (f (sl.lane 0))

/-- A lane that searches. -/
def searchingLane (x : Lane) : Lane := { x with power := .active, searching := true }

/-- A lane LOCKED to its own transmitter, slot 0 lane 0. -/
def lockedLane (x : Lane) : Lane :=
  { x with power := .active, rx := .locked, source := some ⟨0, 0⟩, lastKind := some .soak,
           lastCount := some 3, rxFrame := .inLock }

/-- Slot 0 in SOAK with lane 0 LOCKED and soaked. -/
def soaking : State := slot0 fun sl =>
  withLane0 (fun x => { lockedLane x with soakRole := true, soakSource := some ⟨0, 0⟩ })
    { sl with state := .soak }

/-- Slot 0 in SOAK on pattern 0, which is in use, with lane 0 LOCKED and soaked. -/
def soakingPattern : State :=
  soaking.modSlot 0 fun sl => { sl with profile := { sl.profile with payload := .pattern 0 } }

/-- Slot 0 in TRAIN with lane 0 alone in its mask, LOCKED, confirmed `n` times. -/
def training (n : Nat) : State := slot0 fun sl =>
  withLane0 lockedLane
    { sl with state := .train, stateTimer := some 0, profile := { sl.profile with laneMask := 1 },
              confirm := #v[n, 0, 0, 0], expected := #v[⟨some ⟨0, 0⟩, .normal⟩, ⟨none, .normal⟩,
                ⟨none, .normal⟩, ⟨none, .normal⟩] }

/-- A word with the head of its ID in the memory path: the Outstanding List. -/
def awaiting (e : OutEntry) : State :=
  { State.reset with path := { State.reset.path with out := [e] } }

/-- An outstanding one-beat READ of 0x1000 with ID 5. -/
def out5 : OutEntry := ⟨5, .read, 0x1000, 1, 0, .plain, false⟩

/-- A one-beat inserted write to 0x1000. -/
def beat : InsWrite := ⟨0x1000, List.replicate 16 (some 1)⟩

/-- The reset state with these queues on the memory path. -/
def queued (fwd : List FwdEntry) (ins : List InsEntry) : State :=
  { State.reset with path := { State.reset.path with fwd := fwd, ins := ins } }

/-- A Record Writer with a 4 KiB ring at 1 MiB, W, and this list of unconsumed records. -/
def ringAt (write : Nat) (list : List Published) : Writer :=
  { Writer.powerOn with
    ring := some ⟨0x100000, 4096⟩, write := write, list := list
    used := (list.map Published.length).sum
    oldest := match list with
      | [] => write
      | p :: _ => p.offset }

/-- The reset state with that writer. -/
def withWriter (w : Writer) : State := { State.reset with writer := w }

/-- An EVENT record of slot 0 in flight at offset 0 in these pieces, its first piece at place 0. -/
def eventInFlight (pieces : List InsWrite) : InFlight :=
  ⟨.slot 0, .event, 0, 32, 1, pieces, some 0⟩

/-- That record's first piece issued. -/
def pieceIssued (pieces : List InsWrite) : State :=
  { withWriter { ringAt 0 [] with inFlight := some (eventInFlight pieces) } with
    path := { State.reset.path with ins := [⟨.record, 0, beat, 0, true, false⟩] } }

/-- A host entry of block 3, a 2-byte read of slot 0. -/
def host3 (postWait : Nat) : HostEntry := ⟨3, 0, .read, 0, 2, Vector.replicate 8 0, postWait, false⟩

/-- The Sideband Controller at work on an entry. -/
def serving (e : SbEntry) (g : Engine → Engine) : State :=
  { slotIn .discover with
    sideband := ⟨[e], g Engine.powerOn⟩
    decoder := { Decoder.powerOn with outstanding := [(3, 0x55)] } }

/-- The state that a command leads to; its own state where it stops. -/
def after (c : Instr) (s : State) : State :=
  match exec c s with
  | .next t => t
  | .fault _ | .refused _ => s

/-! ### Witnesses: states and operands that meet the hypotheses of the statements -/

theorem reset_running : running .reset := ⟨rfl, rfl⟩

/-- A state out of reset whose block 2 has no SIDEBAND outstanding is ready for a command with tag 7. -/
theorem ready_of (s : State) (h : BlockHead) (h₁ : s.prst = false) (h₂ : s.porst = false)
    (h₃ : outstandingTag s.decoder 2 = none) (h₄ : h.zero = 0) : ready s 2 h :=
  ⟨⟨h₁, h₂⟩, h₃, h₄⟩

theorem head0_legal : maskLegal head0 := ⟨by decide, by decide⟩

theorem reset_windows : WindowsOk .reset := by unfold WindowsOk; decide +kernel

theorem reset_slots : SlotsOk .reset := slotsOk_of rfl rfl (by decide +kernel)

theorem reset_sweep : SweepOk .reset := sweepOk_of rfl rfl (by decide +kernel)

theorem reset_patterns : PatternsOk .reset := by unfold PatternsOk; decide +kernel

theorem witness_step : { State.reset with pending := [.noneBlock 0] }.pending = .noneBlock 0 :: [] := rfl

theorem witness_queue_kept : exec (.noneBlock 0) .reset = .next .reset := rfl

/-- The timebase with a prescale of 4, and with every count one short of its return. -/
def slowTimebase : State := { State.reset with timebase := ⟨4, 1000, 10, 0, 0, 0⟩ }

/-- The timebase one increment before an interval. -/
def beforeInterval : State := { State.reset with timebase := ⟨1, 2, 10, 0, 1, 0⟩ }

theorem witness_microseconds :
    (slowTimebase.porst = false ∧ timebaseOk slowTimebase.timebase ∧ slowTimebase.pending = [] ∧
      0 + 1 < slowTimebase.timebase.prescale) ∧
    (timebaseOk State.reset.timebase ∧ State.reset.timebase.prescalerCount + 1 = 1 ∧
      State.reset.timebase.periodCount + 1 < State.reset.timebase.period) ∧
    (timebaseOk beforeInterval.timebase ∧ beforeInterval.timebase.prescalerCount + 1 = 1 ∧
      beforeInterval.timebase.periodCount + 1 = beforeInterval.timebase.period ∧
      beforeInterval.timebase.postscalerCount + 1 < beforeInterval.timebase.postscale) := by
  unfold timebaseOk; decide +kernel

theorem witness_accept : read16.wf = true ∧ running .reset ∧ State.reset.path.fwd.length < 32 :=
  ⟨rfl, reset_running, by decide⟩

theorem witness_not_accepted : (write64 (zeroBytes 64)).wf = true ∧
    32 ≤ (queued (List.replicate 32 ⟨read16, 0, .plain⟩) []).path.fwd.length := by decide +kernel

/-- A Window Table with PATTERN 2 at 1 MiB and an 8 KiB REPORT window at 2 MiB. -/
def threeWindows : Vector Window 8 :=
  (State.reset.path.windows.set 1 ⟨0x100000, 4096, .pattern, 2⟩).set 2 ⟨0x200000, 8192, .report, 0⟩

/-- The window holds the address. -/
def holds (i : Fin 8) (a : Nat) : Prop := (threeWindows[i.val]).role ≠ .off ∧
  (threeWindows[i.val]).base.toNat ≤ a ∧ a < (threeWindows[i.val]).base.toNat + (threeWindows[i.val]).size

/-- Requests in the COMMAND window, at both ends of the PATTERN and of the REPORT window, in no window and
across a page. -/
theorem witness_classified : (write64 (zeroBytes 64)).wf = true ∧
    (({ write64 (zeroBytes 64) with addr := 0x1007E0 } : Request).wf = true) ∧
    (holds 0 64 ∧ ∀ j, j ≠ 0 → ¬ holds j 64) ∧ (holds 1 0x1007E0 ∧ ∀ j, j ≠ 1 → ¬ holds j 0x1007E0) ∧
    (holds 2 0x200000 ∧ ∀ j, j ≠ 2 → ¬ holds j 0x200000) ∧ holds 2 0x201FF0 ∧
    (∀ j, ¬ holds j 0x202000) ∧ ({ read16 with addr := 4080, beats := 2 } : Request).wf = true ∧
    4080 / 4096 ≠ (4080 + 16 * 2 - 1) / 4096 := by
  unfold holds; decide +kernel

/-- A queued READ with arrival place `n`. -/
def queuedRead (n : Nat) : FwdEntry := ⟨read16, n, .plain⟩

/-- An overlapping inserted write of the decoder with arrival place `n`. -/
def queuedInsert (n : Nat) : InsEntry := ⟨.decoder, 2, beat, n, false, false⟩

theorem witness_forwarded_issue : running (queued [queuedRead 0] []) ∧
    (queued [queuedRead 0] []).path.fwd = queuedRead 0 :: [] ∧ fwdHeld [] (queuedRead 0) = false ∧
    (queued [queuedRead 0] []).path.out.length < 64 ∧ insEligible (queued [queuedRead 0] []) = none :=
  ⟨⟨rfl, rfl⟩, rfl, rfl, by decide, rfl⟩

theorem witness_inserted_issue : running (queued [] [queuedInsert 0]) ∧
    (queued [] [queuedInsert 0]).path.ins.find? (fun e => !e.issued) = some (queuedInsert 0) ∧
    insBlocked (queued [] [queuedInsert 0]).path (queuedInsert 0) = false ∧
    fwdEligible (queued [] [queuedInsert 0]) = none := ⟨⟨rfl, rfl⟩, rfl, by decide, rfl⟩

theorem witness_overlaps :
    (queuedInsert 0 ∈ (queued [queuedRead 1] [queuedInsert 0]).path.ins ∧
      (queuedInsert 0).arrival < (queuedRead 1).arrival ∧
      overlapsInsert 0x1000 1 (queuedInsert 0) = true ∧ read16.kind = .read) ∧
    ((queued [queuedRead 0] [queuedInsert 1]).path.ins.find? (fun e => !e.issued) =
        some (queuedInsert 1) ∧
      ∃ f ∈ (queued [queuedRead 0] [queuedInsert 1]).path.fwd, f.arrival < 1 ∧
        overlapsInsert f.req.addr f.req.beats (queuedInsert 1) = true) := by decide +kernel

/-- A READ or WRITE awaiting its response with a role. -/
def outRole (kind : ReqKind) (role : Role) : OutEntry :=
  { out5 with
    kind := kind, addr := 0x100000
    cls := { Class.plain with
      role := role, pattern := 2
      covered := if role = .command then [(1, 0x30 :: zeroBytes 63)] else []
      capture := if role = .pattern then [(0, 1), (64, 2)] else [] } }

/-- Entries of each role that hand nothing on, a discarded one, and an ID that matches none. -/
theorem witness_response :
    (∀ r ∈ [(ReqKind.read, Role.off), (.read, .command), (.read, .pattern), (.write, .report),
        (.read, .report)],
      (awaiting (outRole r.1 r.2)).path.out.find? (fun e => decide (e.id = 5)) = some (outRole r.1 r.2) ∧
        (outRole r.1 r.2).discarded = false ∧ (outRole r.1 r.2).kind = r.1 ∧
        (outRole r.1 r.2).cls.role = r.2) ∧
    (∀ e ∈ (awaiting out5).path.out, e.id ≠ 6) ∧
      (awaiting { out5 with discarded := true }).path.out.find? (fun e => decide (e.id = 5)) =
        some { out5 with discarded := true } := by decide +kernel

theorem witness_command_write :
    (awaiting (outRole .write .command)).path.out.find? (fun e => decide (e.id = 5)) =
      some (outRole .write .command) ∧ (outRole .write .command).discarded = false ∧
      (outRole .write .command).cls.role = .command ∧ (outRole .write .command).kind = .write := by
  decide +kernel

theorem witness_pattern_write : PatternsOk (awaiting (outRole .write .pattern)) ∧
    (awaiting (outRole .write .pattern)).path.out.find? (fun e => decide (e.id = 5)) =
      some (outRole .write .pattern) ∧ (outRole .write .pattern).cls.role = .pattern ∧
    ((outRole .write .pattern).cls.capture.map Prod.fst).Nodup ∧
    (State.reset.patterns[2]).inUse = 0 ∧ (soakingPattern.modPattern 0 fun p =>
      { p with inUse := 1 }).patterns[0].inUse = 1 :=
  ⟨reset_patterns, by decide +kernel⟩

/-- The read of the ring's first 16 bytes awaits its response; two records are unconsumed. -/
def reading : State :=
  { awaiting (outRole .read .report) with writer := ringAt 96 [⟨0, 64, .event, 0⟩, ⟨64, 32, .event, 0⟩] }

theorem witness_report_read :
    reading.path.out.find? (fun e => decide (e.id = 5)) = some (outRole .read .report) ∧
    reading.writer.ring = some ⟨0x100000, 4096⟩ ∧
    reading.writer.list = [⟨0, 64, .event, 0⟩] ++ [⟨64, 32, .event, 0⟩] ∧
    (0x100000 ≤ 0x100000 + 0 ∧ 0x100000 + 0 + 16 ≤ 0x100000 + 16 * (outRole .read .report).beats) ∧
    ¬ (0x100000 + 64 + 16 ≤ 0x100000 + 16 * (outRole .read .report).beats) := by decide +kernel

/-- A selection that fits once the first record is consumed, and one that does not. -/
theorem witness_report_select :
    (96 + 32 ≤ 4096 ∧ 32 ≤ 4096 - (reading.writer.used - 64)) ∧ ¬ (256 ≤ 4096 - 3904) ∧
      reading.writer.inFlight = none ∧ reading.writer.selection = none := by decide +kernel

/-- A completion word waits in the backlog. -/
def wordWaits : State :=
  { State.reset with decoder :=
      { Decoder.powerOn with backlog := [⟨3, 0x30, 7, .done, 0, 0, none, false⟩] } }

theorem witness_join : (∀ e ∈ wordWaits.path.ins, e.place ≠ 0) ∧
    (∀ j : Fin 8, j < 0 → ∃ e ∈ wordWaits.path.ins, e.place = j) ∧
    rotation wordWaits.path.lastServed = [] ++ Producer.decoder :: [.record, .attention] ∧
    (offered wordWaits .decoder).isSome = true := by decide +kernel

/-- The producer of the entry at place 2 is told, or not where it is void; the piece of an abandoned record
is the Record Writer's. -/
theorem witness_ack :
    (∀ void : Bool, (queued [] [{ queuedInsert 0 with issued := true, void := void }]).path.ins.find?
        (fun e => e.issued && decide (e.place.val = (2 : BitVec 8).toNat)) =
      some { queuedInsert 0 with issued := true, void := void }) ∧
    (queuedInsert 0).producer ≠ .record ∧
    (queued [] [queuedInsert 0]).path.ins.find?
      (fun e => e.issued && decide (e.place.val = (2 : BitVec 8).toNat)) = none ∧
    ({ Writer.powerOn with abandoned := some 2 } : Writer).inFlight = none ∧
    ({ queuedInsert 0 with producer := .record, issued := true }).place = 2 := by decide +kernel

/-- The 4 KiB ring of `ringAt` is placed as a ring is. -/
theorem ringAt_placed : ringPlaced 0x100000 4096 := ⟨by decide, by decide, by decide, by decide⟩

/-- RingOk of a state with a 4 KiB ring and a record in flight at W = 0. -/
theorem pieceIssued_ring (pieces : List InsWrite) : RingOk (pieceIssued pieces) := by
  refine ringOk_of (r := ⟨0x100000, 4096⟩) rfl rfl ⟨ringAt_placed, (by decide : 0 < 4096), rfl,
    Nat.zero_le _, rfl, fun _ h => absurd h List.not_mem_nil, rfl,
    fun _ h => absurd h (by simp [pieceIssued, withWriter, ringAt, Writer.powerOn]), fun f hf => ?_⟩
  obtain rfl : eventInFlight pieces = f := Option.some.inj hf
  exact ⟨rfl, ⟨(by decide : 0 < 32), (by decide : 32 % 32 = 0)⟩, (by decide : 0 + 32 ≤ 4096),
    (by decide : 0 + 32 ≤ 4096), fun _ => rfl⟩

/-- Two records unconsumed and W behind them. -/
theorem witness_ring : RingOk (withWriter (ringAt 96 [⟨0, 64, .progress, 0⟩, ⟨64, 32, .event, 0⟩])) := by
  refine ringOk_of (r := ⟨0x100000, 4096⟩) rfl rfl ⟨ringAt_placed, by decide, rfl, by decide, rfl, ?_, rfl,
    fun _ h => absurd h (by simp [withWriter, ringAt, Writer.powerOn]),
    fun _ h => absurd h (by simp [withWriter, ringAt, Writer.powerOn])⟩
  unfold lengthOk
  decide

theorem witness_pieces (pieces : List InsWrite) : RingOk (pieceIssued pieces) ∧
    (pieceIssued pieces).path.ins.find?
        (fun e => e.issued && decide (e.place.val = (0 : BitVec 8).toNat)) =
      some ⟨.record, 0, beat, 0, true, false⟩ ∧
    (pieceIssued pieces).writer.inFlight = some (eventInFlight pieces) ∧
    (eventInFlight pieces).joined = some 0 ∧
    (pieceIssued pieces).writer.ring = some ⟨0x100000, 4096⟩ ∧ (eventInFlight pieces).kind ≠ .pad :=
  ⟨pieceIssued_ring pieces, rfl, rfl, rfl, rfl, by simp [eventInFlight]⟩

theorem witness_offered : wordWaits.writer.inFlight = none ∧
    (pieceIssued [beat]).writer.inFlight = some (eventInFlight [beat]) ∧
    (eventInFlight [beat]).joined ≠ none ∧ ({ eventInFlight [beat] with joined := none }).joined = none := by
  decide +kernel

/-- A PAD to the ring's end in flight at 4064, a PROGRESS record selected behind it. -/
def padIssued : State :=
  let w := { ringAt 4064 [] with
    inFlight := some ⟨.slot 0, .pad, 4064, 32, 0, [beat], some 0⟩
    selection := some ⟨.slot 0, .progress, 64⟩ }
  { withWriter w with path := { State.reset.path with ins := [⟨.record, 0, beat, 0, true, false⟩] } }

theorem witness_pad : RingOk padIssued ∧ padIssued.writer.inFlight.map InFlight.kind = some .pad ∧
    4064 + 32 = 4096 ∧ padIssued.writer.selection = some ⟨.slot 0, .progress, 64⟩ ∧
    64 ≤ 4096 - (padIssued.writer.used + 32) := by
  refine ⟨ringOk_of (r := ⟨0x100000, 4096⟩) rfl rfl ⟨ringAt_placed, by decide, rfl, by decide, rfl,
    fun _ h => absurd h List.not_mem_nil, rfl, fun sel hs => ?_, fun f hf => ?_⟩, by decide +kernel⟩
  · obtain rfl : ⟨.slot 0, .progress, 64⟩ = sel := Option.some.inj hs
    exact ⟨by decide, rfl⟩
  · obtain rfl : ⟨.slot 0, .pad, 4064, 32, 0, [beat], some 0⟩ = f := Option.some.inj hf
    exact ⟨rfl, ⟨by decide, rfl⟩, by decide, by decide, fun h => absurd rfl h⟩

theorem witness_port_reset : State.reset.porst = false ∧ WindowsOk .reset ∧
    State.reset.writer.inFlight = none ∧ WindowsOk (pieceIssued [beat]) ∧
    (pieceIssued [beat]).writer.inFlight = some (eventInFlight [beat]) :=
  ⟨rfl, reset_windows, rfl, reset_windows, rfl⟩

/-- A list of 15 findings, one that TRUNCATED ends, and a finding already in the list. -/
theorem witness_findings :
    let note (l : LaneId) : Finding := ⟨.laneSwapped, some l, false, 7⟩
    let f : Finding := ⟨.laneOpen, some 0, true, 0⟩
    (¬ ∃ t, (List.replicate 15 (note 1)).getLast? = some t ∧ t.code = .truncated) ∧
    (¬ ∃ g ∈ List.replicate 15 (note 1), g.code = f.code ∧ g.lane = f.lane) ∧
    addFinding (List.replicate 15 (note 1)) f =
      List.replicate 15 (note 1) ++ [⟨.truncated, none, false, f.code.byte.toNat⟩] ∧
    addFinding [f] { f with value := 3 } = [f] ∧ addFinding [note 0] f = [note 0, f] := by
  decide +kernel

theorem witness_power_on_release : { State.reset with porst := true }.porst = true := rfl

/-- A STATUS request pending with a ring set, and one selected. -/
def statusWaits (selection : Option Selection) : State :=
  { State.reset with
    writer := { ringAt 0 [] with selection := selection }
    decoder := { Decoder.powerOn with statusPending := true } }

theorem witness_selection :
    ((statusWaits none).writer.selection = none ∧ (statusWaits none).writer.inFlight = none ∧
      (statusWaits none).writer.abandoned = none ∧ (statusWaits none).writer.ring ≠ none ∧
      (statusWaits none).writer.broken = false ∧
      sourcesAfter (statusWaits none).writer.lastSource = allSlots.map RecSource.slot ++ .status :: [] ∧
      (∀ q ∈ allSlots.map RecSource.slot, pendingKinds (statusWaits none) q = []) ∧
      pendingKinds (statusWaits none) .status = .status :: []) ∧
    RecordKind.status ∈ pendingKinds (statusWaits (some ⟨.status, .status, 256⟩)) .status ∧
    State.reset.writer.ring = none := by decide +kernel

theorem witness_no_kind_pending : ∀ q, pendingKinds (withWriter (ringAt 0 [])) q = [] := by
  intro q
  cases q with
  | status => rfl
  | slot i => revert i; decide +kernel

theorem witness_age : reached State.reset.us 0 = true ∧
    { Attention.powerOn with age := .running 0, delay := 3 }.age = .running 0 := by decide +kernel

theorem witness_refused_blocks : knownCodes.contains 0x7E = false ∧ running .reset ∧
    outstandingTag State.reset.decoder 2 = none ∧
    outstandingTag { Decoder.powerOn with outstanding := [(2, 0x99)] } 2 = some 0x99 ∧
    (Instr.status 2 { head0 with zero := 1 }).wf = true ∧
    (Instr.status 2 { head0 with zero := 1 }).block? = some 2 ∧
    blockHead? (.status 2 { head0 with zero := 1 }) = some { head0 with zero := 1 } ∧
    ({ head0 with zero := 1 } : BlockHead).zero ≠ 0 := ⟨rfl, reset_running, by decide +kernel⟩

/-- A block with no word waiting, one with a SIDEBAND completion and one with another word. -/
theorem witness_backlog :
    let word (n : BlockId) (sideband : Bool) : Completion := ⟨n, 0, 7, .done, 0, 0, none, sideband⟩
    (∀ d ∈ [word 3 false], d.block ≠ 2) ∧
      ∀ b : Bool, [word 3 false, word 2 b, word 4 true] = [word 3 false] ++ word 2 b :: [word 4 true] ∧
        ∀ x ∈ [word 3 false] ++ [word 4 true], x.block ≠ 2 := by decide +kernel

theorem witness_set_window : WindowsOk .reset ∧ ready .reset 2 { head0 with selector := 3 } ∧
    windowLegal .reset 3 ⟨1, 2, 0x10000, 4096⟩ ∧ windowLegal .reset 3 ⟨2, 0, 0x10000, 8192⟩ ∧
    windowLegal .reset 3 ⟨0, 9, 5, 5⟩ ∧ (State.reset.path.windows[3]).role ≠ .report :=
  ⟨reset_windows, ready_of _ _ rfl rfl rfl rfl, by unfold windowLegal; decide +kernel,
    by unfold windowLegal; decide +kernel, by unfold windowLegal; decide +kernel, by decide⟩

/-- A SET_WINDOW for each refusal of R9, at the limits: selectors 0 and 8, role 3, sizes 4095 and 2 MiB,
pattern 4, a base between pages, an overlap with window 1, and a second use of a pattern and of REPORT. -/
theorem witness_illegal_windows :
    ready .reset 2 { head0 with selector := 0 } ∧ ready .reset 2 { head0 with selector := 8 } ∧
    (3 ≤ (3 : Byte).toNat ∧ (4095 : BitVec 32).toNat ≠ 4096 ∧ 3 < (4 : Byte).toNat) ∧
    (¬ ∃ k ≤ 8, (0x200000 : BitVec 32).toNat = 4096 * 2 ^ k) ∧
    (∃ k ≤ 8, (0x100000 : BitVec 32).toNat = 4096 * 2 ^ k) ∧ (0x100800 : Addr).toNat % 4096 ≠ 0 ∧
    ((threeWindows[1]).role ≠ .off ∧ (0x100000 : Addr).toNat < (threeWindows[1]).base.toNat + 4096 ∧
      (threeWindows[1]).base.toNat < (0x100000 : Addr).toNat + 4096) ∧
    (threeWindows[2]).role = .report ∧ (threeWindows[1]).role = .pattern ∧ (threeWindows[1]).pattern = 2 :=
  ⟨ready_of _ _ rfl rfl rfl rfl, ready_of _ _ rfl rfl rfl rfl, by decide +kernel⟩

/-- Parameters of a SET_PROFILE with three fields to be clamped. -/
def threeClamps : ProfileParams :=
  ⟨3, 1, 5, 2, 0, 7, 1, 1, 9, 1, 0, 1, 0, 4, 5, 60, 6, 700, 2, 64, 15, 32, 1, 3⟩

theorem witness_set_profile : ready .reset 2 { head0 with selector := 3 } ∧
    threeClamps.laneMask ≠ 0 ∧ threeClamps.laneMask.toNat ≤ 15 ∧ threeClamps.rate.toNat ≤ 2 ∧
    profileBadEnum threeClamps = false ∧ 15 < ({ threeClamps with laneMask := 16 } : ProfileParams).laneMask.toNat ∧
    2 < ({ threeClamps with rate := 3 } : ProfileParams).rate.toNat :=
  ⟨ready_of _ _ rfl rfl rfl rfl, by decide +kernel⟩

theorem witness_define_pattern : ready .reset 2 { head0 with selector := 3 } ∧
    (State.reset.patterns[3]).inUse = 0 ∧
    0 < (State.reset.modPattern 3 fun p => { p with inUse := 2 }).patterns[3].inUse :=
  ⟨ready_of _ _ rfl rfl rfl rfl, by decide +kernel⟩

theorem witness_set_timebase : ready .reset 2 head0 ∧
    (⟨16, 0, 40⟩ : TimebaseParams).prescale.toNat ∈ [1, 4, 16, 64] ∧
    ∀ i, (State.reset.slot i).state ≠ .soak := ⟨ready_of _ _ rfl rfl rfl rfl, by decide +kernel⟩

theorem witness_set_attention : ready .reset 2 head0 ∧
    ((⟨1, 1, 63, 0, 5, 0x40⟩ : AttentionParams).lineEnable.toNat ≤ 1 ∧
      (⟨1, 1, 63, 0, 5, 0x40⟩ : AttentionParams).kindMask.toNat ≤ 63 ∧
      (⟨1, 1, 63, 0, 5, 0x40⟩ : AttentionParams).address.toNat % 16 = 0) ∧
    (⟨1, 1, 64, 0, 5, 0x40⟩ : AttentionParams).kindMask.toNat = 64 ∧
    (⟨1, 1, 63, 0, 5, 0x41⟩ : AttentionParams).address.toNat % 16 ≠ 0 :=
  ⟨ready_of _ _ rfl rfl rfl rfl, by decide +kernel⟩

/-- Profile 2 on pattern 1, whose block 0 is valid, and a slot in DONE. -/
def startable : State :=
  let s := (slotIn .done).modPattern 1 fun p => { p with valid := 1 }
  { s with profiles := s.profiles.set 2 { Profile.default with payload := .pattern 1 } }

theorem witness_start : SlotsOk startable ∧ ready startable 2 { head0 with slotMask := 0x801 } ∧
    maskLegal { head0 with slotMask := 0x801 } ∧
    (∀ q : Fin 4, (startable.profiles[2]).payload = .pattern q →
      ∀ b < (startable.patterns[q.val]).length, (startable.patterns[q.val]).valid.getLsbD b = true) ∧
    (∀ i : SlotId, (0x801 : BitVec 16).getLsbD i.val = true →
      (startable.slot i).state = .off ∨ (startable.slot i).state = .done) :=
  ⟨slotsOk_of rfl rfl (by decide +kernel), ready_of _ _ rfl rfl rfl rfl, ⟨by decide, by decide⟩,
    by decide +kernel, by decide +kernel⟩

theorem witness_states_refuse : ready soaking 2 head0 ∧ maskLegal head0 ∧
    (∀ i : SlotId, i = 0 ↔ head0.slotMask.getLsbD i.val = true ∧
      (soaking.slot i).state ≠ .off ∧ (soaking.slot i).state ≠ .done) ∧
    (∀ j < 32, (1 : BitVec 32).getLsbD j = true ↔ ∃ i : SlotId, i.val = j ∧ i = 0) ∧
    (State.reset.slot 0).state = .off ∧ (soaking.slot 0).state = .soak ∧
    (∃ b < (State.reset.patterns[1]).length, (State.reset.patterns[1]).valid.getLsbD b = false) :=
  ⟨ready_of _ _ rfl rfl rfl rfl, head0_legal, by decide +kernel⟩

/-- The parameters that are refused before any state is looked at: mask 0, a mask with slot 12, selector 4, a
profile on a pattern that is not usable, and prescale 2. -/
theorem witness_bad_parameters : ready .reset 2 { head0 with slotMask := 0 } ∧
    ready .reset 2 { head0 with slotMask := 4096 } ∧ 4096 ≤ (4096 : BitVec 16).toNat ∧
    4 ≤ (4 : BitVec 16).toNat ∧ (2 : Byte).toNat ∉ [1, 4, 16, 64] ∧
    let s := { State.reset with
      profiles := State.reset.profiles.set 0 { Profile.default with payload := .pattern 3 } }
    ready s 2 head0 ∧ maskLegal head0 ∧ (s.profiles[0]).payload = .pattern 3 ∧
      ∃ b < (s.patterns[3]).length, (s.patterns[3]).valid.getLsbD b = false :=
  ⟨ready_of _ _ rfl rfl rfl rfl, ready_of _ _ rfl rfl rfl rfl, by decide, by decide, by decide,
    ready_of _ _ rfl rfl rfl rfl, head0_legal, by decide +kernel⟩

/-- Slot 0 soaks, slot 1 is swept, slot 3 waits in WATCH after two removals, slot 4 is being walked and
slot 5 is in DONE. -/
def busyPart : State :=
  let s := soaking.modSlot 1 fun sl => withLane0 (fun x =>
    { searchingLane x with soakRole := true }) { sl with state := .scan }
  let s := s.modSlot 3 fun sl => { sl with state := .watch, tracking := true, attempts := 2 }
  let s := (s.modSlot 4 fun sl => { sl with state := .discover }).modSlot 5 fun sl =>
    { sl with state := .done }
  { s with
    scanner := ⟨[1], some ⟨0, #v[.waitLock, .unscanned, .unscanned, .unscanned]⟩⟩
    sideband := ⟨[.discovery 4], { Engine.powerOn with phase := .try }⟩ }

theorem busyPart_slots : SlotsOk busyPart := slotsOk_of rfl rfl (by decide +kernel)

theorem busyPart_sweep : SweepOk busyPart :=
  sweepOk_at (i := 1) rfl rfl rfl (by decide +kernel) (by decide +kernel)

theorem witness_abort : SlotsOk busyPart ∧ SweepOk busyPart ∧
    ready busyPart 2 { head0 with slotMask := 0x1F } ∧ maskLegal { head0 with slotMask := 0x1F } ∧
    (∀ j < 32, (0x1B : BitVec 32).getLsbD j = true ↔ ∃ i : SlotId, i.val = j ∧
      (0x1F : BitVec 16).getLsbD i.val = true ∧ (busyPart.slot i).state ≠ .off ∧
      (busyPart.slot i).state ≠ .verdict ∧ (busyPart.slot i).state ≠ .done) :=
  ⟨busyPart_slots, busyPart_sweep, ready_of _ _ rfl rfl rfl rfl, ⟨by decide, by decide⟩,
    by decide +kernel⟩

theorem witness_abort_nothing : ∀ i : SlotId, ¬ ((1 : BitVec 16).getLsbD i.val = true ∧
    (State.reset.slot i).state ≠ .off) := by decide +kernel

theorem witness_retest : SlotsOk busyPart ∧ SweepOk busyPart ∧
    ready busyPart 2 { head0 with slotMask := 0x3B } ∧ maskLegal { head0 with slotMask := 0x3B } ∧
    (∀ i : SlotId, (0x3B : BitVec 16).getLsbD i.val = true →
      (busyPart.slot i).state ≠ .off ∧ (busyPart.slot i).state ≠ .verdict) ∧
    ∀ i, (startable.slot i).state ≠ .scan :=
  ⟨busyPart_slots, busyPart_sweep, ready_of _ _ rfl rfl rfl rfl, ⟨by decide, by decide⟩,
    by decide +kernel, by decide +kernel⟩

theorem witness_clear : ready startable 2 { head0 with slotMask := 0x801 } ∧
    maskLegal { head0 with slotMask := 0x801 } ∧
    ∀ i : SlotId, (0x801 : BitVec 16).getLsbD i.val = true →
      (startable.slot i).state = .off ∨ (startable.slot i).state = .done :=
  ⟨ready_of _ _ rfl rfl rfl rfl, ⟨by decide, by decide⟩, by decide +kernel⟩

theorem witness_snapshot : ready soaking 2 head0 ∧ maskLegal head0 ∧
    (∀ j < 32, (1 : BitVec 32).getLsbD j = true ↔ ∃ i : SlotId, i.val = j ∧
      (head0.slotMask.getLsbD i.val && decide ((soaking.slot i).state = .soak ∨
        (soaking.slot i).state = .scan)) = true) :=
  ⟨ready_of _ _ rfl rfl rfl rfl, head0_legal, by decide +kernel⟩

theorem witness_sideband : ready .reset 2 { head0 with selector := 5 } ∧
    (State.reset.slot 5).state = .off ∧ State.reset.decoder.outstanding.length < 4 ∧
    State.reset.sideband.engine.phase = .idle ∧ State.reset.sideband.queue = [] ∧
    (soaking.slot 0).state = .soak ∧ busyPart.sideband.engine.phase ≠ .idle ∧
    4 ≤ ({ Decoder.powerOn with outstanding := [(3, 0), (4, 0), (5, 0), (6, 0)] } :
      Decoder).outstanding.length := ⟨ready_of _ _ rfl rfl rfl rfl, by decide +kernel⟩

theorem witness_frame_start : ((soaking.slot 0).lane 0).power ≠ .parked ∧
    (SlotState.soak, FrameKind.soak) ∈ [(SlotState.settle, FrameKind.idle), (.discover, .idle),
      (.train, .train), (.soak, .soak), (.scan, .scan)] ∧
    ((soaking.slot 0).lane 1).power = .parked := by decide +kernel

theorem witness_good_header :
    goodHeader (headerBits ⟨0, 0⟩ .train 9) = some ⟨⟨0, 0⟩, .train, 9⟩ ∧
      goodHeader (headerBits ⟨1, 2⟩ .soak 9) = some ⟨⟨1, 2⟩, .soak, 9⟩ ∧
      ∀ p, goodHeader (applyPolarity p 0x123456789ABC#48) = none :=
  ⟨by decide +kernel, by decide +kernel, fun p => by cases p <;> decide +kernel⟩

/-- Slot 0 in SOAK with lane 0 searching for the soak source (0, 0) with a candidate. -/
def hunting (candidate : Option Candidate) : State :=
  slot0 fun sl => withLane0 (fun x =>
    { searchingLane x with
      candidate := candidate, soakRole := true, soakSource := some ⟨0, 0⟩, fixedPol := some .normal
      relock := some 0 }) { sl with state := .soak }

theorem witness_hunt : ((hunting none).slot 0).state = .soak ∧ (hunting none).scanner.queue.head? ≠ some 0 ∧
    (((hunting none).slot 0).lane 0).isSearching = true ∧
    (((hunting none).slot 0).lane 0).fixedPol = some .normal ∧
    (∀ n ∈ [2, 3], (((hunting (some ⟨⟨0, 0⟩, .normal, n⟩)).slot 0).lane 0).candidate =
      some ⟨⟨0, 0⟩, .normal, n⟩) ∧
    (((hunting (some ⟨⟨1, 2⟩, .normal, 3⟩)).slot 0).lane 0).soakSource ≠ some ⟨1, 2⟩ := by
  decide +kernel

/-- Lane 0 of `soaking` changed. -/
def lockedWith (f : Lane → Lane) : State := soaking.modSlot 0 (withLane0 f)

theorem witness_lock : (soaking.slot 0).state = .soak ∧ soaking.scanner.queue.head? ≠ some 0 ∧
    ((soaking.slot 0).lane 0).isLocked = true ∧ ((soaking.slot 0).lane 0).source = some ⟨0, 0⟩ ∧
    (((lockedWith fun x => { x with badRun := 2 }).slot 0).lane 0).badRun = 2 ∧
    (((lockedWith fun x => { x with foreign := some (⟨1, 2⟩, 3) }).slot 0).lane 0).foreign =
      some (⟨1, 2⟩, 3) ∧
    (((lockedWith fun x => { x with rx := .hunt, relock := some 0 }).slot 0).lane 0).relock = some 0 ∧
    reached soaking.us 0 = true := by decide +kernel

theorem training_slots : SlotsOk (training 3) := slotsOk_of rfl rfl (by decide +kernel)

theorem witness_training : SlotsOk (training 3) ∧ ((training 3).slot 0).state = .train ∧
    (training 3).scanner.queue.head? ≠ some 0 ∧ (((training 3).slot 0).lane 0).isLocked = true ∧
    ((training 3).slot 0).stateTimer = some 0 ∧ reached (training 3).us 0 = true ∧
    ((training 1).slot 0).confirm[0] = 1 := ⟨training_slots, by decide +kernel⟩

/-- Bits n of a PRBS payload with taps k and j, received as `got`, given the bits before. -/
def prbsStep (x : Lane) (k j : Nat) (got : Nat → Bool) (n : Nat) (before : (m : Nat) → m < n → Bool) : Bool :=
  let bit (d : Nat) : Bool :=
    if h : d ≤ n ∧ 0 < d then before (n - d) (by omega) else x.checkReg.getLsbD (d - n - 1)
  if x.checker = .seeding ∧ n < k then got n else (bit k != bit j)

/-- Every frame has the payload a checker expects, so the statements about frames say something of each. -/
theorem expected_exists (pl : Payload) (pats : Vector Pattern 4) (x : Lane) (count : BitVec 8)
    (got : Nat → Bool) : ∃ want, expectedOf pl pats x count got want := by
  have prbs (k j : Nat) (hj : 0 < j) (hk : 0 < k) : ∃ want : Nat → Bool, ∀ n < 4096,
      want n = if x.checker = .seeding ∧ n < k then got n else
        ((if k ≤ n then want (n - k) else x.checkReg.getLsbD (k - n - 1)) !=
          (if j ≤ n then want (n - j) else x.checkReg.getLsbD (j - n - 1))) := by
    refine ⟨WellFounded.fix (measure id).wf (prbsStep x k j got), fun n _ => ?_⟩
    rw [WellFounded.fix_eq]
    simp [prbsStep, hj, hk]
  cases pl with
  | pattern q =>
    refine ⟨fun n =>
      let o := (count.toNat * 4096 + n) % ((pats[q.val]).length * 512)
      (Memory.read (pats[q.val]).mem (o / 8)).getLsbD (7 - o % 8), fun r h n _ => ?_, fun k j h => ?_⟩
    · obtain rfl : q = r := by simpa using h
      rfl
    · simp [prbsTaps] at h
  | prbs7 => obtain ⟨w, h⟩ := prbs 7 6 (by decide) (by decide); exact ⟨w, by simp, fun k j e => by
      obtain ⟨rfl, rfl⟩ : 7 = k ∧ 6 = j := by simpa [prbsTaps] using e
      exact h⟩
  | prbs15 => obtain ⟨w, h⟩ := prbs 15 14 (by decide) (by decide); exact ⟨w, by simp, fun k j e => by
      obtain ⟨rfl, rfl⟩ : 15 = k ∧ 14 = j := by simpa [prbsTaps] using e
      exact h⟩
  | prbs23 => obtain ⟨w, h⟩ := prbs 23 18 (by decide) (by decide); exact ⟨w, by simp, fun k j e => by
      obtain ⟨rfl, rfl⟩ : 23 = k ∧ 18 = j := by simpa [prbsTaps] using e
      exact h⟩
  | prbs31 => obtain ⟨w, h⟩ := prbs 31 28 (by decide) (by decide); exact ⟨w, by simp, fun k j e => by
      obtain ⟨rfl, rfl⟩ : 31 = k ∧ 28 = j := by simpa [prbsTaps] using e
      exact h⟩

theorem witness_frames : (soakingPattern.slot 0).profile.payload = .pattern 0 ∧
    soakingPattern.scanner.queue.head? ≠ some 0 ∧
    ((soakingPattern.slot 0).lane 0).isLocked = true ∧ ((soakingPattern.slot 0).lane 0).rxFrame = .inLock ∧
    ((soakingPattern.slot 0).lane 0).soakRole = true ∧
    ((soakingPattern.slot 0).lane 0).lastKind = some .soak ∧
    (soaking.slot 0).profile.payload.isPrbs = true ∧
    (((lockedWith fun x => { x with checker := .seeding }).slot 0).lane 0).checker = .seeding := by
  decide +kernel

/-- Slot 0 in a state with presence tracked and its debounce timer at its expiry. -/
def debounced (st : SlotState) (present : Bool) (attempts : Nat) (pin : Bool) : State :=
  let s := (slotIn st).modSlot 0 fun sl =>
    { sl with debounceTimer := some 0, present := present, attempts := attempts }
  { s with presN := s.presN.set 0 pin }

theorem witness_presence : ((slotIn .watch).slot 0).tracking = true ∧ (slotIn .watch).porst = false ∧
    rawInput (slotIn .watch) 0 .pin = false ∧ rawInput (debounced .watch false 0 true) 0 .pin = true ∧
    ((debounced .watch false 0 true).slot 0).debounceTimer = some 0 ∧
    ((debounced .watch false 0 true).slot 0).present = false ∧
    ((debounced .done true 0 false).slot 0).present = true := by decide +kernel

theorem witness_removal (n : Nat) (h : n ≤ 2) : SlotsOk (debounced .train true n false) ∧
    SweepOk (debounced .train true n false) ∧
    ((debounced .train true n false).slot 0).attempts = n ∧
    rawInput (debounced .train true n false) 0 .pin = false ∧
    ((debounced .train true n false).slot 0).present = true := by
  refine ⟨slotsOk_of rfl rfl ?_, ?_, rfl, rfl, rfl⟩
  · obtain rfl | rfl | rfl : n = 0 ∨ n = 1 ∨ n = 2 := by omega
    all_goals decide +kernel
  · obtain rfl | rfl | rfl : n = 0 ∨ n = 1 ∨ n = 2 := by omega
    all_goals exact sweepOk_of rfl rfl (by decide +kernel)

theorem witness_settle : ((slot0 fun sl => { sl with state := .settle, stateTimer := some 0 }).slot
    0).stateTimer = some 0 ∧ State.reset.sideband.engine.phase = .idle ∧
    busyPart.sideband.engine.phase ≠ .idle := by decide +kernel

/-- A host entry of block 3 in its first try. -/
def hostTry (postWait : Nat) (g : Engine → Engine) : State :=
  serving (.host (host3 postWait)) fun x =>
    g { x with phase := .try, txn := (host3 0).txn, tries := 1 }

theorem witness_try : (hostTry 0 id).sideband.engine.phase = .try ∧
    (hostTry 0 id).sideband.engine.abandoned = false ∧ (hostTry 0 id).sideband.engine.tries < 3 ∧
    (hostTry 0 fun g => { g with phase := .retryWait, wait := some 0 }).sideband.engine.wait = some 0 ∧
    reached (hostTry 0 id).us 0 = true := by decide +kernel

/-- A host entry whose transaction ends in each way: read, write, third address NAK, data NAK, stuck, and a
post-wait of 0 and of 5. -/
theorem witness_host_end : (∀ w ∈ [0, 5], (hostTry w id).sideband.queue = .host (host3 w) :: [] ∧
      outstandingTag (hostTry w id).decoder (host3 w).block = some 0x55) ∧
    endsTxn (hostTry 5 id).sideband.engine.txn 1 (.success (Vector.replicate 8 7)) (.success [7, 7]) ∧
    endsTxn (hostTry 5 id).sideband.engine.txn 3 (.addressNak 2) .nakAddress ∧
    endsTxn { (host3 5).txn with direction := .write } 1 (.dataNak 1) (.nakData 1) ∧
    (hostTry 5 fun g => { g with phase := .recovery }).sideband.engine.phase = .recovery ∧
    (hostTry 5 fun g =>
      { g with phase := .postWait, wait := some 0, result := some (.nakData 1) }).sideband.engine.result
        = some (.nakData 1) :=
  ⟨by decide +kernel, .inl ⟨_, rfl, rfl⟩, .inr (.inl ⟨2, rfl, .inl rfl, by decide, rfl⟩),
    .inr (.inr ⟨1, rfl, rfl, by decide, rfl⟩), rfl, rfl⟩

/-- A SIDEBAND completion that waits behind another word, with a place free. -/
theorem witness_word_joins :
    let word (n : BlockId) (sideband : Bool) : Completion := ⟨n, 0, 7, .done, 0, 0, none, sideband⟩
    let s : State := { hostTry 0 id with decoder := { Decoder.powerOn with
      backlog := [word 9 false, word 3 true], outstanding := [(3, 0x55)] } }
    (∃ c ∈ s.decoder.backlog, c.block = 3 ∧ c.fromSideband = true) ∧
      outstandingTag s.decoder 3 ≠ none ∧ ∀ e ∈ s.path.ins, e.place ≠ 0 := by decide +kernel

/-- Slot 0 in DISCOVER with its walk in this phase. -/
def walking (phase : Phase) (walk : Walk) : State :=
  serving (.discovery 0) fun g =>
    { g with phase := phase, wait := some 0, walk := walk, txn := .readStart 0 }

/-- The slot removed in DISCOVER while its walk holds the engine, and while it waits behind a host entry. -/
theorem witness_walk_removed (phase : Phase) :
    let s := (walking phase .fresh).modSlot 0 fun sl =>
      { sl with tracking := true, present := true, debounceTimer := some 0 }
    SlotsOk s ∧ SweepOk s ∧ (s.slot 0).debounceTimer = some 0 ∧ reached s.us 0 = true ∧
      rawInput s 0 (s.slot 0).profile.presenceSource = false ∧ (s.slot 0).present = true ∧
      (s.slot 0).state ∈ [SlotState.settle, .discover, .train, .soak, .scan] :=
  ⟨slotsOk_of rfl rfl (by cases phase <;> decide +kernel),
    sweepOk_of rfl rfl (by cases phase <;> decide +kernel),
    by cases phase <;> decide +kernel⟩

theorem witness_recovery : SlotsOk (walking .recovery .fresh) ∧
    (walking .recovery .fresh).sideband.queue = .discovery 0 :: [] ∧
    (walking .recovery .fresh).sideband.engine.phase = .recovery ∧
    (walking .recovery .fresh).sideband.engine.abandoned = false ∧
    (hostTry 0 id).sideband.engine.phase = .try :=
  ⟨slotsOk_of rfl rfl (by decide +kernel), by decide +kernel⟩

/-- A write of two bytes with its data, a try and a recovery that are abandoned, and the wires within a
sequence. -/
theorem witness_framed : (⟨0, .write, 4, 2, [1, 2]⟩ : Txn).count ≤ [1, 2].length ∧
    (hostTry 0 fun g => { g with abandoned := true }).sideband.engine.abandoned = true ∧
    resultPossible (hostTry 0 id).sideband.engine.txn (.addressNak 2) = true ∧
    (let g := (hostTry 0 fun g => { g with phase := .recovery, abandoned := true }).sideband.engine
    g.phase = .recovery ∧ g.abandoned = true) ∧
    ({ sbc := .low, sbd := .released } : Wires).sbc = .low ∧
    (lineDriven (hostTry 0 id) 0).isSome = true := by decide +kernel

/-- A LOOP_MAP whose plug lane 1 returns onto lane 2, inverted. -/
def loopMap1 : LoopMap :=
  ⟨#v[⟨0, false, true⟩, ⟨2, true, true⟩, ⟨2, false, true⟩, ⟨3, false, true⟩], 9, 5, 0⟩

/-- Walks that end: after the plug settle wait; with a silent plug after the third try, required and not; and
with a plug of one lane where lane 1 alone is in the mask. -/
theorem witness_walk_end :
    let settled := walking .plugSettle ⟨.settling, ⟨some ⟨1, 2, 3, 3, 0⟩, some loopMap1, 2⟩, []⟩
    let silent := walking .try .fresh
    SlotsOk settled ∧ SlotsOk silent ∧ settled.sideband.queue = .discovery 0 :: [] ∧
      settled.sideband.engine.wait = some 0 ∧ reached settled.us 0 = true ∧
      (∃ l : LaneId, (settled.slot 0).profile.laneMask.getLsbD l.val = true ∧ l.val < 3) ∧
      ((loopMap1.lanes[1]).present = true ∧ (loopMap1.lanes[1]).ret = 2) ∧
      (∀ k : LaneId, (loopMap1.lanes[k.val]).ret ≠ 1) ∧
      endsTxn (.readStart 0) 3 (.addressNak 0) .nakAddress ∧
      (∀ policy, ∃ w, Walk.fresh.next policy 0 .nakAddress =
        .finish (decide (policy = .acceptAnonymous)) w) ∧
      ∀ l : LaneId, ¬ ((2 : BitVec 4).getLsbD l.val = true ∧ l.val < 1) :=
  ⟨slotsOk_of rfl rfl (by decide +kernel), slotsOk_of rfl rfl (by decide +kernel), by decide +kernel,
    by decide +kernel, by decide +kernel, by decide +kernel, by decide +kernel, by decide +kernel,
    .inr (.inl ⟨0, rfl, .inl rfl, by decide, rfl⟩),
    fun policy => by cases policy <;> exact ⟨_, rfl⟩, by decide +kernel⟩

/-- Walks that go on: from the start pointers 1 and 252, from a head to its payload and over a payload that is
not read, from a payload to the next head and to the loop write, and into the plug settle wait. -/
theorem witness_walk :
    let at_ (stage : WalkStage) : Walk := { Walk.fresh with stage := stage }
    (walking .try .fresh).sideband.queue = .discovery 0 :: [] ∧
      endsTxn (.readStart 0) 1 (.success (Vector.replicate 8 16)) (.success [16]) ∧
      (∀ b ∈ [1, 252], ∃ w', Walk.fresh.next .acceptAnonymous 0 (.success [BitVec.ofNat 8 b]) =
        .transact .read b 4 [] w') ∧
      (∃ w', (at_ (.head 16)).next .acceptAnonymous 0 (.success [0x7F, 0x20, 0x04, 0x00]) =
        .transact .read 0x20 4 [] w') ∧
      (∃ w', (at_ (.head 16)).next .acceptAnonymous 0 (.success [0x01, 0x20, 0x08, 0x00]) =
        .transact .read 20 8 [] w') ∧
      (∃ w', (at_ (.payload 16 1 28 8 0)).next .acceptAnonymous 0 (.success [0, 0, 0, 0, 0, 0, 0, 4]) =
        .transact .read 28 4 [] w') ∧
      (∃ w', (at_ (.payload 16 2 0 6 0)).next .acceptAnonymous 0 (.success [0, 0, 0, 0, 27, 5]) =
        .transact .write 27 1 [1] w') ∧
      ∃ w', (⟨.loopWrite, ⟨none, some loopMap1, 1⟩, []⟩ : Walk).next .acceptAnonymous 0
        (.success []) = .settle 5 w' := by
  refine ⟨rfl, .inl ⟨_, rfl, rfl⟩, ?_, ⟨_, rfl⟩, ⟨_, rfl⟩, ⟨_, rfl⟩, ⟨_, rfl⟩, ⟨_, rfl⟩⟩
  intro b hb
  obtain rfl | rfl : b = 1 ∨ b = 252 := by simpa using hb
  all_goals exact ⟨_, rfl⟩

/-- `soaking` one increment before a checkpoint; slot 0 has joined and its soak ends at the next. -/
def beforeCheckpoint : State :=
  { soaking.modSlot 0 fun sl =>
      { sl with joined := true, profile := { sl.profile with marginMode := .off, soakLength := 1 } } with
    timebase := ⟨1, 1, 1, 0, 0, 0⟩ }

theorem witness_checkpoint : SlotsOk beforeCheckpoint ∧ SweepOk beforeCheckpoint ∧
    timebaseOk beforeCheckpoint.timebase ∧ beforeCheckpoint.porst = false ∧
    beforeCheckpoint.timebase.prescalerCount + 1 = beforeCheckpoint.timebase.prescale ∧
    beforeCheckpoint.timebase.periodCount + 1 = beforeCheckpoint.timebase.period ∧
    beforeCheckpoint.timebase.postscalerCount + 1 = beforeCheckpoint.timebase.postscale :=
  ⟨slotsOk_of rfl rfl (by decide +kernel), sweepOk_of rfl rfl (by decide +kernel),
    by unfold timebaseOk; decide +kernel,
    by decide +kernel⟩

/-- The soak of slot 0 that ends into SCAN, behind no other slot, with its one soaked lane DEAD, and behind slot
1, which is swept; one over its ceiling; and one short of its length. -/
theorem witness_soak_exits :
    let margin (m : MarginMode) (s : State) : State :=
      s.modSlot 0 fun sl => { sl with profile := { sl.profile with marginMode := m } }
    let above : State := beforeCheckpoint.modSlot 0 fun sl =>
      withLane0 (fun x => { x with counters := { x.counters with errors := 6 } })
        { sl with profile := { sl.profile with errorCeiling := 5 } }
    let swept : State := margin .always { busyPart with timebase := ⟨1, 1, 1, 0, 0, 0⟩ }
    let dead : State := (margin .always beforeCheckpoint).modSlot 0 (withLane0 fun x =>
      { x with rx := .dead, deadCause := some .relockTimeout })
    (((margin .always beforeCheckpoint).slot 0).profile.marginMode = .always ∧
      ((beforeCheckpoint.slot 0).lane 0).soakRole = true ∧ ((beforeCheckpoint.slot 0).lane 0).rx ≠ .dead ∧
      1 ≤ (beforeCheckpoint.slot 0).checkpoints + 1 ∧
      ((margin .onPass beforeCheckpoint).slot 0).profile.marginMode = .onPass) ∧
    ((above.slot 0).profile.errorCeiling ≠ 0 ∧ 5 < ((above.slot 0).lane 0).counters.errors) ∧
    (SlotsOk dead ∧ SweepOk dead ∧ ((dead.slot 0).lane 0).soakRole = true) ∧
    SlotsOk swept ∧ SweepOk swept ∧ swept.scanner.queue = [1] ∧ (soaking.slot 0).joined = false :=
  ⟨by decide +kernel, by decide +kernel, ⟨slotsOk_of rfl rfl (by decide +kernel),
    sweepOk_of rfl rfl (by decide +kernel), by decide +kernel⟩, slotsOk_of rfl rfl (by decide +kernel),
    sweepOk_at (i := 1) rfl rfl rfl (by decide +kernel) (by decide +kernel), by decide +kernel⟩

/-- Slot 0 swept at a position in SCAN, its lane 0 at a step state. -/
def swept (position : Nat) (step : StepState) (f : Lane → Lane) : State :=
  { slot0 fun sl => withLane0 (fun x => f { lockedLane x with
      soakRole := true, soakSource := some ⟨0, 0⟩, fixedPol := some .normal, lastKind := some .scan })
      { sl with state := .scan, scan := ⟨.sweeping, Vector.replicate 4 .empty⟩ } with
    scanner := ⟨[0], some ⟨position, #v[step, .unscanned, .unscanned, .unscanned]⟩⟩ }

theorem witness_swept :
    (swept 31 .waitLock id).scanner.queue.head? = some 0 ∧ ((swept 31 .waitLock id).slot 0).state = .scan ∧
    (((swept 0 .waitLock fun x => { searchingLane { x with rx := .hunt } with
      candidate := some ⟨⟨0, 0⟩, .normal, 3⟩, relock := some 0 }).slot 0).lane 0).isSearching = true ∧
    (((swept 0 (.dwell 0 0 false) fun x => { x with foreign := some (⟨1, 2⟩, 3) }).slot 0).lane 0).foreign =
      some (⟨1, 2⟩, 3) ∧
    (((swept 0 (.dwell 0 0 false) fun x => { x with badRun := 2 }).slot 0).lane 0).badRun = 2 ∧
    ((swept 0 (.dwell 63 0 true) id).slot 0).profile.dwell = 4 ∧
    (((swept 0 (.dwell 63 0 true) id).slot 0).lane 0).rxFrame = .inLock := by decide +kernel

theorem witness_sweep_goes_on : (swept 30 .finished id).scanner.queue = 0 :: [] ∧
    (swept 30 .finished id).scanner.sweep =
      some ⟨30, #v[.finished, .unscanned, .unscanned, .unscanned]⟩ ∧
    (∀ st ∈ [StepState.finished, .broken, .unscanned], st ≠ .waitLock) ∧ ([] : List SlotId).length < 12 ∧
    State.reset.scanner.queue = [] := by decide +kernel

/-- R156: of the runs 3..5, 9..11 and 31..1 the one that contains 0 gives the centre 0; without it the lowest
start gives 3. -/
theorem test_eye_ties :
    let counts (open_ : List Nat) : Vector Nat 32 := Vector.ofFn fun p => if p.val ∈ open_ then 0 else 7
    eye (counts [3, 4, 5, 9, 10, 11, 31, 0, 1]) 2 = (3, 0, false) ∧
      eye (counts [2, 3, 4, 9, 10, 11]) 2 = (3, 3, false) := by decide +kernel

/-- An EVENT record of slot 0 selected, W at `write` of a 4 KiB ring and these records unconsumed. -/
def selected (write : Nat) (list : List Published) : State :=
  { slot0 fun sl => { sl with flags := 1 } with
    writer := { ringAt write list with selection := some ⟨.slot 0, .event, 32⟩ } }

/-- A PROGRESS record of slot 0 selected, W 32 bytes before the end of a 4 KiB ring. -/
def selectedAtEnd : State :=
  { slot0 fun sl => { sl with progressPending := true } with
    writer := { ringAt 4064 [] with selection := some ⟨.slot 0, .progress, 64⟩ } }

theorem witness_record_write :
    (selected 64 []).writer.selection = some ⟨.slot 0, .event, 32⟩ ∧
      RecordKind.event ∈ pendingKinds (selected 64 []) (.slot 0) ∧
      (64 + 32 ≤ 4096 ∧ 32 ≤ 4096 - (selected 64 []).writer.used) ∧
      (selectedAtEnd.writer.selection = some ⟨.slot 0, .progress, 64⟩ ∧
        RecordKind.progress ∈ pendingKinds selectedAtEnd (.slot 0) ∧ 4096 < 4064 + 64 ∧
        4096 - 4064 + 64 ≤ 4096 - selectedAtEnd.writer.used) ∧
      4096 - (selected 64 [⟨64, 4032, .pad, 0⟩, ⟨0, 64, .progress, 0⟩]).writer.used < 32 := by decide +kernel

/-- A selection with the length of its kind, at the top of the ring. -/
theorem witness_layout : (selected 4064 []).writer.selection = some ⟨.slot 0, .event, 32⟩ ∧
    recordLength (selected 4064 []) (.slot 0) .event = 32 ∧
    RecordKind.event ∈ pendingKinds (selected 4064 []) (.slot 0) ∧
    (selected 4064 []).scanner.queue.length ≤ 12 ∧ 4064 + 32 ≤ 4096 ∧
    (selected 4064 []).writer.used + 32 ≤ 4096 := by decide +kernel

theorem witness_pieces_of : (0x100FE0 : Addr).toNat % 32 = 0 ∧
    (zeroBytes 288).length % 16 = 0 ∧ (zeroBytes 288).length ≤ 288 ∧
    (piecesOf 0x100FE0 (zeroBytes 288)).length = 2 := by decide +kernel

theorem witness_round_trip : (Instr.status 5 ⟨1, 2, 3, 4⟩).wf = true ∧
    (Instr.status 5 ⟨1, 2, 3, 4⟩).block? = some 5 := by decide

theorem witness_path_invariant : PathOk wordWaits ∧ DecoderOk wordWaits ∧ WindowsOk wordWaits :=
  ⟨by unfold PathOk; decide +kernel, by unfold DecoderOk; decide +kernel, reset_windows⟩

theorem witness_contents : FindingsOk soaking ∧ PatternsOk soaking ∧ CountsOk soaking ∧
    SettingsOk soaking := by
  refine ⟨?_, reset_patterns, ?_, ?_⟩
  · unfold FindingsOk findingsOk; decide +kernel
  · unfold CountsOk countersOk; decide +kernel
  · unfold SettingsOk profileOk timebaseOk; decide +kernel

theorem witness_claims : SlotsOk busyPart ∧ SweepOk busyPart ∧ ClaimsOk busyPart :=
  ⟨busyPart_slots, busyPart_sweep, by unfold ClaimsOk; decide +kernel⟩

/-! ### One step of each family of commands -/

/-- R8: a WRITE into a REPORT window is counted as a trespass write. -/
theorem test_trespass_counted :
    let s := { State.reset with path := { State.reset.path with
      windows := State.reset.path.windows.set 1 ⟨0x100000, 4096, .report, 0⟩ } }
    (after (.requestAccept { write64 (zeroBytes 64) with addr := 0x100000 }) s).decoder.counts =
      { Counts.zero with trespassWrites := 1 } := by decide +kernel

/-- R5: a request across a 4 KiB page is counted as a crossing request. -/
theorem test_crossing_counted :
    (after (.requestAccept { read16 with addr := 4080, beats := 2 }) .reset).decoder.counts =
      { Counts.zero with crossingRequests := 1 } := by decide +kernel

/-- R1: a forwarded request keeps its ID with the top bit clear; an inserted write has it set. -/
theorem test_port_ids :
    (after .forwardedIssue (queued [queuedRead 0] [])).path.memOut.map MemRequest.id = some 5#9 ∧
      (after .insertedIssue (queued [] [queuedInsert 0])).path.memOut.map MemRequest.id =
        some 0x102#9 := by decide +kernel

/-- R24: the completion of block 3 is written to bytes 48..63 of the block, enables on the last eight. -/
theorem test_completion_write :
    let c : Completion := ⟨3, completionAddr (.command 0x2000) 3, 0x1234, .badParam, 7, 5, none, false⟩
    c.write = ⟨0x200000F0, List.replicate 8 none ++ [some 0x34, some 0x12, some 0x20, some 7, some 5,
      some 0, some 0, some 0]⟩ := by decide +kernel

/-- R10: the decoder is served first after reset and its word leaves the backlog. -/
theorem test_join : (after .insertJoin wordWaits).decoder.backlog = [] ∧
    (after .insertJoin wordWaits).path.ins.map InsEntry.place = [0] := by decide +kernel

/-- R22, R25: an unknown code is refused with UNKNOWN and the code as the extra. -/
theorem test_unknown : (after (.unknownCode 2 0x7E head0) .reset).decoder.backlog =
    [⟨2, 0xB0, 7, .unknown, 0, 0x7E, none, false⟩] := by decide +kernel

/-- R9, R31: a window that overlaps window 0 is refused with reason 7 and that window's number. -/
theorem test_window_overlap :
    (after (.setWindow 2 { head0 with selector := 3 } ⟨1, 0, 0, 4096⟩) .reset).decoder.backlog =
      [⟨2, 0xB0, 7, .badParam, 7, 0, none, false⟩] := by decide +kernel

/-- R29: three fields of a SET_PROFILE out of range are clamped and counted. -/
theorem test_profile_clamped :
    let t := after (.setProfile 2 head0 threeClamps) .reset
    (t.profiles[0]).debounce = 1 ∧ (t.profiles[0]).relockTimeout = 1 ∧ (t.profiles[0]).berX = 47 ∧
      t.decoder.backlog.map Completion.extra = [3] := by decide +kernel

/-- R35: a START of a slot under test is refused with the slot and its mask. -/
theorem test_start_refused : (after (.start 2 head0) soaking).decoder.backlog =
    [⟨2, 0xB0, 7, .refusedState, 0, 1, none, false⟩] := by decide +kernel

/-- R38, R104: a SIDEBAND of a slot in OFF begins at 100 kHz and is not answered yet. -/
theorem test_sideband_begins :
    let t := after (.sideband 2 head0 ⟨0, 0, 1, 0, Vector.replicate 8 0⟩) .reset
    t.sideband.engine.phase = .try ∧ t.sideband.engine.speed = .khz100 ∧ t.decoder.backlog = [] ∧
      t.decoder.outstanding = [(2, 7)] := by decide +kernel

/-- R40: a second STATUS merges into the first with detail 1. -/
theorem test_status_merges :
    (after (.status 3 head0) (after (.status 2 head0) .reset)).decoder.backlog.map Completion.detail =
      [0, 1] := by decide +kernel

/-- R67, R76: the third bad header in a row loses the lock of a soaked lane and counts a drop. -/
theorem test_lock_lost :
    let t := after (.headerInLock 0 0 0) (lockedWith fun x => { x with badRun := 2 })
    ((t.slot 0).lane 0).rx = .hunt ∧ ((t.slot 0).lane 0).counters.drops = 1 ∧
      ((t.slot 0).lane 0).relock = some 500 ∧ (t.slot 0).flags = EventFlags.laneDrop 0 := by
  decide +kernel

/-- R151, R153: a lane that dies while FINISHED at position 6 is broken at 7, its count at 6 kept. -/
theorem test_dies_finished :
    let s := swept 6 .finished fun x => { x with rx := .hunt, relock := some 0 }
    let dwelling : State := { s with scanner := ⟨[0], some ⟨6, #v[.finished, .dwell 0 0 false, .unscanned,
      .unscanned]⟩⟩ }
    ((after (.relockTimeout 0 0) dwelling).scanner.sweep.map fun sw => sw.steps[0]) = some .finished ∧
      (((after (.relockTimeout 0 0) s).slot 0).scan.lanes[0]).broken = some (7, .relockTimeout) ∧
      countAt (((after (.relockTimeout 0 0) s).slot 0).scan.lanes[0]).counts 6 = 0 := by decide +kernel

/-- R154: an advance that meets the relock expiry of a FINISHED lane breaks the lane at the next position, as
the expiry taken first does; the counts from there on are 255. -/
theorem test_expiry_meets_advance :
    let s := (swept 6 .finished fun x => { x with rx := .hunt, relock := some 0 }).modSlot 0 fun sl =>
      sl.withLane 1 { lockedLane (sl.lane 1) with soakRole := true, lastKind := some .scan }
    let dwelling : State := { s with scanner := ⟨[0], some ⟨6, #v[.finished, .dwell 63 0 true, .unscanned,
      .unscanned]⟩⟩ }
    let last : Instr := .frameReceived 0 1 0
    let result (t : State) := ((t.slot 0).scan.lanes[0], ((t.slot 0).lane 0).rx, ((t.slot 0).lane 0).position)
    (result (after last dwelling)).1.broken = some (7, .relockTimeout) ∧
      result (after last dwelling) = result (after last (after (.relockTimeout 0 0) dwelling)) ∧
      (result (after last dwelling)).2 = (.dead, 7) := by decide +kernel

/-- R81: the debounce of the default profile runs 20 ms. -/
theorem test_debounce_time :
    ((after (.presNChange 0 true) (slotIn .watch)).slot 0).debounceTimer = some 20000 := by
  decide +kernel

/-- R85: the third removal ends the test with REMOVED_REPEATEDLY. -/
theorem test_third_removal :
    let t := after (.debounceExpiry 0) (debounced .train true 2 false)
    (t.slot 0).state = .verdict ∧ (t.slot 0).attempts = 3 ∧
      (t.slot 0).findings = [⟨.removedRepeatedly, none, true, 3⟩] := by decide +kernel

/-- R105: 1 ms to the next try after an address NAK. -/
theorem test_retry_wait :
    (after (.tryEnd (.addressNak 0)) (hostTry 0 id)).sideband.engine.wait = some 1000 := by decide +kernel

/-- R105: a try whose first byte is answered NAK sends START, 0x58 and STOP; at 100 kHz a 1-byte read that
fails so takes 11 clock periods, and one acknowledged throughout 39 (R103). -/
theorem test_nak_line :
    (after (.tryEnd (.addressNak 0)) (hostTry 0 id)).sideband.engine.line =
      some ⟨0, .khz100, [.start, .send 0x58, .stop]⟩ ∧
    linePeriods [.start, .send 0x58, .stop] = 11 ∧ linePeriods (Txn.readStart 0).sequence = 39 := by
  decide +kernel

/-- R102: a START, the byte 0x58 most significant bit first with SBD released for its ninth clock, and a
STOP, from an idle line to an idle line. -/
theorem test_wires :
    let start := LineItem.start.moves
    let low := Wires.idle.after start
    low = ⟨.low, .low⟩ ∧
    sampledDrives low (LineItem.moves (.send 0x58)) =
      [.low, .released, .low, .released, .released, .low, .low, .low, .released] ∧
    Wires.idle.after (lineMoves [.start, .send 0x58, .stop]) = Wires.idle := by decide +kernel

/-- R106, R39, R117: the recovery's STOP answers the host entry with SIDEBAND_STUCK and the clock's cause; the
word joins at once, and its block is no longer outstanding. -/
theorem test_stuck_answer :
    let t := after .recoveryEnd (after .clockHeldLow (hostTry 0 id))
    t.path.ins.map InsEntry.write =
      [(⟨3, 0xF0, 0x55, .sidebandStuck, 1, 0, none, true⟩ : Completion).write] ∧
      t.decoder.backlog = [] ∧ t.decoder.outstanding = [] := by decide +kernel

/-- R23, R38, R117: with four SIDEBANDs outstanding another is accepted once an entry has ended, and refused
REFUSED_BUSY before, or while the Insert Queue is full. -/
theorem test_sideband_room :
    let s : State := { hostTry 5 fun g => { g with phase := .postWait, wait := some 0, result := some .nakAddress } with
      decoder := { Decoder.powerOn with outstanding := [(3, 0x55), (4, 0), (5, 0), (6, 0)] } }
    let full : State := { s with path := { s.path with
      ins := ([0, 1, 2, 3, 4, 5, 6, 7] : List (Fin 8)).map fun k => { queuedInsert 0 with place := k } } }
    let fifth : Instr := .sideband 2 { head0 with selector := 1 } ⟨0, 0, 1, 0, Vector.replicate 8 0⟩
    (after fifth (after .postWaitExpiry s)).decoder.outstanding = [(4, 0), (5, 0), (6, 0), (2, 7)] ∧
      (after fifth s).decoder.backlog.map Completion.status = [.refusedBusy] ∧
      (after fifth (after .postWaitExpiry full)).decoder.backlog.map Completion.status =
        [.sidebandNak, .refusedBusy] := by decide +kernel

/-- R122, R123: a lane LOCKED to its own transmitter is classed MATCH, one beyond the mask EXCLUDED. -/
theorem test_wiring :
    ((after (.trainTimeout 0) (training 1)).slot 0).wiring.toList.map WireEntry.cls =
      [.isMatch, .excluded, .excluded, .excluded] := by decide +kernel

/-- R132: by default the 1000th increment is an interval: the period counter returns to 0. -/
theorem test_interval_counts :
    (after .interval { State.reset with timebase := ⟨1, 1000, 10, 0, 999, 0⟩ }).timebase =
      ⟨1, 1000, 10, 0, 0, 1⟩ := by decide +kernel

/-- R166: a record that would pass the ring's end lets a PAD to that end go first. -/
theorem test_pad_first :
    (after .recordWriteStart selectedAtEnd).writer.inFlight.map (fun f => (f.kind, f.length)) =
      some (.pad, 32) := by decide +kernel

/-- R174: the age timer's expiry makes the condition true and counts it. -/
theorem test_age :
    let s := { State.reset with attention := { Attention.powerOn with age := .running 0, delay := 3 } }
    (after .ageTimerExpiry s).attention.condition = true ∧
      (after .ageTimerExpiry s).attention.count = 1 := by decide +kernel

end Sys2Proof.Tests
end

section
/-! PROOF. What a step can do to the memory path, the two lists of the Command Decoder and the Record
Writer, said once: every step is a chain of the moves of `CoreMove`. The invariants of these blocks are
then one case for each move. -/

namespace Sys2Proof.Machine

open Sys2Proof Sys2Proof.Safety

/-- The memory path, the backlog, the outstanding SIDEBAND set, the Record Writer and PORST_N are the
same. -/
structure SameCore (s t : State) : Prop where
  path        : t.path = s.path
  backlog     : t.decoder.backlog = s.decoder.backlog
  outstanding : t.decoder.outstanding = s.decoder.outstanding
  writer      : t.writer = s.writer
  porst       : t.porst = s.porst

/-- The single moves a step is made of, each under the guard that the model puts before it. -/
inductive CoreMove : State → State → Prop
  /-- anything outside the core -/
  | outside {s t : State} (h : SameCore s t) : CoreMove s t
  | accept {s : State} (e : FwdEntry) (room : s.path.fwd.length < 32) :
      CoreMove s (s.modPath fun p => { p with fwd := p.fwd ++ [e], nextArrival := p.nextArrival + 1 })
  | issueForwarded {s : State} (h : FwdEntry) (room : s.path.out.length < 64) :
      CoreMove s (s.modPath (issueFwd h))
  | issueInserted {s : State} (e : InsEntry) : CoreMove s (s.modPath (issueIns e))
  | response {s : State} (id : BitVec 8) (sysOut : Option SysResponse) :
      CoreMove s (s.modPath fun p => { p with out := dropOut id p.out, sysOut := sysOut })
  | join {s : State} (k : Fin 8) (prod : Producer) (w : InsWrite) (free : freePlace s.path.ins = some k) :
      CoreMove s (producerJoined prod k (s.modPath (joinQueue k prod w)))
  | leave {s : State} (k : Fin 8) : CoreMove s (s.modPath (leaveQueue k))
  | portReset {s : State} :
      CoreMove s { s with path := s.path.portReset, decoder := s.decoder.portReset }
  | powerOn {s : State} : CoreMove s (powerOnReset s)
  | powerOnRelease {s : State} (wbase : BitVec 16) (on : s.porst = true) :
      CoreMove s { s with
        porst := false, path := { s.path with windows := s.path.windows.set 0 (.command wbase) } }
  | setWindow {s : State} (h : BlockHead) (p : WindowParams) (run : s.inReset = false)
      (legal : firstFault (windowFaults s h p) = none) :
      CoreMove s { s with
        path := { s.path with windows := s.path.windows.set (sel8 h.selector).val (newWindow p) } }
  | word {s : State} (c : Completion) :
      CoreMove s { s with
        decoder := { s.decoder with backlog := placeCompletion s.decoder.backlog c } }
  | sideband {s : State} (n : BlockId) (tag : BitVec 16) (fresh : outstandingTag s.decoder n = none)
      (room : s.decoder.outstanding.length < 4) :
      CoreMove s { s with
        decoder := { s.decoder with outstanding := s.decoder.outstanding ++ [(n, tag)] } }
  | dropStale {s : State} : CoreMove s (dropStale s)
  | select {s : State} : CoreMove s (select s)
  | startWrite {s : State} : CoreMove s (startWrite s)
  | publish {s : State} (f : InFlight) (r : Ring) (inFlight : s.writer.inFlight = some f)
      (ring : s.writer.ring = some r) : CoreMove s (s.modWriter (publishRing f r.size s.us))
  | fail {s : State} :
      CoreMove s (s.modWriter fun w => { w with broken := true, inFlight := none, selection := none })
  | nextPiece {s : State} (f : InFlight) (rest : List InsWrite) (inFlight : s.writer.inFlight = some f) :
      CoreMove s (s.modWriter fun w => { w with inFlight := some { f with pieces := rest, joined := none } })
  | abandonedDone {s : State} : CoreMove s (s.modWriter fun w => { w with abandoned := none })
  | ringReset {s : State} (left : Option (Fin 8)) :
      CoreMove s (s.modWriter fun _ => .reset (reportRing s.path.windows) left)
  | consume {s : State} (covered : Published → Bool) : CoreMove s (s.modWriter (Writer.consume covered))

/-- A chain of moves. -/
abbrev CoreMoves : State → State → Prop := Relation.ReflTransGen CoreMove

theorem CoreMove.moves {s t : State} (h : CoreMove s t) : CoreMoves s t := .single h

theorem SameCore.moves {s t : State} (h : SameCore s t) : CoreMoves s t := .single (.outside h)

theorem CoreMoves.refl (s : State) : CoreMoves s s := Relation.ReflTransGen.refl

/-- A change outside the core before a chain of moves. -/
theorem CoreMoves.after {s t u : State} (moved : CoreMoves t u) (h : SameCore s t) : CoreMoves s u :=
  .head (.outside h) moved

/-- What the transitions of the slots change lies outside the core. -/
theorem testMoves {s t : State} (h : SameOutsideTest s t) : CoreMoves s t :=
  SameCore.moves ⟨by rw [h], by rw [h], by rw [h], by rw [h], by rw [h]⟩

/-- A fold of operations that are each a chain of moves is one. -/
theorem CoreMoves.fold {α : Type} {f : State → α → State} (h : ∀ s a, CoreMoves s (f s a)) (xs : List α)
    (s : State) : CoreMoves s (xs.foldl f s) := by
  induction xs generalizing s with
  | nil => exact .refl s
  | cons a xs ih => exact (h s a).trans (ih (f s a))

/-! ### Operations outside the core -/

theorem modCounts_moves (f : Counts → Counts) (s : State) : CoreMoves s (s.modCounts f) :=
  SameCore.moves ⟨rfl, rfl, rfl, rfl, rfl⟩

theorem modAttention_moves (f : Attention → Attention) (s : State) : CoreMoves s (s.modAttention f) :=
  SameCore.moves ⟨rfl, rfl, rfl, rfl, rfl⟩

theorem setStatusPending_moves (b : Bool) (s : State) : CoreMoves s (s.setStatusPending b) :=
  SameCore.moves ⟨rfl, rfl, rfl, rfl, rfl⟩

theorem evaluate_moves (s : State) : CoreMoves s (evaluate s) := by
  unfold evaluate
  split
  · exact .refl s
  · split
    · exact modAttention_moves _ s
    · exact modAttention_moves _ s

theorem resetAge_moves (s : State) : CoreMoves s (resetAge s) :=
  SameCore.moves ⟨rfl, rfl, rfl, rfl, rfl⟩

/-- Only the slots and the STATUS-pending flag differ. -/
theorem SameCore.of_pending {s t : State} (h : t = { s with
    slots := t.slots, decoder := { s.decoder with statusPending := t.decoder.statusPending } }) :
    SameCore s t := ⟨by rw [h], by rw [h], by rw [h], by rw [h], by rw [h]⟩

/-- R164: a write start clears a pending indication and nothing else. -/
theorem clearPending_same (src : RecSource) (kind : RecordKind) (s : State) :
    SameCore s (clearPending src kind s) := by
  apply SameCore.of_pending
  unfold clearPending
  split <;> rfl

/-- R164: a record that is not published sets a pending indication and nothing else. -/
theorem repend_same (f : InFlight) (s : State) : SameCore s (repend f s) := by
  apply SameCore.of_pending
  unfold repend
  split <;> rfl

theorem repend_moves (f : InFlight) (s : State) : CoreMoves s (repend f s) := (repend_same f s).moves

theorem countAccepted_moves (r : Request) (cls : Class) (s : State) :
    CoreMoves s (countAccepted r cls s) := by
  simp only [countAccepted]
  have crossed : CoreMoves s (if crossing r then
      s.modCounts fun c => { c with crossingRequests := bump c.crossingRequests } else s) := by
    split
    · exact modCounts_moves _ s
    · exact .refl s
  split
  · exact crossed.trans (modCounts_moves _ _)
  · exact crossed

theorem insertedFailed_moves (s : State) : CoreMoves s (insertedFailed s) := modCounts_moves _ s

/-- The event of a checkpoint or of a plain increment of the µs counter. -/
theorem usTick_moves (s : State) : CoreMoves s (usTick s) := by
  have outside (t : State) (us : BitVec 48) (tb : Timebase) :
      CoreMoves t { t with us := us, timebase := tb } := SameCore.moves ⟨rfl, rfl, rfl, rfl, rfl⟩
  unfold usTick prescalerTick
  split
  · unfold periodTick
    split
    · unfold intervalTick
      split
      · exact (outside s _ _).trans (testMoves (checkpointAll_test _))
      · exact outside s _ _
    · exact outside s _ _
  · exact outside s _ _

/-! ### The Record Writer -/

theorem settle_moves (s : State) : CoreMoves s (settle s) :=
  (CoreMove.dropStale.moves.trans CoreMove.select.moves).trans (evaluate_moves _)

theorem publishedSlot_moves (f : InFlight) (s : State) : CoreMoves s (publishedSlot f s) := by
  unfold publishedSlot
  split
  · exact testMoves (modSlot_test _ _ s)
  · exact .refl s

theorem publish_moves (f : InFlight) (s : State) (h : s.writer.inFlight = some f) :
    CoreMoves s (publish f s) := by
  simp only [publish]
  split
  · exact .refl s
  · rename_i r hr
    refine .trans ?_ (settle_moves _)
    refine .trans (.trans ?_ (evaluate_moves _)) CoreMove.startWrite.moves
    have published := (CoreMove.publish f r h hr).moves.trans
      (publishedSlot_moves f (s.modWriter (publishRing f r.size s.us)))
    split
    · exact published.trans (resetAge_moves _)
    · exact published

theorem failRecord_moves (f : InFlight) (s : State) : CoreMoves s (failRecord f s) :=
  (((insertedFailed_moves s).trans CoreMove.fail.moves).trans (repend_moves f _)).trans (settle_moves _)

theorem pieceDone_moves (f : InFlight) (s : State) (h : s.writer.inFlight = some f) :
    CoreMoves s (pieceDone f s) := by
  unfold pieceDone
  split
  · exact publish_moves f s h
  · exact (CoreMove.nextPiece f _ h).moves

theorem ringReset_moves (keep : Bool) (s : State) : CoreMoves s (ringReset keep s) := by
  simp only [ringReset]
  refine .trans ?_ (resetAge_moves _)
  split
  · exact (CoreMove.ringReset _).moves
  · rename_i f _
    refine (repend_moves f s).trans ?_
    rw [← (repend_same f s).path]
    exact (CoreMove.ringReset _).moves

theorem consumeRead_moves (a : Addr) (beats : Nat) (s : State) : CoreMoves s (consumeRead a beats s) := by
  simp only [consumeRead]
  split
  · exact .refl s
  · split
    · exact (((CoreMove.consume _).moves.trans (resetAge_moves _)).trans
        CoreMove.startWrite.moves).trans (settle_moves _)
    · exact .refl s

/-! ### Command blocks -/

theorem complete_moves (n : BlockId) (tag : BitVec 16) (status : Status) (detail : Nat)
    (extra : BitVec 32) (data : Option (Vector Byte 8)) (fromSideband : Bool) (s : State) :
    CoreMoves s (complete n tag status detail extra data fromSideband s) := (CoreMove.word _).moves

theorem giveAnswer_moves (n : BlockId) (tag : BitVec 16) (a : Answer) (s : State) :
    CoreMoves s (giveAnswer n tag a s) := by
  unfold giveAnswer
  split
  · exact (modCounts_moves _ s).trans (complete_moves ..)
  · exact complete_moves ..

theorem examine_moves {n : BlockId} {tag : BitVec 16} {faults : List (Bool × Nat × Nat)}
    {act : State → State × Option Answer} {s : State}
    (h : firstFault faults = none → CoreMoves s (act s).1) :
    CoreMoves s (examine n tag faults act s) := by
  unfold examine
  split
  · exact giveAnswer_moves ..
  · rename_i hf
    have moved := h hf
    split
    · rename_i s' e; rw [e] at moved; exact moved
    · rename_i s' a e; rw [e] at moved; exact moved.trans (giveAnswer_moves ..)

theorem takeCandidate_moves {n : BlockId} {tag : BitVec 16} {body : State → State}
    (h : ∀ s, s.inReset = false → outstandingTag s.decoder n = none → CoreMoves s (body s)) (s : State) :
    CoreMoves s (takeCandidate n tag body s) := by
  unfold takeCandidate
  split
  · exact .refl s
  · rename_i run
    refine .trans (.trans (modCounts_moves _ s : CoreMoves s (countTaken s)) ?_) (settle_moves _)
    split
    · exact giveAnswer_moves ..
    · rename_i free
      exact h (countTaken s) ((Bool.not_eq_true _).mp run) free

/-- A command whose effect is a chain of moves in every state. -/
theorem takeExamined_moves {n : BlockId} {tag : BitVec 16} {faults : State → List (Bool × Nat × Nat)}
    {act : State → State × Option Answer} (h : ∀ s, CoreMoves s (act s).1) (s : State) :
    CoreMoves s (takeCandidate n tag (fun s => examine n tag (faults s) act s) s) :=
  takeCandidate_moves (fun s _ _ => examine_moves fun _ => h s) s

theorem actSetWindow_moves (h : BlockHead) (p : WindowParams) (s : State) (run : s.inReset = false)
    (legal : firstFault (windowFaults s h p) = none) : CoreMoves s (actSetWindow h p s).1 := by
  simp only [actSetWindow]
  split
  · exact (CoreMove.setWindow h p run legal).moves.trans (ringReset_moves true _)
  · exact (CoreMove.setWindow h p run legal).moves

theorem startSlot_test (k : Fin 4) (i : SlotId) (s : State) : SameOutsideTest s (startSlot k i s) :=
  ((((modSlot_test i _ s).trans (toWatch_test i _)).trans (modSlot_test i _ _)).trans
    (takeClaim_test i _)).trans (restartPresence_test i _)

theorem abortSlot_test (i : SlotId) (s : State) : SameOutsideTest s (abortSlot i s) :=
  ((modSlot_test i _ s).trans (withFreeCount_test _ _)).trans (toVerdict_test i _)

theorem retestSlot_test (i : SlotId) (s : State) : SameOutsideTest s (retestSlot i s) := by
  simp only [retestSlot]
  split
  · exact modSlot_test i _ s
  · have fresh := (toWatch_test i s).trans (modSlot_test i Slot.freshRun _)
    split
    · exact (fresh.trans (takeClaim_test i _)).trans (restartPresence_test i _)
    · exact fresh.trans (restartPresence_test i _)

theorem actSetProfile_moves (h : BlockHead) (p : ProfileParams) (s : State) :
    CoreMoves s (actSetProfile h p s).1 := SameCore.moves ⟨rfl, rfl, rfl, rfl, rfl⟩

theorem actSetAttention_moves (p : AttentionParams) (s : State) :
    CoreMoves s (actSetAttention p s).1 := (modAttention_moves _ s).trans (resetAge_moves _)

theorem actStatus_moves (s : State) : CoreMoves s (actStatus s).1 := setStatusPending_moves true s

theorem actDefinePattern_test (h : BlockHead) (length : Byte) (s : State) :
    SameOutsideTest s (actDefinePattern h length s).1 := by
  simp only [actDefinePattern]
  split <;> rfl

theorem actStart_test (h : BlockHead) (s : State) : SameOutsideTest s (actStart h s).1 := by
  unfold actStart
  split
  · rfl
  · exact .fold (fun s i => startSlot_test _ i s) _ _

theorem actAbort_test (h : BlockHead) (s : State) : SameOutsideTest s (actAbort h s).1 :=
  SameOutsideTest.trans (.fold (fun s i => abortSlot_test i s) _ s) (sweepSettle_test _)

theorem actRetest_test (h : BlockHead) (s : State) : SameOutsideTest s (actRetest h s).1 := by
  unfold actRetest
  split
  · rfl
  · exact SameOutsideTest.trans (.fold (fun s i => retestSlot_test i s) _ s) (sweepSettle_test _)

theorem actClear_test (h : BlockHead) (s : State) : SameOutsideTest s (actClear h s).1 := by
  unfold actClear
  split
  · rfl
  · exact .fold (fun s i => modSlot_test i _ s) _ _

theorem actSnapshot_test (h : BlockHead) (s : State) : SameOutsideTest s (actSnapshot h s).1 :=
  .fold (fun s i => modSlot_test i _ s) _ _

theorem actSetTimebase_moves (p : TimebaseParams) (s : State) : CoreMoves s (actSetTimebase p s).1 := by
  unfold actSetTimebase
  split
  · exact .refl s
  · exact SameCore.moves ⟨rfl, rfl, rfl, rfl, rfl⟩

theorem actSideband_moves (n : BlockId) (h : BlockHead) (p : SidebandParams) (s : State)
    (free : outstandingTag s.decoder n = none) : CoreMoves s (actSideband n h p s).1 := by
  simp only [actSideband]
  split
  · exact .refl s
  · split
    · exact .refl s
    · exact (CoreMove.sideband n h.tag free (by omega)).moves.trans (testMoves (sbJoin_test _ _))

theorem takeBlock_moves (c : Instr) (s : State) : CoreMoves s (takeBlock c s) := by
  cases c with
  | unknownCode n code h =>
    unfold takeBlock takeUnknown
    exact takeCandidate_moves (fun s _ _ => giveAnswer_moves _ _ _ s) s
  | setWindow n h p =>
    unfold takeBlock takeSetWindow
    exact takeCandidate_moves
      (fun s run _ => examine_moves fun legal => actSetWindow_moves h p s run legal) s
  | setProfile n h p =>
    unfold takeBlock takeSetProfile
    exact takeExamined_moves (actSetProfile_moves h p) s
  | definePattern n h l =>
    unfold takeBlock takeDefinePattern
    exact takeExamined_moves (fun s => testMoves (actDefinePattern_test h l s)) s
  | setTimebase n h p =>
    unfold takeBlock takeSetTimebase
    exact takeExamined_moves (actSetTimebase_moves p) s
  | setAttention n h p =>
    unfold takeBlock takeSetAttention
    exact takeExamined_moves (actSetAttention_moves p) s
  | start n h =>
    unfold takeBlock takeStart
    exact takeExamined_moves (fun s => testMoves (actStart_test h s)) s
  | abort n h =>
    unfold takeBlock takeAbort
    exact takeExamined_moves (fun s => testMoves (actAbort_test h s)) s
  | retest n h =>
    unfold takeBlock takeRetest
    exact takeExamined_moves (fun s => testMoves (actRetest_test h s)) s
  | clear n h =>
    unfold takeBlock takeClear
    exact takeExamined_moves (fun s => testMoves (actClear_test h s)) s
  | snapshot n h =>
    unfold takeBlock takeSnapshot
    exact takeExamined_moves (fun s => testMoves (actSnapshot_test h s)) s
  | sideband n h p =>
    unfold takeBlock takeSideband
    exact takeCandidate_moves
      (fun s _ free => examine_moves fun _ => actSideband_moves n h p s free) s
  | status n h =>
    unfold takeBlock takeStatus
    exact takeExamined_moves actStatus_moves s
  | _ => exact .refl s

theorem takeCandidates_moves (blocks : List (BlockId × List Byte)) (s : State) :
    CoreMoves s (takeCandidates blocks s) :=
  .fold (fun s (b : BlockId × List Byte) => takeBlock_moves (decodeBlock b.1 b.2) s) blocks s

/-! ### The memory path -/

theorem accept_moves (r : Request) (s : State) (room : s.path.fwd.length < 32) :
    CoreMoves s (accept r s) :=
  (CoreMove.accept _ room).moves.trans (countAccepted_moves r _ _)

theorem handCommand_moves (cls : Class) (status : RespStatus) (s : State) :
    CoreMoves s (handCommand cls status s) := by
  have partly : CoreMoves s (if cls.partly then countPartial s else s) := by
    split
    · exact modCounts_moves _ s
    · exact .refl s
  simp only [handCommand]
  split
  · exact partly.trans (takeCandidates_moves _ _)
  · split
    · exact partly
    · exact partly.trans (modCounts_moves _ _)

theorem handOff_moves (e : OutEntry) (status : RespStatus) (s : State) :
    CoreMoves s (handOff e status s) := by
  unfold handOff
  split
  · exact handCommand_moves _ _ s
  · exact testMoves (modPattern_test _ _ s)
  · exact consumeRead_moves _ _ s
  all_goals exact .refl s

theorem joinNext_moves (s : State) : CoreMoves s (joinNext s) := by
  unfold joinNext
  split
  · rename_i k prod w free _
    exact (CoreMove.join k prod w free).moves
  · exact .refl s

theorem joinUntilAnswered_moves (n : BlockId) (k : Nat) (s : State) :
    CoreMoves s (joinUntilAnswered n k s) := by
  induction k generalizing s with
  | zero => exact .refl s
  | succ k ih =>
    unfold joinUntilAnswered
    split
    · exact (joinNext_moves s).trans (ih _)
    · exact .refl s

theorem recordAcked_moves (k : Fin 8) (status : RespStatus) (s : State) :
    CoreMoves s (recordAcked k status s) := by
  simp only [recordAcked]
  split
  · rename_i f hf
    split
    · split
      · exact pieceDone_moves f s hf
      · exact failRecord_moves f s
    · exact .refl s
  · split
    · refine .trans ?_ (settle_moves _)
      refine .trans ?_ CoreMove.abandonedDone.moves
      split
      · exact CoreMoves.refl s
      · exact insertedFailed_moves s
    · exact .refl s

theorem producerAcked_moves (prod : Producer) (k : Fin 8) (status : RespStatus) (s : State) :
    CoreMoves s (producerAcked prod k status s) := by
  unfold producerAcked
  split
  · exact recordAcked_moves k status s
  all_goals
    split
    · exact .refl s
    · exact insertedFailed_moves s

theorem portReset_moves (s : State) : CoreMoves s (portReset s) := by
  have pin : CoreMoves { s with path := s.path.portReset, decoder := s.decoder.portReset }
      { s with prst := true, path := s.path.portReset, decoder := s.decoder.portReset } :=
    SameCore.moves ⟨rfl, rfl, rfl, rfl, rfl⟩
  exact ((((CoreMove.portReset.moves.trans pin).trans (modAttention_moves _ _)).trans
    (testMoves (sidebandPortReset_test _))).trans (ringReset_moves false _)).trans (evaluate_moves _)

/-! ### Lanes and slots -/

theorem scanReport_test (i : SlotId) (l : LaneId)
    (f : Nat → StepState → ScanLane → StepState × ScanLane) (s : State) :
    SameOutsideTest s (scanReport i l f s) := by
  unfold scanReport
  split
  · exact .refl s
  · split
    · exact SameOutsideTest.trans (t := withStep i l _ _ s) rfl (sweepSettle_test _)
    · exact .refl s

theorem trainingCheck_test (i : SlotId) (s : State) : SameOutsideTest s (trainingCheck i s) := by
  simp only [trainingCheck]
  split
  · exact endTraining_test i s
  · exact .refl s

theorem laneReports_test (i : SlotId) (l : LaneId) (x : Lane) (es : List LaneEvent) (s : State) :
    SameOutsideTest s (laneReports i l x es s) := by
  simp only [laneReports]
  split
  · exact modSlot_test i _ s
  · exact ((modSlot_test i _ s).trans (scanReport_test i l _ _)).trans (trainingCheck_test i _)

theorem rawChanged_test (i : SlotId) (before : Bool) (s : State) :
    SameOutsideTest s (rawChanged i before s) := by
  simp only [rawChanged]
  split
  · exact .refl s
  · exact modSlot_test i _ s

theorem removal_test (i : SlotId) (s : State) : SameOutsideTest s (removal i s) := by
  simp only [removal]
  refine SameOutsideTest.trans ?_ (sweepSettle_test _)
  split
  · exact (modSlot_test i _ s).trans (toWatch_test i _)
  · exact ((modSlot_test i _ s).trans (modSlot_test i _ _)).trans (toVerdict_test i _)

theorem debounceTaken_test (i : SlotId) (s : State) : SameOutsideTest s (debounceTaken i s) := by
  have taken := modSlot_test i (fun sl => { sl with present := rawPresence s i, debounceTimer := none }) s
  simp only [debounceTaken]
  split
  · exact taken
  · split
    · simp only [presenceAssertion]
      split
      · exact (taken.trans (modSlot_test i _ _)).trans (toSettle_test i _)
      · exact taken.trans (modSlot_test i _ _)
    · simp only [presenceLoss]
      split
      · exact (taken.trans (modSlot_test i _ _)).trans (removal_test i _)
      · exact taken.trans (modSlot_test i _ _)

/-! ### The sideband line -/

theorem headEnds_test (s : State) : SameOutsideTest s (headEnds s) := by rw [headEnds_eq]; rfl

theorem walkEnd_test (i : SlotId) (intoTrain : Bool) (w : Walk) (s : State) :
    SameOutsideTest s (walkEnd i intoTrain w s) := by
  simp only [walkEnd]
  have ended := (modSlot_test i (fun sl => { sl with
    identity := some w.identity, findings := addFindings sl.findings w.findings }) s).trans
      (headEnds_test _)
  split
  · exact ended.trans (toTrain_test i _)
  · exact ended.trans (toVerdict_test i _)

theorem walkGoesOn_test (i : SlotId) (r : TxnResult) (s : State) :
    SameOutsideTest s (walkGoesOn i r s) := by
  simp only [walkGoesOn]
  split
  · rfl
  · rfl
  · exact (withFreeCount_test _ s).trans (walkEnd_test i _ _ _)

theorem reportHost_moves (e : HostEntry) (r : TxnResult) (s : State) : CoreMoves s (reportHost e r s) := by
  unfold reportHost
  split
  · exact .refl s
  · exact complete_moves ..

theorem hostEnd_moves (e : HostEntry) (r : TxnResult) (s : State) : CoreMoves s (hostEnd e r s) :=
  ((testMoves (headEnds_test s)).trans (reportHost_moves e r _)).trans (joinUntilAnswered_moves _ _ _)

theorem hostWait_moves (e : HostEntry) (r : TxnResult) (s : State) : CoreMoves s (hostWait e r s) := by
  unfold hostWait
  split
  · exact hostEnd_moves e r s
  · exact testMoves (withEngine_test _ s)

theorem txnEnd_moves (r : TxnResult) (s : State) : CoreMoves s (txnEnd r s) := by
  unfold txnEnd
  split
  · exact testMoves (engineFree_test s)
  · split
    · exact testMoves (engineFree_test s)
    · exact testMoves (walkGoesOn_test _ r s)
    · exact hostWait_moves _ r s

theorem tryResult_moves (r : TryResult) (s : State) : CoreMoves s (tryResult r s) := by
  cases r with
  | success bytes => exact txnEnd_moves _ s
  | dataNak acked => exact txnEnd_moves _ s
  | addressNak byte =>
    simp only [tryResult, tryFailed]
    split
    · exact testMoves (engineFree_test s)
    · split
      · exact testMoves (withEngine_test _ s)
      · exact txnEnd_moves _ s

theorem plugSettled_test (s : State) : SameOutsideTest s (plugSettled s) := by
  unfold plugSettled
  split
  · exact walkEnd_test _ _ _ s
  · exact engineFree_test s

theorem postWaited_moves (s : State) : CoreMoves s (postWaited s) := by
  unfold postWaited
  split
  · exact hostEnd_moves _ _ s
  · exact testMoves (engineFree_test s)

/-! ### A step -/

theorem tick_moves (s : State) : CoreMoves s (tick s) := by
  unfold tick
  split
  · exact (usTick_moves s).trans (settle_moves _)
  · exact usTick_moves s

/-- A meaning that has an effect under a condition, and none without it. -/
theorem moves_of_guarded {c : Prop} [Decidable c] {s t u : State}
    (h : (if c then .next t else .next s : Result) = .next u) (moved : c → CoreMoves s t) :
    CoreMoves s u := by
  split at h
  · rename_i hc
    cases h
    exact moved hc
  · cases h
    exact .refl s

theorem execRequestAccept_moves {r : Request} {s t : State} (h : execRequestAccept r s = .next t) :
    CoreMoves s t := by
  unfold execRequestAccept at h
  split at h
  · cases h
  · exact moves_of_guarded h fun can => accept_moves r s (by
      simp only [canAccept, Bool.and_eq_true, decide_eq_true_eq] at can
      exact can.1)

theorem fwdEligible_room {s : State} {h : FwdEntry} (e : fwdEligible s = some h) :
    s.path.out.length < 64 := by
  unfold fwdEligible at e
  split at e
  · cases e
  · split at e
    · cases e
    · rename_i free
      simp only [Bool.or_eq_true, decide_eq_true_eq, not_or] at free
      omega

theorem issueForwarded_eligible {s : State} {h : FwdEntry} (e : issueForwarded s = some h) :
    fwdEligible s = some h := by
  unfold issueForwarded at e
  split at e
  · cases e
  · rename_i h' eligible
    split at e
    · cases e
    · rw [eligible, e]

theorem execForwardedIssue_moves {s t : State} (h : execForwardedIssue s = .next t) : CoreMoves s t := by
  unfold execForwardedIssue at h
  split at h
  · cases h; exact .refl s
  · rename_i e issued
    cases h
    exact (CoreMove.issueForwarded e (fwdEligible_room (issueForwarded_eligible issued))).moves

theorem execInsertedIssue_moves {s t : State} (h : execInsertedIssue s = .next t) : CoreMoves s t := by
  unfold execInsertedIssue at h
  split at h
  · cases h; exact .refl s
  · cases h; exact (CoreMove.issueInserted _).moves

theorem execForwardedResponse_moves {id : BitVec 8} {status : RespStatus} {data : List Byte} {s t : State}
    (h : execForwardedResponse id status data s = .next t) : CoreMoves s t := by
  unfold execForwardedResponse at h
  split at h
  · cases h; exact .refl s
  · split at h
    · cases h; exact (CoreMove.response id s.path.sysOut).moves
    · cases h; exact (CoreMove.response id _).moves.trans (handOff_moves ..)

theorem execInsertAck_moves {place : BitVec 8} {status : RespStatus} {s t : State}
    (h : execInsertAck place status s = .next t) : CoreMoves s t := by
  unfold execInsertAck at h
  split at h
  · cases h; exact .refl s
  · rename_i e _
    have left : CoreMoves s (s.modPath (leaveQueue e.place)) := (CoreMove.leave e.place).moves
    split at h
    · cases h; exact left
    · cases h; exact left.trans (producerAcked_moves ..)

theorem execPortReset_moves {s t : State} (h : execPortReset s = .next t) : CoreMoves s t := by
  unfold execPortReset at h
  split at h
  · cases h; exact SameCore.moves ⟨rfl, rfl, rfl, rfl, rfl⟩
  · cases h; exact portReset_moves s

theorem execPowerOnResetRelease_moves {wbase : BitVec 16} {s t : State}
    (h : execPowerOnResetRelease wbase s = .next t) : CoreMoves s t :=
  moves_of_guarded h fun on => (CoreMove.powerOnRelease wbase on).moves.trans
    (SameCore.moves ⟨rfl, rfl, rfl, rfl, rfl⟩)

theorem execUnknownCode_moves {n : BlockId} {code : Byte} {head : BlockHead} {s t : State}
    (h : execUnknownCode n code head s = .next t) : CoreMoves s t := by
  unfold execUnknownCode at h
  split at h
  · cases h
  · cases h; exact takeBlock_moves (.unknownCode n code head) s

theorem execFrameStart_moves {i : SlotId} {l : LaneId} {s t : State}
    (h : execFrameStart i l s = .next t) : CoreMoves s t := by
  simp only [execFrameStart] at h
  split at h
  · cases h; exact .refl s
  · split at h
    · cases h; exact .refl s
    · cases h; exact testMoves (withSlot_test i _ s)

theorem execFrameReceived_moves {i : SlotId} {l : LaneId} {payload : BitVec 4096} {s t : State}
    (h : execFrameReceived i l payload s = .next t) : CoreMoves s t := by
  simp only [execFrameReceived] at h
  split at h
  · split at h
    · cases h
      exact (testMoves ((withSlot_test i _ s).trans (scanReport_test i l _ _))).trans (settle_moves _)
    · cases h; exact testMoves (withSlot_test i _ s)
  · cases h; exact .refl s

theorem execClockHeldLow_moves {s t : State} (h : execClockHeldLow s = .next t) : CoreMoves s t := by
  unfold execClockHeldLow at h
  split at h
  · cases h; exact testMoves (withEngine_test _ s)
  · cases h; exact (txnEnd_moves _ s).trans (settle_moves _)
  all_goals cases h; exact .refl s

theorem execRecordWriteStart_moves {s t : State} (h : execRecordWriteStart s = .next t) :
    CoreMoves s t := by
  unfold execRecordWriteStart at h
  split at h
  · cases h; exact .refl s
  · exact moves_of_guarded h fun _ => CoreMove.startWrite.moves.trans (settle_moves _)

/-- Every command that has a next state reaches it by the moves of the core. -/
theorem exec_moves {c : Instr} {s t : State} (h : exec c s = .next t) : CoreMoves s t := by
  have lineMoved (items : List LineItem) : CoreMoves s (lineUsed items s) :=
    testMoves (withEngine_test _ s)
  cases c with
  | requestAccept r => exact execRequestAccept_moves h
  | forwardedIssue => exact execForwardedIssue_moves h
  | insertedIssue => exact execInsertedIssue_moves h
  | forwardedResponse id status data => exact execForwardedResponse_moves h
  | insertJoin => cases h; exact joinNext_moves s
  | insertAck place status => exact execInsertAck_moves h
  | portReset => exact execPortReset_moves h
  | portResetRelease => cases h; exact SameCore.moves ⟨rfl, rfl, rfl, rfl, rfl⟩
  | powerOnReset => cases h; exact CoreMove.powerOn.moves
  | powerOnResetRelease wbase => exact execPowerOnResetRelease_moves h
  | noneBlock n => cases h; exact .refl s
  | unknownCode n code head => exact execUnknownCode_moves h
  | setWindow n head p => cases h; exact takeBlock_moves (.setWindow n head p) s
  | setProfile n head p => cases h; exact takeBlock_moves (.setProfile n head p) s
  | definePattern n head l => cases h; exact takeBlock_moves (.definePattern n head l) s
  | setTimebase n head p => cases h; exact takeBlock_moves (.setTimebase n head p) s
  | setAttention n head p => cases h; exact takeBlock_moves (.setAttention n head p) s
  | start n head => cases h; exact takeBlock_moves (.start n head) s
  | abort n head => cases h; exact takeBlock_moves (.abort n head) s
  | retest n head => cases h; exact takeBlock_moves (.retest n head) s
  | clear n head => cases h; exact takeBlock_moves (.clear n head) s
  | snapshot n head => cases h; exact takeBlock_moves (.snapshot n head) s
  | sideband n head p => cases h; exact takeBlock_moves (.sideband n head p) s
  | status n head => cases h; exact takeBlock_moves (.status n head) s
  | frameStart i l => exact execFrameStart_moves h
  | headerInHunt i l bits =>
    exact moves_of_guarded h fun _ => (testMoves (laneReports_test ..)).trans (settle_moves _)
  | headerInLock i l bits =>
    exact moves_of_guarded h fun _ => (testMoves (laneReports_test ..)).trans (settle_moves _)
  | frameReceived i l payload => exact execFrameReceived_moves h
  | relockTimeout i l =>
    exact moves_of_guarded h fun _ => (testMoves (laneReports_test ..)).trans (settle_moves _)
  | presNChange i asserted =>
    cases h
    exact (testMoves (rawChanged_test i _ _)).after ⟨rfl, rfl, rfl, rfl, rfl⟩
  | energyDetectChange i l present =>
    cases h
    exact (testMoves (rawChanged_test i _ _)).after ⟨rfl, rfl, rfl, rfl, rfl⟩
  | debounceExpiry i =>
    exact moves_of_guarded h fun _ => (testMoves (debounceTaken_test i s)).trans (settle_moves _)
  | settleExpiry i =>
    exact moves_of_guarded h fun _ => testMoves ((modSlot_test i _ s).trans (sbJoin_test _ _))
  | trainTimeout i =>
    exact moves_of_guarded h fun _ => (testMoves (endTraining_test i s)).trans (settle_moves _)
  | tryEnd r =>
    exact moves_of_guarded h fun _ =>
      ((lineMoved _).trans (tryResult_moves r _)).trans (settle_moves _)
  | retryWaitExpiry => exact moves_of_guarded h fun _ => testMoves (withEngine_test _ s)
  | clockHeldLow => exact execClockHeldLow_moves h
  | dataStuckLow => exact moves_of_guarded h fun _ => testMoves (withEngine_test _ s)
  | recoveryEnd =>
    exact moves_of_guarded h fun _ => ((lineMoved _).trans (txnEnd_moves _ _)).trans (settle_moves _)
  | plugSettleExpiry =>
    exact moves_of_guarded h fun _ => (testMoves (plugSettled_test s)).trans (settle_moves _)
  | postWaitExpiry => exact moves_of_guarded h fun _ => postWaited_moves s
  | interval => exact moves_of_guarded h fun _ => tick_moves s
  | checkpoint => exact moves_of_guarded h fun _ => tick_moves s
  | recordWriteStart => exact execRecordWriteStart_moves h
  | ageTimerExpiry =>
    exact moves_of_guarded h fun _ => (modAttention_moves _ s).trans (evaluate_moves _)
  | prescalerWrap => exact moves_of_guarded h fun _ => tick_moves s

/-- Every step reaches its next state by the moves of the core. -/
theorem step_moves {s t : State} (h : step s = .next t) : CoreMoves s t := by
  unfold step at h
  split at h
  · cases h
    unfold idle
    split
    · exact .refl s
    · exact tick_moves s
  · exact (exec_moves h).after ⟨rfl, rfl, rfl, rfl, rfl⟩

/-- What every move of the core keeps, every step keeps. -/
theorem kept_of_coreMove {P : State → Prop} (h : ∀ s t, CoreMove s t → P s → P t) : Kept P := by
  intro s t ok stepped
  have moved := step_moves stepped
  clear stepped
  induction moved with
  | refl => exact ok
  | tail _ moved ih => exact h _ _ moved ih

end Sys2Proof.Machine
end

section
/-! PROOF. The bounds of the memory path, the lists of the Command Decoder and the legality of the Window
Table, kept by every move of the core. -/

namespace Sys2Proof.Machine

open Sys2Proof Sys2Proof.Safety

/-! ### What the moves of the Record Writer leave as it is -/

/-- The write a selection starts: none, a PAD's, or the record's. -/
theorem startWrite_cases (s : State) :
    startWrite s = s ∨
    (∃ sel r, s.writer.waitingSelection = some sel ∧ s.writer.ring = some r ∧
      s.writer.fits sel.length = true ∧ s.writer.padNeeded r.size sel.length = true ∧
      startWrite s = s.modWriter fun w => { w with inFlight := some (padInFlight s r sel) }) ∨
    ∃ sel r, s.writer.waitingSelection = some sel ∧ s.writer.ring = some r ∧
      s.writer.fits sel.length = true ∧ s.writer.padNeeded r.size sel.length = false ∧
      startWrite s = clearPending sel.source sel.kind (s.modWriter fun w =>
        { w with inFlight := some (recordInFlight s r sel), selection := none }) := by
  unfold startWrite
  split
  · rename_i sel r hsel hr
    split
    · rename_i fit
      split
      · rename_i pad
        exact .inr (.inl ⟨sel, r, hsel, hr, fit, pad, rfl⟩)
      · rename_i pad
        exact .inr (.inr ⟨sel, r, hsel, hr, fit, by simpa using pad, rfl⟩)
    · exact .inl rfl
  · exact .inl rfl

/-- The start of a write changes the core in the Record Writer only. -/
theorem startWrite_core (s : State) :
    (startWrite s).path = s.path ∧ (startWrite s).decoder.backlog = s.decoder.backlog ∧
      (startWrite s).decoder.outstanding = s.decoder.outstanding ∧
      (startWrite s).porst = s.porst := by
  obtain e | ⟨sel, r, -, -, -, -, e⟩ | ⟨sel, r, -, -, -, -, e⟩ := startWrite_cases s <;> rw [e]
  · exact ⟨rfl, rfl, rfl, rfl⟩
  · exact ⟨rfl, rfl, rfl, rfl⟩
  · have same := clearPending_same sel.source sel.kind (s.modWriter fun w =>
      { w with inFlight := some (recordInFlight s r sel), selection := none })
    exact ⟨same.path, same.backlog, same.outstanding, same.porst⟩

theorem startWrite_path (s : State) : (startWrite s).path = s.path := (startWrite_core s).1

theorem startWrite_porst (s : State) : (startWrite s).porst = s.porst := (startWrite_core s).2.2.2

theorem select_path (s : State) : (select s).path = s.path := by rw [select_settled s]

theorem select_decoder (s : State) : (select s).decoder = s.decoder := by rw [select_settled s]

theorem select_porst (s : State) : (select s).porst = s.porst := by rw [select_settled s]

theorem dropStale_path (s : State) : (dropStale s).path = s.path := by rw [dropStale_settled s]

theorem dropStale_decoder (s : State) : (dropStale s).decoder = s.decoder := by rw [dropStale_settled s]

theorem dropStale_porst (s : State) : (dropStale s).porst = s.porst := by rw [dropStale_settled s]

/-- What the join of a write leaves of the path's queues but the Insert Queue. -/
theorem producerJoined_path (prod : Producer) (k : Fin 8) (s : State) :
    (producerJoined prod k s).path = s.path := by cases prod <;> rfl

theorem producerJoined_porst (prod : Producer) (k : Fin 8) (s : State) :
    (producerJoined prod k s).porst = s.porst := by cases prod <;> rfl

/-! ### The bounds of the path's queues (R2, R3, R10, R13, R14) -/

/-- `PathOk` as a property of the path. -/
structure PathBounded (p : Path) : Prop where
  fwd      : p.fwd.length ≤ 32
  out      : p.out.length ≤ 64
  ins      : p.ins.length ≤ 8
  places   : (p.ins.map InsEntry.place).Nodup
  void     : ∀ e ∈ p.ins, e.void = true → e.issued = true
  arbCount : p.arbCount ≤ 4

theorem pathOk_iff (s : State) : PathOk s ↔ PathBounded s.path :=
  ⟨fun ⟨fwd, out, ins, places, void, arbCount⟩ => ⟨fwd, out, ins, places, void, arbCount⟩,
    fun ok => ⟨ok.fwd, ok.out, ok.ins, ok.places, ok.void, ok.arbCount⟩⟩

/-- The lowest free place of the Insert Queue, as its entries show it. -/
theorem freePlace_eq_some {ins : List InsEntry} {k : Fin 8} (free : freePlace ins = some k) :
    ∀ e ∈ ins, e.place ≠ k := by
  have := List.find?_some free
  simpa using this

theorem dropOut_eq_eraseP (id : BitVec 8) (out : List OutEntry) :
    dropOut id out = out.eraseP fun e => decide (e.id = id) := by
  induction out with
  | nil => rfl
  | cons e out ih => by_cases h : e.id = id <;> simp [dropOut, h, ih]

theorem markIssued_place (k : Fin 8) (e : InsEntry) : (markIssued k e).place = e.place := by
  unfold markIssued; split <;> rfl

theorem markIssued_void (k : Fin 8) (e : InsEntry) : (markIssued k e).void = e.void := by
  unfold markIssued; split <;> rfl

theorem markIssued_issued (k : Fin 8) {e : InsEntry} (h : e.issued = true) :
    (markIssued k e).issued = true := by
  unfold markIssued
  split
  · rfl
  · exact h

theorem PathBounded.issueFwd {p : Path} (ok : PathBounded p) (h : FwdEntry) (room : p.out.length < 64) :
    PathBounded (issueFwd h p) where
  fwd      := by rw [Machine.issueFwd, List.length_tail]; exact (Nat.sub_le _ _).trans ok.fwd
  out      := by simpa [Machine.issueFwd] using room
  ins      := ok.ins
  places   := ok.places
  void     := ok.void
  arbCount := min_le_right _ _

theorem PathBounded.issueIns {p : Path} (ok : PathBounded p) (e : InsEntry) :
    PathBounded (issueIns e p) where
  fwd      := ok.fwd
  out      := ok.out
  ins      := by simpa [Machine.issueIns] using ok.ins
  places   := by
    have same : InsEntry.place ∘ markIssued e.place = InsEntry.place :=
      funext fun d => markIssued_place _ d
    simpa [Machine.issueIns, same] using ok.places
  void     := by
    intro d hd hv
    obtain ⟨d', hd', rfl⟩ := List.mem_map.1 hd
    rw [markIssued_void] at hv
    exact markIssued_issued _ (ok.void d' hd' hv)
  arbCount := Nat.zero_le _

/-- A join takes a free place, so that the eight places bound the queue. -/
theorem PathBounded.joinQueue {p : Path} (ok : PathBounded p) {k : Fin 8} (prod : Producer) (w : InsWrite)
    (free : freePlace p.ins = some k) : PathBounded (joinQueue k prod w p) := by
  have places : ((Machine.joinQueue k prod w p).ins.map InsEntry.place).Nodup := by
    have fresh : k ∉ p.ins.map InsEntry.place := by
      simpa using fun e he => freePlace_eq_some free e he
    simpa [Machine.joinQueue, List.nodup_append] using
      ⟨ok.places, fun e he => freePlace_eq_some free e he⟩
  refine ⟨ok.fwd, ok.out, ?_, places, ?_, ok.arbCount⟩
  · simpa using places.length_le_card
  · intro e he hv
    rcases List.mem_append.1 he with he | he
    · exact ok.void e he hv
    · obtain rfl := List.mem_singleton.1 he
      cases hv

theorem PathBounded.leaveQueue {p : Path} (ok : PathBounded p) (k : Fin 8) :
    PathBounded (leaveQueue k p) where
  fwd      := ok.fwd
  out      := ok.out
  ins      := (List.length_filter_le _ _).trans ok.ins
  places   := ok.places.sublist (List.filter_sublist.map _)
  void     := fun e he => ok.void e (List.mem_of_mem_filter he)
  arbCount := ok.arbCount

theorem PathBounded.portReset {p : Path} (ok : PathBounded p) : PathBounded p.portReset where
  fwd      := Nat.zero_le _
  out      := by simpa [Path.portReset] using ok.out
  ins      := by simpa [Path.portReset] using (List.length_filter_le _ _).trans ok.ins
  places   := by
    have same : InsEntry.place ∘ (fun e => { e with void := true }) = InsEntry.place := rfl
    simpa [Path.portReset, same] using ok.places.sublist (List.filter_sublist.map _)
  void     := by
    intro e he _
    obtain ⟨d, hd, rfl⟩ := List.mem_map.1 he
    simpa using (List.mem_filter.1 hd).2
  arbCount := Nat.zero_le _

/-- R2, R3, R10, R13, R14: every move keeps the bounds of the path's queues. -/
theorem pathBounded_of_move {s t : State} (moved : CoreMove s t) (ok : PathBounded s.path) :
    PathBounded t.path := by
  cases moved with
  | outside h => rw [h.path]; exact ok
  | accept e room => exact { ok with fwd := by simpa using room }
  | issueForwarded h room => exact ok.issueFwd h room
  | issueInserted e => exact ok.issueIns e
  | response id sysOut =>
    refine { ok with out := ?_ }
    rw [State.modPath_path, dropOut_eq_eraseP]
    exact List.length_eraseP_le.trans ok.out
  | join k prod w free => rw [producerJoined_path]; exact ok.joinQueue prod w free
  | leave k => exact ok.leaveQueue k
  | portReset => exact ok.portReset
  | powerOn => exact ok.portReset
  | powerOnRelease => exact ⟨ok.fwd, ok.out, ok.ins, ok.places, ok.void, ok.arbCount⟩
  | setWindow => exact ⟨ok.fwd, ok.out, ok.ins, ok.places, ok.void, ok.arbCount⟩
  | dropStale => rw [dropStale_path]; exact ok
  | select => rw [select_path]; exact ok
  | startWrite => rw [startWrite_path]; exact ok
  | _ => exact ok

/-! ### The lists of the Command Decoder (R23, R26) -/

/-- `DecoderOk` as a property of the two lists. -/
structure ListsBounded (backlog : List Completion) (outstanding : List (BlockId × BitVec 16)) : Prop where
  words  : (backlog.map Completion.block).Nodup
  blocks : (outstanding.map Prod.fst).Nodup
  room   : outstanding.length ≤ 4

theorem decoderOk_iff (s : State) :
    DecoderOk s ↔ ListsBounded s.decoder.backlog s.decoder.outstanding :=
  ⟨fun ⟨words, blocks, room⟩ => ⟨words, blocks, room⟩, fun ok => ⟨ok.words, ok.blocks, ok.room⟩⟩

/-- R26: a word takes the end of the backlog, or leaves the blocks of the backlog as they are. -/
theorem placeCompletion_nodup {backlog : List Completion} (ok : (backlog.map Completion.block).Nodup)
    (c : Completion) : ((placeCompletion backlog c).map Completion.block).Nodup := by
  unfold placeCompletion
  split
  · have same : Completion.block ∘
        (fun d : Completion => if d.block = c.block ∧ d.fromSideband = false then c else d) =
        Completion.block := by
      funext d
      by_cases h : d.block = c.block ∧ d.fromSideband = false <;> simp [h]
    rw [List.map_map, same]
    exact ok
  · rename_i absent
    simp only [List.any_eq_true, decide_eq_true_eq, not_exists, not_and] at absent
    simpa [List.nodup_append] using ⟨ok, absent⟩

/-- R23: a block without a tag is not in the set. -/
theorem outstandingTag_eq_none {d : Decoder} {n : BlockId} :
    outstandingTag d n = none ↔ ∀ p ∈ d.outstanding, p.1 ≠ n := by
  simp [outstandingTag]

theorem ListsBounded.wordJoined {d : Decoder} (ok : ListsBounded d.backlog d.outstanding) :
    ListsBounded d.wordJoined.backlog d.wordJoined.outstanding := by
  unfold Decoder.wordJoined
  split
  · exact ok
  · rename_i c rest hb
    have words : (rest.map Completion.block).Nodup := by
      have := ok.words
      rw [hb] at this
      exact (List.nodup_cons.1 this).2
    by_cases hc : c.fromSideband
    · simp only [hc, if_true]
      exact ⟨words, ok.blocks.sublist (List.filter_sublist.map _),
        (List.length_filter_le _ _).trans ok.room⟩
    · simp only [hc]
      exact ⟨words, ok.blocks, ok.room⟩

/-- R23, R26: every move keeps the decoder's lists. -/
theorem listsBounded_of_move {s t : State} (moved : CoreMove s t)
    (ok : ListsBounded s.decoder.backlog s.decoder.outstanding) :
    ListsBounded t.decoder.backlog t.decoder.outstanding := by
  cases moved with
  | outside h => rw [h.backlog, h.outstanding]; exact ok
  | join k prod w free =>
    cases prod with
    | decoder => exact ok.wordJoined
    | record => exact ok
    | attention => exact ok
  | portReset => exact ⟨List.nodup_nil, List.nodup_nil, Nat.zero_le _⟩
  | powerOn => exact ⟨List.nodup_nil, List.nodup_nil, Nat.zero_le _⟩
  | word c => exact { ok with words := placeCompletion_nodup ok.words c }
  | sideband n tag fresh room =>
    refine { ok with blocks := ?_, room := by simpa using room }
    have := outstandingTag_eq_none.1 fresh
    simpa [List.nodup_append] using
      And.intro ok.blocks (fun a b hab (e : a = n) => this (a, b) hab e)
  | dropStale => rw [dropStale_decoder]; exact ok
  | select => rw [select_decoder]; exact ok
  | startWrite =>
    obtain ⟨-, words, blocks, -⟩ := startWrite_core s
    rw [words, blocks]; exact ok
  | _ => exact ok

/-! ### The Window Table (R4, R9, R17) -/

/-- `WindowsOk` as a property of the table and of PORST_N. -/
structure TableOk (ws : Vector Window 8) (porst : Bool) : Prop where
  role0       : (ws[0]).role = .command
  size0       : (ws[0]).size = 4096
  oneCommand  : ∀ i : Fin 8, i ≠ 0 → (ws[i.val]).role ≠ .command
  reportSized : ∀ i : Fin 8, (ws[i.val]).role = .report → reportSize (ws[i.val]).size = true
  aligned     : ∀ i : Fin 8, (ws[i.val]).enabled = true → (ws[i.val]).base.toNat % (ws[i.val]).size = 0
  apart       : ∀ i j : Fin 8, i ≠ j → (ws[i.val]).enabled = true →
    windowClash (ws[i.val]).base (ws[i.val]).size (ws[j.val]) = false
  oneReport   : ∀ i j : Fin 8, i ≠ j → (ws[i.val]).role = .report → (ws[j.val]).role ≠ .report
  onePattern  : ∀ i j : Fin 8, i ≠ j → (ws[i.val]).role = .pattern → (ws[j.val]).role = .pattern →
    (ws[i.val]).pattern ≠ (ws[j.val]).pattern
  offInReset  : porst = true → ∀ i : Fin 8, i ≠ 0 → (ws[i.val]).role = .off

theorem windowsOk_iff (s : State) : WindowsOk s ↔ TableOk s.path.windows s.porst :=
  ⟨fun ⟨role0, size0, oneCommand, reportSized, aligned, apart, oneReport, onePattern, offInReset⟩ =>
      ⟨role0, size0, oneCommand, reportSized, aligned, apart, oneReport, onePattern, offInReset⟩,
    fun ok => ⟨ok.role0, ok.size0, ok.oneCommand, ok.reportSized, ok.aligned, ok.apart, ok.oneReport,
      ok.onePattern, ok.offInReset⟩⟩

@[simp] theorem windows_set_getElem (ws : Vector Window 8) (i j : Fin 8) (w : Window) :
    (ws.set i.val w)[j.val] = if j = i then w else ws[j.val] := by
  rw [Vector.getElem_set]
  simp only [Fin.ext_iff, eq_comm]

theorem Window.enabled_iff (w : Window) : w.enabled = true ↔ w.role ≠ .off := by
  simp [Window.enabled]

@[simp] theorem Window.none_role : Window.none.role = .off := rfl

/-- An OFF window overlaps nothing. -/
theorem windowClash_off {base : Addr} {size : Nat} {w : Window} (h : w.role = .off) :
    windowClash base size w = false := by
  simp [windowClash, Window.enabled, h]

/-- The overlap of two enabled windows is symmetric. -/
theorem windowClash_symm {v w : Window} (h : v.enabled = true → windowClash v.base v.size w = false)
    (hw : w.enabled = true) : windowClash w.base w.size v = false := by
  cases hv : v.enabled with
  | false => simp [windowClash, hv]
  | true =>
    have := h hv
    simp only [windowClash, hw, hv, Bool.true_and, rangesOverlap, Bool.and_eq_false_iff,
      decide_eq_false_iff_not] at this ⊢
    exact this.symm

/-- R9: the table with another window `new` at `i` is legal where `new` goes with the other windows. -/
theorem TableOk.set {ws : Vector Window 8} (ok : TableOk ws false) {i : Fin 8} (hi : i ≠ 0) {new : Window}
    (notCommand : new.role ≠ .command) (reportSized : new.role = .report → reportSize new.size = true)
    (aligned : new.enabled = true → new.base.toNat % new.size = 0)
    (apart : ∀ j : Fin 8, j ≠ i → new.enabled = true → windowClash new.base new.size (ws[j.val]) = false)
    (oneReport : new.role = .report → ∀ j : Fin 8, j ≠ i → (ws[j.val]).role ≠ .report)
    (onePattern : new.role = .pattern → ∀ j : Fin 8, j ≠ i → (ws[j.val]).role = .pattern →
      (ws[j.val]).pattern ≠ new.pattern) : TableOk (ws.set i.val new) false := by
  have first : (ws.set i.val new)[0] = ws[0] := by
    have := windows_set_getElem ws i 0 new
    rwa [if_neg (Ne.symm hi)] at this
  refine ⟨first ▸ ok.role0, first ▸ ok.size0, fun j hj => ?_, fun j hr => ?_, fun j he => ?_,
    fun j k hjk he => ?_, fun j k hjk hr => ?_, fun j k hjk hr hr' => ?_, nofun⟩
  all_goals simp only [windows_set_getElem] at *
  · by_cases e : j = i
    · simpa [e] using notCommand
    · simpa [e] using ok.oneCommand j hj
  · by_cases e : j = i
    · rw [if_pos e] at hr ⊢; exact reportSized hr
    · rw [if_neg e] at hr ⊢; exact ok.reportSized j hr
  · by_cases e : j = i
    · rw [if_pos e] at he ⊢; exact aligned he
    · rw [if_neg e] at he ⊢; exact ok.aligned j he
  · by_cases e : j = i
    · rw [if_pos e] at he ⊢
      rw [if_neg (fun ek => hjk (e.trans ek.symm))]
      exact apart k (fun ek => hjk (e.trans ek.symm)) he
    · rw [if_neg e] at he ⊢
      by_cases ek : k = i
      · rw [if_pos ek]; exact windowClash_symm (apart j e) he
      · rw [if_neg ek]; exact ok.apart j k hjk he
  · by_cases e : j = i
    · rw [if_pos e] at hr
      rw [if_neg (fun ek => hjk (e.trans ek.symm))]
      exact oneReport hr k (fun ek => hjk (e.trans ek.symm))
    · rw [if_neg e] at hr
      by_cases ek : k = i
      · rw [if_pos ek]; exact fun hn => oneReport hn j e hr
      · rw [if_neg ek]; exact ok.oneReport j k hjk hr
  · by_cases e : j = i
    · have ek : k ≠ i := fun ek => hjk (e.trans ek.symm)
      rw [if_pos e] at hr ⊢
      rw [if_neg ek] at hr' ⊢
      exact (onePattern hr k ek hr').symm
    · rw [if_neg e] at hr ⊢
      by_cases ek : k = i
      · rw [if_pos ek] at hr' ⊢; exact onePattern hr' j e hr
      · rw [if_neg ek] at hr' ⊢; exact ok.onePattern j k hjk hr hr'

/-- A table whose window 0 is an aligned 4 KiB command window and whose other windows are OFF is legal. -/
theorem tableOk_of_off {ws : Vector Window 8} (porst : Bool) (role0 : (ws[0]).role = .command)
    (size0 : (ws[0]).size = 4096) (aligned0 : (ws[0]).base.toNat % 4096 = 0)
    (off : ∀ i : Fin 8, i ≠ 0 → (ws[i.val]).role = .off) : TableOk ws porst := by
  have notOff {i : Fin 8} (h : (ws[i.val]).role ≠ .off) : i = 0 := by
    by_contra hi; exact h (off i hi)
  have role {i : Fin 8} (r : Role) (hr : r ≠ .off) (h : (ws[i.val]).role = r) : r = .command := by
    obtain rfl := notOff (i := i) (h ▸ hr)
    exact h.symm.trans role0
  refine ⟨role0, size0, fun i hi => by rw [off i hi]; decide, fun i hr => ?_, fun i he => ?_,
    fun i j hij he => ?_, fun i j hij hr => ?_, fun i j hij hr => ?_, fun _ => off⟩
  · exact absurd (role .report (by decide) hr) (by decide)
  · obtain rfl := notOff ((Window.enabled_iff _).1 he)
    exact size0 ▸ aligned0
  · obtain rfl := notOff ((Window.enabled_iff _).1 he)
    exact windowClash_off (off j hij.symm)
  · exact absurd (role .report (by decide) hr) (by decide)
  · exact absurd (role .pattern (by decide) hr) (by decide)

theorem windowsAfterReset_off (w : Window) : ∀ i : Fin 8, i ≠ 0 → ((windowsAfterReset w)[i.val]).role = .off := by
  intro i hi
  fin_cases i
  · exact absurd rfl hi
  all_goals rfl

/-- R16, R17: the table that a reset leaves. -/
theorem TableOk.afterReset {ws : Vector Window 8} {porst : Bool} (ok : TableOk ws porst) (porst' : Bool) :
    TableOk (windowsAfterReset (ws[0])) porst' := by
  have enabled0 : (ws[0]).enabled = true := by rw [Window.enabled_iff, ok.role0]; decide
  have aligned0 : (ws[0]).base.toNat % 4096 = 0 := ok.size0 ▸ ok.aligned 0 enabled0
  exact tableOk_of_off porst' ok.role0 ok.size0 aligned0 (windowsAfterReset_off _)

/-- R4: window 0 as sampled from WBASE is aligned. -/
theorem command_base_aligned (wbase : BitVec 16) : (Window.command wbase).base.toNat % 4096 = 0 := by
  simp only [Window.command, BitVec.toNat_ofNat]
  have := wbase.isLt
  omega

/-- R4, R17: the table once WBASE is sampled. -/
theorem TableOk.release {ws : Vector Window 8} (ok : TableOk ws true) (wbase : BitVec 16) :
    TableOk (ws.set 0 (.command wbase)) false := by
  have first : (ws.set 0 (.command wbase))[0] = .command wbase := by simp
  refine tableOk_of_off false (by rw [first]; rfl) (by rw [first]; rfl)
    (by rw [first]; exact command_base_aligned wbase) fun i hi => ?_
  have := windows_set_getElem ws 0 i (.command wbase)
  rw [if_neg hi] at this
  rw [show (ws.set 0 (Window.command wbase))[i.val] = ws[i.val] from this]
  exact ok.offInReset rfl i hi

/-! ### The checks of SET_WINDOW (R9) -/

/-- R22 step 4: no check fails exactly where none of the conditions holds. -/
theorem firstFault_eq_none {faults : List (Bool × Nat × Nat)} :
    firstFault faults = none ↔ ∀ f ∈ faults, f.1 = false := by
  induction faults with
  | nil => simp [firstFault]
  | cons f rest ih =>
    obtain ⟨bad, reason, extra⟩ := f
    cases bad <;> simp [firstFault, ih]

theorem mem_otherWindows {i j : Fin 8} : j ∈ otherWindows i ↔ j ≠ i := by
  have : ∀ j : Fin 8, j ∈ ([0, 1, 2, 3, 4, 5, 6, 7] : List (Fin 8)) := by decide
  simp [otherWindows, this]

theorem clashingWindow_eq_none {ws : Vector Window 8} {i : Fin 8} {base : Addr} {size : Nat} :
    clashingWindow ws i base size = none ↔ ∀ j : Fin 8, j ≠ i → windowClash base size (ws[j.val]) = false := by
  simp [clashingWindow, mem_otherWindows]

theorem sel8_eq {selector : BitVec 16} {i : Fin 8} (h : selector.toNat = i.val) : sel8 selector = i := by
  apply Fin.ext
  simp [sel8, h]

/-- R9: a SET_WINDOW fails none of its checks exactly where its window may be given what it asks for. -/
theorem windowFaults_none_iff {s : State} {h : BlockHead} {p : WindowParams} :
    firstFault (windowFaults s h p) = none ↔
      h.zero = 0 ∧ h.selector ≠ 0 ∧ h.selector.toNat < 8 ∧ windowLegal s (sel8 h.selector) p := by
  have roles : p.role.toNat ≤ 2 ↔ p.role = 0 ∨ p.role = 1 ∨ p.role = 2 := by bv_omega
  rw [firstFault_eq_none]
  simp only [windowFaults, zeroFault, List.forall_mem_cons, List.not_mem_nil, false_imp_iff, implies_true,
    and_true, decide_eq_false_iff_not, not_not, Bool.or_eq_false_iff, Bool.and_eq_false_iff,
    Option.isSome_eq_false_iff, Option.isNone_iff_eq_none, clashingWindow_eq_none, List.any_eq_false,
    mem_otherWindows, Bool.not_eq_true, not_lt, not_le, roles, windowLegal]
  by_cases pattern : p.role = 1
  · by_cases size : p.size.toNat = 4096
    · simp [pattern, size, Nat.lt_succ_iff (n := 3), imp_iff_not_or, and_assoc]
    · simp [pattern, size]
  · by_cases report : p.role = 2
    · simp [report, and_assoc]
    · have noPattern : p.role ≠ 1#8 := pattern
      have noReport : p.role ≠ 2#8 := report
      simp [noPattern, noReport, and_assoc]

/-! ### The table after SET_WINDOW (R9) -/

theorem newWindow_pattern {p : WindowParams} (h : p.role = 1) :
    newWindow p = ⟨p.base, p.size.toNat, .pattern, Fin.ofNat 4 p.pattern.toNat⟩ := by simp [newWindow, h]

theorem newWindow_report {p : WindowParams} (h : p.role = 2) :
    newWindow p = ⟨p.base, p.size.toNat, .report, 0⟩ := by simp [newWindow, h]

theorem newWindow_off {p : WindowParams} (h : p.role = 0) : newWindow p = .none := by simp [newWindow, h]

/-- R9: the window that a legal SET_WINDOW gives goes with the others. -/
theorem TableOk.setWindow {s : State} (ok : TableOk s.path.windows false) {i : Fin 8} (hi : i ≠ 0)
    {p : WindowParams} (legal : windowLegal s i p) :
    TableOk (s.path.windows.set i.val (newWindow p)) false := by
  rcases legal with off | ⟨pattern, size, number, aligned, apart, alone⟩ |
    ⟨report, size, aligned, apart, alone⟩
  · rw [newWindow_off off]
    exact ok.set hi nofun nofun nofun nofun nofun nofun
  · rw [newWindow_pattern pattern]
    refine ok.set hi nofun nofun (fun _ => size ▸ aligned) (fun j hj _ => apart j hj) nofun
      fun _ j hj role same => alone j hj ⟨role, ?_⟩
    simp [same, Nat.mod_eq_of_lt number]
  · rw [newWindow_report report]
    exact ok.set hi nofun (fun _ => size) (fun _ => aligned) (fun j hj _ => apart j hj)
      (fun _ => alone) nofun

/-- R4, R9, R17: every move keeps the Window Table legal. -/
theorem tableOk_of_move {s t : State} (moved : CoreMove s t) (ok : TableOk s.path.windows s.porst) :
    TableOk t.path.windows t.porst := by
  cases moved with
  | outside h => rw [h.path, h.porst]; exact ok
  | join k prod w free => rw [producerJoined_path, producerJoined_porst]; exact ok
  | portReset => exact ok.afterReset _
  | powerOn => exact ok.afterReset _
  | powerOnRelease wbase on => rw [on] at ok; exact ok.release wbase
  | setWindow h p run legal =>
    obtain ⟨-, notZero, inRange, legal⟩ := windowFaults_none_iff.1 legal
    have porst : s.porst = false := (Bool.or_eq_false_iff.1 run).2
    have number : (sel8 h.selector).val = h.selector.toNat := Nat.mod_eq_of_lt inRange
    have notFirst : sel8 h.selector ≠ 0 := fun e => notZero (by
      rw [e] at number
      exact BitVec.eq_of_toNat_eq number.symm)
    rw [porst] at ok
    exact porst ▸ ok.setWindow notFirst legal
  | dropStale => rw [dropStale_path, dropStale_porst]; exact ok
  | select => rw [select_path, select_porst]; exact ok
  | startWrite => rw [startWrite_path, startWrite_porst]; exact ok
  | _ => exact ok

/-- Settles O56: the three parts are kept by each move of the core, and a step is made of such moves. -/
theorem pathAndWindowsStayLegal : Obligations.PathAndWindowsStayLegal := by
  unfold Obligations.PathAndWindowsStayLegal
  refine kept_of_coreMove fun s t moved => ?_
  simp only [pathOk_iff, decoderOk_iff, windowsOk_iff]
  exact fun ⟨path, lists, table⟩ =>
    ⟨pathBounded_of_move moved path, listsBounded_of_move moved lists, tableOk_of_move moved table⟩

end Sys2Proof.Machine
end

section
/-! PROOF. The bookkeeping of the ring, kept by every move of the core. -/

namespace Sys2Proof.Machine

open Sys2Proof Sys2Proof.Safety

/-! ### Where a ring may lie (R9, R162) -/

/-- R9: a REPORT size divides the address space and is made of 32-byte units. -/
theorem reportSize_dvd {size : Nat} (h : reportSize size = true) :
    0 < size ∧ 32 ∣ size ∧ size ∣ 2 ^ 40 := by
  simp only [reportSize, List.mem_cons, List.not_mem_nil, or_false, decide_eq_true_eq] at h
  rcases h with rfl | rfl | rfl | rfl | rfl | rfl | rfl | rfl | rfl <;> decide

/-- R9: a REPORT window at a multiple of its size is a place for a ring. -/
theorem ringPlaced_of_aligned {base : Addr} {size : Nat} (sized : reportSize size = true)
    (aligned : base.toNat % size = 0) : ringPlaced base size := by
  obtain ⟨pos, units, ⟨k, hk⟩⟩ := reportSize_dvd sized
  obtain ⟨m, hm⟩ := Nat.dvd_of_mod_eq_zero aligned
  refine ⟨pos, Nat.mod_eq_zero_of_dvd units,
    Nat.mod_eq_zero_of_dvd (units.trans (Nat.dvd_of_mod_eq_zero aligned)), ?_⟩
  have below : m < k := by
    have := base.isLt
    rw [hm, hk] at this
    exact Nat.lt_of_mul_lt_mul_left this
  calc base.toNat + size = size * (m + 1) := by rw [hm, Nat.mul_succ]
    _ ≤ size * k := Nat.mul_le_mul_left _ below
    _ = 2 ^ 40 := hk.symm

/-- Every REPORT window of the table is a place for a ring. -/
def ReportPlaced (ws : Vector Window 8) : Prop :=
  ∀ j : Fin 8, (ws[j.val]).role = .report → ringPlaced (ws[j.val]).base (ws[j.val]).size

theorem ReportPlaced.set {ws : Vector Window 8} (ok : ReportPlaced ws) (i : Fin 8) {new : Window}
    (h : new.role = .report → ringPlaced new.base new.size) : ReportPlaced (ws.set i.val new) := by
  intro j
  rw [windows_set_getElem]
  split
  · exact h
  · exact ok j

theorem ReportPlaced.afterReset {ws : Vector Window 8} (ok : ReportPlaced ws) :
    ReportPlaced (windowsAfterReset (ws[0])) := by
  intro j role
  by_cases hj : j = 0
  · subst hj; exact ok 0 role
  · rw [windowsAfterReset_off _ j hj] at role; cases role

/-- R9: the window that a legal SET_WINDOW gives is a place for a ring where its role is REPORT. -/
theorem newWindow_placed {s : State} {i : Fin 8} {p : WindowParams} (legal : windowLegal s i p)
    (role : (newWindow p).role = .report) : ringPlaced (newWindow p).base (newWindow p).size := by
  rcases legal with off | ⟨pattern, -⟩ | ⟨report, size, aligned, -⟩
  · rw [newWindow_off off] at role; cases role
  · rw [newWindow_pattern pattern] at role; cases role
  · rw [newWindow_report report]; exact ringPlaced_of_aligned size aligned

/-- R171: the ring that a ring reset takes is the place of a REPORT window. -/
theorem reportRing_placed {ws : Vector Window 8} (ok : ReportPlaced ws) {r : Ring}
    (h : reportRing ws = some r) : ringPlaced r.base r.size := by
  obtain ⟨w, hw, rfl⟩ := Option.map_eq_some_iff.1 h
  obtain ⟨k, hk, rfl⟩ := Vector.getElem_of_mem (by simpa using List.mem_of_find?_eq_some hw)
  exact ok ⟨k, hk⟩ (by simpa using List.find?_some hw)

/-! ### The Record Writer and its ring (R162, R163, R166, R169, R172) -/

/-- The entry of the record in flight `f` in the ring. -/
structure InFlightOk (w : Writer) (r : Ring) (f : InFlight) : Prop where
  offset : f.offset = w.write
  length : lengthOk f.length
  inside : f.offset + f.length ≤ r.size
  room   : w.used + f.length ≤ r.size
  alone  : f.kind ≠ .pad → w.selection = none

/-- Where the oldest record lies. -/
def oldestOf (write : Nat) : List Published → Nat
  | [] => write
  | p :: _ => p.offset

/-- `ringOk` with its parts named. -/
structure RingKept (w : Writer) (r : Ring) : Prop where
  placed    : ringPlaced r.base r.size
  write     : w.write < r.size
  units     : w.write % 32 = 0
  bound     : w.used ≤ r.size
  used      : w.used = (w.list.map Published.length).sum
  listed    : ∀ p ∈ w.list, p.offset % 32 = 0 ∧ lengthOk p.length ∧ p.offset + p.length ≤ r.size
  oldest    : w.oldest = oldestOf w.write w.list
  selection : ∀ sel, w.selection = some sel → lengthOk sel.length
  inFlight  : ∀ f, w.inFlight = some f → InFlightOk w r f

theorem ringOk_iff (w : Writer) (r : Ring) : ringOk w r ↔ RingKept w r := by
  constructor
  · rintro ⟨placed, write, units, bound, used, listed, oldest, selection, inFlight⟩
    refine ⟨placed, write, units, bound, used, listed, oldest.trans ?_, selection, fun f hf => ?_⟩
    · cases w.list <;> rfl
    obtain ⟨offset, length, inside, room, alone⟩ := inFlight f hf
    exact ⟨offset, length, inside, room, alone⟩
  · intro ok
    refine ⟨ok.placed, ok.write, ok.units, ok.bound, ok.used, ok.listed, ok.oldest.trans ?_, ok.selection,
      fun f hf => ?_⟩
    · cases w.list <;> rfl
    have := ok.inFlight f hf
    exact ⟨this.offset, this.length, this.inside, this.room, this.alone⟩

/-- The Record Writer's part of `RingOk`. -/
def WriterOk (w : Writer) : Prop := ∀ r, w.ring = some r → RingKept w r

theorem ringOk_state_iff (s : State) : RingOk s ↔ WriterOk s.writer ∧ ReportPlaced s.path.windows := by
  simp only [RingOk, WriterOk, ReportPlaced, ringOk_iff]

theorem roundUp32_ok {n : Nat} (h : 0 < n) : lengthOk (roundUp32 n) := by
  unfold roundUp32
  exact ⟨by omega, Nat.mul_mod_left _ _⟩

/-- R163: every record has a length of 32-byte units. -/
theorem recordLength_ok (s : State) (src : RecSource) (kind : RecordKind) :
    lengthOk (recordLength s src kind) := by
  unfold recordLength
  split
  · exact roundUp32_ok (by omega)
  all_goals exact ⟨by decide, by decide⟩

/-- A writer with nothing in its ring. -/
theorem WriterOk.reset {ring : Option Ring} (placed : ∀ r, ring = some r → ringPlaced r.base r.size)
    (left : Option (Fin 8)) : WriterOk (.reset ring left) := by
  intro r hr
  have ok := placed r hr
  exact ⟨ok, ok.1, rfl, Nat.zero_le _, rfl, nofun, rfl, nofun, nofun⟩

/-- A selection may be dropped, or made while no record is in flight. -/
theorem RingKept.withSelection {w : Writer} {r : Ring} (ok : RingKept w r) {sel : Option Selection}
    (lengths : ∀ x, sel = some x → lengthOk x.length) (free : sel = none ∨ w.inFlight = none)
    (last : RecSource) : RingKept { w with selection := sel, lastSource := last } r := by
  refine { ok with selection := lengths, inFlight := fun f hf => ?_ }
  have kept := ok.inFlight f hf
  rcases free with free | free
  · exact { kept with alone := fun _ => free }
  · exact absurd (free.symm.trans hf) nofun

/-- A record whose bytes find room at W may be in flight. -/
theorem RingKept.withInFlight {w : Writer} {r : Ring} (ok : RingKept w r) {sel : Option Selection}
    (lengths : ∀ x, sel = some x → lengthOk x.length) {f : InFlight} (offset : f.offset = w.write)
    (length : lengthOk f.length) (inside : w.write + f.length ≤ r.size)
    (room : w.used + f.length ≤ r.size) (alone : f.kind ≠ .pad → sel = none) :
    RingKept { w with inFlight := some f, selection := sel } r := by
  refine { ok with selection := lengths, inFlight := fun f' hf => ?_ }
  obtain rfl : f = f' := Option.some.inj hf
  exact ⟨offset, length, offset ▸ inside, room, alone⟩

/-- R165: the selection made, if one is. -/
theorem select_cases (s : State) : select s = s ∨ ∃ src kind, s.writer.inFlight = none ∧
    select s = s.modWriter fun w => { w with
      selection := some ⟨src, kind, recordLength s src kind⟩, lastSource := src } := by
  unfold select
  split
  · rename_i free
    split
    · exact .inl rfl
    · rename_i src kind _
      simp only [Writer.free, Bool.and_eq_true, Option.isNone_iff_eq_none] at free
      obtain ⟨⟨⟨⟨-, inFlight⟩, -⟩, -⟩, -⟩ := free
      exact .inr ⟨src, kind, inFlight, rfl⟩
  · exact .inl rfl

theorem select_writerOk {s : State} (ok : WriterOk s.writer) : WriterOk (select s).writer := by
  obtain e | ⟨src, kind, free, e⟩ := select_cases s <;> rw [e]
  · exact ok
  · intro r hr
    exact (ok r hr).withSelection
      (fun x hx => by cases hx; exact recordLength_ok s src kind) (.inr free) src

theorem dropStale_writerOk {s : State} (ok : WriterOk s.writer) : WriterOk (dropStale s).writer := by
  unfold dropStale
  split
  · exact ok
  · split
    · exact ok
    · intro r hr
      exact (ok r hr).withSelection (fun _ hx => by cases hx) (.inl rfl) _

theorem waitingSelection_eq_some {w : Writer} {sel : Selection} (h : w.waitingSelection = some sel) :
    w.inFlight = none ∧ w.selection = some sel := by
  unfold Writer.waitingSelection at h
  split at h
  · rename_i free; exact ⟨Option.isNone_iff_eq_none.1 free, h⟩
  · cases h

/-- R166: what the room test says of a ring. -/
theorem fits_iff {w : Writer} {r : Ring} (hr : w.ring = some r) (len : Nat) : w.fits len = true ↔
    (w.padNeeded r.size len = true → (r.size - w.write) + len ≤ r.size - w.used) ∧
      (w.padNeeded r.size len = false → len ≤ r.size - w.used) := by
  simp only [Writer.fits, hr]
  cases w.padNeeded r.size len <;> simp

theorem startWrite_writerOk {s : State} (ok : WriterOk s.writer) : WriterOk (startWrite s).writer := by
  obtain e | ⟨sel, r, hsel, hr, fit, pad, e⟩ | ⟨sel, r, hsel, hr, fit, pad, e⟩ := startWrite_cases s <;>
    rw [e]
  · exact ok
  · intro r' hr'
    obtain rfl : r = r' := Option.some.inj (hr.symm.trans hr')
    have kept := ok r hr
    obtain ⟨-, selected⟩ := waitingSelection_eq_some hsel
    have length := kept.selection sel selected
    have room := ((fits_iff hr _).1 fit).1 pad
    have below := kept.write
    have bound := kept.bound
    refine kept.withInFlight kept.selection (f := padInFlight s r sel) rfl
      ⟨by simp only [padInFlight]; omega, ?_⟩ ?_ ?_ (fun h => absurd rfl h)
    · have := kept.units
      have := kept.placed.2.1
      simp only [padInFlight]
      omega
    · simp only [padInFlight]; omega
    · simp only [padInFlight]; omega
  · rw [(clearPending_same ..).writer]
    intro r' hr'
    obtain rfl : r = r' := Option.some.inj (hr.symm.trans hr')
    have kept := ok r hr
    obtain ⟨-, selected⟩ := waitingSelection_eq_some hsel
    have room := ((fits_iff hr _).1 fit).2 pad
    have bound := kept.bound
    have inside : s.writer.write + sel.length ≤ r.size := by simpa [Writer.padNeeded] using pad
    exact kept.withInFlight (fun _ hx => by cases hx) (f := recordInFlight s r sel) rfl
      (kept.selection sel selected) inside (by simp only [recordInFlight]; omega) (fun _ => rfl)

/-- R169: publication appends the record in flight and moves W past it. -/
theorem publishRing_kept {w : Writer} {r : Ring} (ok : RingKept w r) {f : InFlight}
    (h : w.inFlight = some f) (now : BitVec 48) : RingKept (publishRing f r.size now w) r := by
  have flight := ok.inFlight f h
  obtain ⟨sizePos, sizeUnits, -, -⟩ := ok.placed
  refine ⟨ok.placed, Nat.mod_lt _ sizePos, ?_, flight.room, ?_, ?_, ?_, ok.selection, nofun⟩
  · have wrapped : (w.write + f.length) % r.size % 32 = (w.write + f.length) % 32 :=
      Nat.mod_mod_of_dvd _ (Nat.dvd_of_mod_eq_zero sizeUnits)
    have := ok.units
    have := flight.length.2
    simp only [publishRing, wrapped]
    omega
  · simp [publishRing, ok.used]
  · intro p hp
    rcases List.mem_append.1 hp with hp | hp
    · exact ok.listed p hp
    · obtain rfl := List.mem_singleton.1 hp
      exact ⟨flight.offset ▸ ok.units, flight.length, flight.inside⟩
  · have oldest := ok.oldest
    rcases hl : w.list with _ | ⟨p, rest⟩
    · simpa [publishRing, hl, oldestOf, flight.offset] using oldest
    · simpa [publishRing, hl, oldestOf] using oldest

theorem Writer.consume_oldest (covered : Published → Bool) (w : Writer) :
    (w.consume covered).oldest = oldestOf w.write (consumeList covered w.list) := by
  simp only [Writer.consume]
  cases consumeList covered w.list <;> rfl

/-- R172: consumption takes records from the list's front. -/
theorem RingKept.consume {w : Writer} {r : Ring} (ok : RingKept w r) (covered : Published → Bool) :
    RingKept (w.consume covered) r := by
  have total := consumed_add_rest covered w.list
  have used : (w.consume covered).used = ((consumeList covered w.list).map Published.length).sum := by
    have := ok.used
    simp only [Writer.consume]
    omega
  have less : (w.consume covered).used ≤ w.used := Nat.sub_le _ _
  refine ⟨ok.placed, ok.write, ok.units, less.trans ok.bound, used, fun p hp => ?_,
    w.consume_oldest covered, ok.selection, fun f hf => ?_⟩
  · have hp' : p ∈ w.list.dropWhile covered := consumeList_eq_dropWhile covered w.list ▸ hp
    exact ok.listed p ((List.dropWhile_sublist covered).mem hp')
  · have flight := ok.inFlight f hf
    exact ⟨flight.offset, flight.length, flight.inside,
      (Nat.add_le_add_right less _).trans flight.room, flight.alone⟩

/-- The pieces of the record in flight and the place they take are no part of the bookkeeping. -/
theorem RingKept.withPieces {w : Writer} {r : Ring} (ok : RingKept w r) {f : InFlight}
    (h : w.inFlight = some f) (pieces : List InsWrite) (joined : Option (Fin 8)) :
    RingKept { w with inFlight := some { f with pieces := pieces, joined := joined } } r := by
  have flight := ok.inFlight f h
  exact ok.withInFlight ok.selection flight.offset flight.length
    (flight.offset ▸ flight.inside) flight.room flight.alone

/-- The join of a write leaves the bookkeeping as it is. -/
theorem producerJoined_writerOk {s : State} (ok : WriterOk s.writer) (prod : Producer) (k : Fin 8) :
    WriterOk (producerJoined prod k s).writer := by
  cases prod with
  | decoder => exact ok
  | attention => exact ok
  | record =>
    intro r hr
    have kept := ok r hr
    rcases hf : s.writer.inFlight with _ | f
    · simpa [producerJoined, hf] using { kept with inFlight := nofun }
    · simpa [producerJoined, hf] using kept.withPieces hf f.pieces (some k)

/-- R162, R163, R166, R169, R171, R172: every move keeps the Record Writer's bookkeeping. -/
theorem writerOk_of_move {s t : State} (moved : CoreMove s t) (placed : ReportPlaced s.path.windows)
    (ok : WriterOk s.writer) : WriterOk t.writer := by
  cases moved with
  | outside h => rw [h.writer]; exact ok
  | join k prod w free =>
    exact producerJoined_writerOk (s := s.modPath (joinQueue k prod w)) ok prod k
  | powerOn => exact nofun
  | dropStale => exact dropStale_writerOk ok
  | select => exact select_writerOk ok
  | startWrite => exact startWrite_writerOk ok
  | publish f r hf hr =>
    intro r' hr'
    obtain rfl : r = r' := Option.some.inj (hr.symm.trans hr')
    exact publishRing_kept (ok r hr) hf s.us
  | fail => exact fun r hr => { ok r hr with selection := nofun, inFlight := nofun }
  | nextPiece f rest hf => exact fun r hr => (ok r hr).withPieces hf rest none
  | abandonedDone =>
    exact fun r hr => { ok r hr with
      inFlight := fun f hf => { (ok r hr).inFlight f hf with } }
  | ringReset left => exact .reset (fun r hr => reportRing_placed placed hr) left
  | consume covered => exact fun r hr => (ok r hr).consume covered
  | _ => exact ok

/-- R9, R17: every move keeps the places of the REPORT windows. -/
theorem reportPlaced_of_move {s t : State} (moved : CoreMove s t) (ok : ReportPlaced s.path.windows) :
    ReportPlaced t.path.windows := by
  cases moved with
  | outside h => rw [h.path]; exact ok
  | join k prod w free => rw [producerJoined_path]; exact ok
  | portReset => exact ok.afterReset
  | powerOn => exact ok.afterReset
  | powerOnRelease wbase on => exact ok.set 0 nofun
  | setWindow h p run legal =>
    obtain ⟨-, -, -, legal⟩ := windowFaults_none_iff.1 legal
    exact ok.set (sel8 h.selector) (newWindow_placed legal)
  | dropStale => rw [dropStale_path]; exact ok
  | select => rw [select_path]; exact ok
  | startWrite => rw [startWrite_path]; exact ok
  | _ => exact ok

/-- Settles O59: each move of the core keeps the bookkeeping, and a step is made of such moves. -/
theorem theRingHoldsTheUnconsumed : Obligations.TheRingHoldsTheUnconsumed := by
  unfold Obligations.TheRingHoldsTheUnconsumed
  refine kept_of_coreMove fun s t moved => ?_
  simp only [ringOk_state_iff]
  exact fun ⟨writer, placed⟩ => ⟨writerOk_of_move moved placed writer, reportPlaced_of_move moved placed⟩

end Sys2Proof.Machine
end

section
/-! PROOF. The memory path: acceptance, issue, responses, joins and acknowledgements (chapter 1). -/

namespace Sys2Proof.Machine

open Sys2Proof Sys2Proof.Safety

/-- R16, R17: the part runs where neither reset pin is asserted. -/
theorem inReset_eq_false_iff {s : State} : s.inReset = false ↔ running s := by
  simp [State.inReset, running]

/-! ### Acceptance (R2, R5, R8) -/

theorem canAccept_iff {s : State} : canAccept s = true ↔ running s ∧ s.path.fwd.length < 32 := by
  rw [← inReset_eq_false_iff]
  simp [canAccept, and_comm]

/-- R5, R8: acceptance counts a crossing request and a trespass write. -/
theorem countAccepted_eq (r : Request) (cls : Class) (s : State) : countAccepted r cls s =
    { s with decoder := { s.decoder with counts := { s.decoder.counts with
        crossingRequests := if crossing r then bump s.decoder.counts.crossingRequests
          else s.decoder.counts.crossingRequests
        trespassWrites := if r.kind = .write ∧ cls.role = .report then
            bump s.decoder.counts.trespassWrites
          else s.decoder.counts.trespassWrites } } } := by
  unfold countAccepted
  by_cases crosses : crossing r = true
  · by_cases trespass : r.kind = .write ∧ cls.role = .report
    · simp only [crosses, trespass, and_self, if_true]; rfl
    · simp only [crosses, trespass, if_true, if_false]; rfl
  · by_cases trespass : r.kind = .write ∧ cls.role = .report
    · simp only [crosses, trespass, and_self, if_true]; rfl
    · simp only [crosses, trespass]; rfl

/-- Settles O4, by the two outcomes of `canAccept`. -/
theorem requestAcceptJoinsTheQueue : Obligations.RequestAcceptJoinsTheQueue := by
  unfold Obligations.RequestAcceptJoinsTheQueue
  intro r s wf
  refine ⟨fun run room => ?_, fun refused => ?_⟩
  · have can : canAccept s = true := canAccept_iff.2 ⟨run, room⟩
    simp only [exec, execRequestAccept, wf, can, Bool.not_true, if_true, accept, countAccepted_eq]
    rfl
  · have cannot : ¬ canAccept s = true := fun can => by
      obtain ⟨run, room⟩ := canAccept_iff.1 can
      exact refused.elim (fun h => h run) (fun h => by omega)
    simp only [exec, execRequestAccept, wf, cannot]
    rfl

/-! ### Issue (R10 to R13) -/

/-- R13: the head of the Forwarding Queue is eligible. -/
theorem fwdEligible_eq_some {s : State} {h : FwdEntry} {rest : List FwdEntry} (run : running s)
    (head : s.path.fwd = h :: rest) (free : fwdHeld s.path.ins h = false)
    (room : s.path.out.length < 64) : fwdEligible s = some h := by
  simp [fwdEligible, head, inReset_eq_false_iff.2 run, free, room]

/-- R12: a request that the Insert Queue holds back is not eligible. -/
theorem fwdEligible_eq_none_of_held {s : State} {h : FwdEntry} {rest : List FwdEntry}
    (head : s.path.fwd = h :: rest) (held : fwdHeld s.path.ins h = true) : fwdEligible s = none := by
  simp [fwdEligible, head, held]

/-- R12: what holds the head of the Forwarding Queue back. -/
theorem fwdHeld_of_overlap {ins : List InsEntry} {h : FwdEntry} {e : InsEntry} (mem : e ∈ ins)
    (before : e.arrival < h.arrival) (overlap : overlapsInsert h.req.addr h.req.beats e = true)
    (waits : h.req.kind = .read ∨ e.issued = false) : fwdHeld ins h = true := by
  rw [fwdHeld, List.any_eq_true]
  refine ⟨e, mem, ?_⟩
  rw [overlap, decide_eq_true before]
  cases kind : h.req.kind with
  | read => rfl
  | write => simp [waits.resolve_left (by simp [kind])]

/-- R11: what holds the head of the Insert Queue back. -/
theorem insBlocked_iff {p : Path} {e : InsEntry} : insBlocked p e = true ↔
    (∃ f ∈ p.fwd, f.arrival < e.arrival ∧ overlapsInsert f.req.addr f.req.beats e = true) ∨
      ∃ o ∈ p.out, o.kind = .read ∧ o.arrival < e.arrival ∧
        overlapsInsert o.addr o.beats e = true := by
  simp [insBlocked, and_assoc]

theorem insEligible_eq_some {s : State} {e : InsEntry} (run : running s)
    (head : s.path.ins.find? (fun e => !e.issued) = some e) (free : insBlocked s.path e = false) :
    insEligible s = some e := by
  simp [insEligible, insHead, head, inReset_eq_false_iff.2 run, free]

/-- R13: a forwarded request is issued where one is eligible and no inserted write goes before it. -/
theorem issueForwarded_eq_some {s : State} {h : FwdEntry} (eligible : fwdEligible s = some h)
    (first : insEligible s = none ∨ s.path.arbCount < 4) : issueForwarded s = some h := by
  rcases first with e | e
  · simp [issueForwarded, eligible, e]
  · simp [issueForwarded, eligible, show ¬ 4 ≤ s.path.arbCount by omega]

/-- R13: no forwarded request is issued where none is eligible or an inserted write goes before it. -/
theorem issueForwarded_eq_none {s : State} {e : InsEntry} (eligible : insEligible s = some e)
    (waits : fwdEligible s = none ∨ s.path.arbCount = 4) : issueForwarded s = none := by
  rcases waits with none | count
  · simp [issueForwarded, none]
  · unfold issueForwarded
    split
    · rfl
    · simp [eligible, count]

/-- Settles O6: the two issues by what is eligible, the two waits by what holds the heads back. -/
theorem issueFollowsTheArbiter : Obligations.IssueFollowsTheArbiter := by
  unfold Obligations.IssueFollowsTheArbiter
  refine ⟨fun s h rest run head free room first => ?_, fun s e run head free waits => ?_,
    fun s h rest e head mem before overlap waits => ?_, fun s e head blocked => ?_⟩
  · have issued := issueForwarded_eq_some (fwdEligible_eq_some run head free room) first
    simp only [exec, execForwardedIssue, issued, State.modPath, issueFwd, head, List.tail_cons]
    rfl
  · have eligible := insEligible_eq_some run head free
    have issued : issueInserted s = some e := by
      simp [issueInserted, issueForwarded_eq_none eligible waits, eligible]
    simp only [exec, execInsertedIssue, issued]
    rfl
  · have held := fwdEligible_eq_none_of_held head (fwdHeld_of_overlap mem before overlap waits)
    have idle : issueForwarded s = none := by simp [issueForwarded, held]
    simp only [exec, execForwardedIssue, idle]
  · have held : insEligible s = none := by
      simp [insEligible, insHead, head, insBlocked_iff.2 blocked]
    have idle : issueInserted s = none := by
      unfold issueInserted
      split
      · rfl
      · exact held
    simp only [exec, execInsertedIssue, idle]

/-! ### Responses (R3, R8, R15, R16) -/

/-- R8, R15: a response to such a request hands nothing on. -/
theorem handOff_nothing {e : OutEntry} {status : RespStatus} (s : State)
    (h : e.cls.role = .off ∨ (e.kind = .read ∧ (e.cls.role = .command ∨ e.cls.role = .pattern)) ∨
      (e.cls.role = .report ∧ (e.kind = .write ∨ status = .error))) : handOff e status s = s := by
  rcases h with role | ⟨kind, role | role⟩ | ⟨role, kind | rfl⟩
  · simp [handOff, role]
  · simp [handOff, role, kind]
  · simp [handOff, role, kind]
  · simp [handOff, role, kind]
  · cases kind : e.kind <;> simp [handOff, role, kind]

/-- Settles O7, by the entry that the response is matched to. -/
theorem responsesAreReturnedOnce : Obligations.ResponsesAreReturnedOnce := by
  unfold Obligations.ResponsesAreReturnedOnce
  intro s id status data
  simp only [← dropOut_eq_eraseP]
  refine ⟨fun e found kept plain => ?_, fun e found discarded => ?_, fun absent => ?_⟩
  · have matched : matchOut id s.path.out = some e := found
    simp only [exec, execForwardedResponse, matched, kept, handOff_nothing _ plain]
    rfl
  · have matched : matchOut id s.path.out = some e := found
    simp only [exec, execForwardedResponse, matched, discarded, if_true]
    rfl
  · have unmatched : matchOut id s.path.out = none := by
      simpa [matchOut] using absent
    simp only [exec, execForwardedResponse, unmatched]

/-! ### The Insert Queue (R10, R14, R24, R27) -/

/-- R10: the lowest free place. -/
theorem freePlace_of_lowest {ins : List InsEntry} {k : Fin 8} (free : ∀ e ∈ ins, e.place ≠ k)
    (lower : ∀ j : Fin 8, j < k → ∃ e ∈ ins, e.place = j) : freePlace ins = some k := by
  have places : ([0, 1, 2, 3, 4, 5, 6, 7] : List (Fin 8)) = List.finRange 8 := by decide
  rw [freePlace, places, List.find?_eq_some_iff_getElem]
  refine ⟨by simpa using free, k.val, by simp, by simp, fun j hj => ?_⟩
  simpa using lower ⟨j, by omega⟩ hj

/-- R10: the first producer in rotation with a write in hand is served. -/
theorem serving_of_rotation {s : State} {prod : Producer} {w : InsWrite} {before after : List Producer}
    (order : rotation s.path.lastServed = before ++ prod :: after)
    (idle : ∀ q ∈ before, offered s q = none) (offer : offered s prod = some w) :
    serving s = some (prod, w) := by
  have skipped : (before.findSome? fun p => (offered s p).map fun w => (p, w)) = none :=
    List.findSome?_eq_none_iff.2 fun q hq => by simp [idle q hq]
  rw [serving, order, List.findSome?_append, skipped]
  simp [offer]

/-- The little-endian bytes of a 16-bit number. -/
theorem leBytes_two (x : BitVec 16) : leBytes 2 x.toNat = [x.setWidth 8, (x >>> 8).setWidth 8] := by
  simp only [leBytes, List.cons.injEq, and_true]
  constructor
  · exact BitVec.eq_of_toNat_eq (by simp)
  · exact BitVec.eq_of_toNat_eq (by simp [Nat.shiftRight_eq_div_pow])

/-- The little-endian bytes of a 32-bit number. -/
theorem leBytes_four (x : BitVec 32) : leBytes 4 x.toNat =
    [x.setWidth 8, (x >>> 8).setWidth 8, (x >>> 16).setWidth 8, (x >>> 24).setWidth 8] := by
  simp only [leBytes, List.cons.injEq, and_true]
  refine ⟨?_, ?_, ?_, ?_⟩ <;>
    exact BitVec.eq_of_toNat_eq (by simp [Nat.shiftRight_eq_div_pow, Nat.div_div_eq_div_mul])

/-- Settles O11: the join by the producer served, the words by their little-endian fields. -/
theorem insertJoinServesInRotation : Obligations.InsertJoinServesInRotation := by
  unfold Obligations.InsertJoinServesInRotation
  refine ⟨fun s k prod w before after free lower order idle offer => ?_, ⟨rfl, rfl, rfl⟩,
    fun s => ⟨?_, ?_, fun noRecord => ?_, fun f hf => ⟨fun offer => ?_, fun joined => ?_⟩⟩⟩
  · simp only [exec, execInsertJoin, joinNext, freePlace_of_lowest free lower,
      serving_of_rotation order idle offer]
    cases prod with
    | decoder =>
      simp only [producerJoined, State.modPath, joinQueue, Decoder.wordJoined]
      cases s.decoder.backlog <;> rfl
    | record =>
      simp only [producerJoined, State.modPath, joinQueue, State.modWriter]
      cases hf : s.writer.inFlight with
      | none => simp [offered, hf] at offer
      | some f => rfl
    | attention => rfl
  · simp only [offered]
    congr 1
    funext c
    simp only [Completion.write, Completion.word, leBytes_two, leBytes_four]
    cases c.data <;> cases c.status <;> rfl
  · simp only [offered]
    congr 1
    funext w
    simp only [AttnWord.write, AttnWord.bytes, leBytes_two, leBytes_four]
    rfl
  · simp only [offered, noRecord]
  · simp only [offered, hf, offer]
  · simp only [offered, hf]
    cases hj : f.joined with
    | none => exact absurd hj joined
    | some _ => rfl

/-! ### A record that is not published (R164, R170, R171) -/

/-- What slot `j` holds once the record `f` is not published. -/
theorem repend_slot (f : InFlight) (s : State) (j : SlotId) :
    (repend f s).slot j = (slotsRepended s f)[j.val] := by
  obtain ⟨source, kind, offset, length, flags, pieces, joined⟩ := f
  cases source with
  | status => cases kind <;> simp [repend, slotsRepended]
  | slot i =>
    by_cases h : j = i
    · subst h; cases kind <;> simp [repend, slotsRepended]
    · have away : i ≠ j := fun e => h e.symm
      cases kind <;> simp [repend, slotsRepended, h, away]

/-- An unpublished record leaves all but its source as it is. -/
theorem repend_frame (f : InFlight) (s : State) : repend f s = { s with
    slots := (repend f s).slots
    decoder := { s.decoder with statusPending := statusRepended s f } } := by
  obtain ⟨source, kind, offset, length, flags, pieces, joined⟩ := f
  cases source <;> cases kind <;> simp [repend, statusRepended, State.modSlot, State.withSlot,
    State.setStatusPending]

/-- R164: the kind of an unpublished record becomes pending again at its own source, and nothing else
changes. -/
theorem repend_eq (f : InFlight) (s : State) : repend f s = { s with
    slots := slotsRepended s f
    decoder := { s.decoder with statusPending := statusRepended s f } } := by
  have slots : (repend f s).slots = slotsRepended s f :=
    Vector.ext fun k hk => repend_slot f s ⟨k, hk⟩
  rw [repend_frame, slots]

/-! ### The end of an event with nothing to select (R165, R174) -/

/-- R174: the evaluation of the condition changes the condition, the count and the waiting word. -/
theorem evaluate_frame (s : State) : evaluate s = { s with attention := { s.attention with
    condition := (evaluate s).attention.condition, count := (evaluate s).attention.count
    waiting := (evaluate s).attention.waiting } } := by
  unfold evaluate
  split
  · rfl
  · split <;> rfl

/-- R165, R170: a broken writer without a selection makes none. -/
theorem settle_of_broken {s : State} (broken : s.writer.broken = true)
    (none : s.writer.selection = none) : settle s = evaluate s := by
  have kept : dropStale s = s := by simp [dropStale, none]
  have idle : select s = s := by simp [select, Writer.free, broken]
  rw [settle, kept, idle]

/-! ### Acknowledgements (R14, R28, R170, R171, R176) -/

/-- R170: the record that fails leaves the attention's condition to be evaluated, and nothing to select. -/
theorem failRecord_eq (f : InFlight) (s : State) : failRecord f s = evaluate { s with
    decoder := { s.decoder with
      counts := { s.decoder.counts with
        insertedWritesFailed := bump s.decoder.counts.insertedWritesFailed }
      statusPending := statusRepended s f }
    slots := slotsRepended s f
    writer := { s.writer with broken := true, inFlight := none, selection := none } } := by
  rw [failRecord, repend_eq, settle_of_broken rfl rfl]
  rfl

/-- R14: the acknowledgement of the entry issued at the place. -/
theorem execInsertAck_of_issued {s : State} {place : BitVec 8} {status : RespStatus} {e : InsEntry}
    (issued : s.path.ins.find? (fun e => e.issued && decide (e.place.val = place.toNat)) = some e) :
    exec (.insertAck place status) s =
      if e.void then .next (s.modPath (leaveQueue e.place))
      else .next (producerAcked e.producer e.place status (s.modPath (leaveQueue e.place))) := by
  have found : issuedAt place s.path.ins = some e := issued
  simp only [exec, execInsertAck, found]

/-- R28, R176: a completion or attention word that fails is counted. -/
theorem producerAcked_word {prod : Producer} (h : prod ≠ .record) (k : Fin 8) (status : RespStatus)
    (s : State) : producerAcked prod k status s = { s with decoder := { s.decoder with
      counts := { s.decoder.counts with
        insertedWritesFailed :=
          if status = .error then bump s.decoder.counts.insertedWritesFailed
          else s.decoder.counts.insertedWritesFailed } } } := by
  cases prod with
  | record => exact absurd rfl h
  | decoder => cases status <;> rfl
  | attention => cases status <;> rfl

/-- R171: the end of the abandoned piece frees the Record Writer. -/
theorem producerAcked_abandoned {s : State} {k : Fin 8} (noRecord : s.writer.inFlight = none)
    (abandoned : s.writer.abandoned = some k) (status : RespStatus) :
    producerAcked .record k status s = settle { s with
      decoder := { s.decoder with counts := { s.decoder.counts with
        insertedWritesFailed :=
          if status = .error then bump s.decoder.counts.insertedWritesFailed
          else s.decoder.counts.insertedWritesFailed } }
      writer := { s.writer with abandoned := none } } := by
  simp only [producerAcked, recordAcked, noRecord, abandoned, if_true]
  cases status <;> simp [State.modWriter, insertedFailed, State.modCounts, noRecord]

/-- Settles O12, by the entry issued at the place and by its producer. -/
theorem insertAcksFreeTheirPlaces : Obligations.InsertAcksFreeTheirPlaces := by
  unfold Obligations.InsertAcksFreeTheirPlaces
  refine ⟨fun s place status => ⟨fun absent => ?_, fun e issued => ⟨fun void => ?_, fun live word => ?_,
    fun live record noRecord abandoned => ?_⟩⟩, fun s place e f issued live record hf joined => ?_⟩
  · have unmatched : issuedAt place s.path.ins = none := absent
    simp only [exec, execInsertAck, unmatched]
  · rw [execInsertAck_of_issued issued, if_pos void]
    rfl
  · rw [execInsertAck_of_issued issued, live, producerAcked_word word]
    rfl
  · rw [execInsertAck_of_issued issued, live, record,
      producerAcked_abandoned (s := s.modPath (leaveQueue e.place)) noRecord abandoned]
    rfl
  · have acked : producerAcked .record e.place .error (s.modPath (leaveQueue e.place)) =
        failRecord f (s.modPath (leaveQueue e.place)) := by
      simp [producerAcked, recordAcked, hf, joined]
    rw [execInsertAck_of_issued issued, live, record, acked]
    refine ⟨_, rfl, ?_⟩
    rw [failRecord_eq]
    exact evaluate_frame _

end Sys2Proof.Machine
end

section
/-! PROOF. The resets (R16, R17) and the pieces of a record (R167). -/

namespace Sys2Proof.Machine

open Sys2Proof Sys2Proof.Safety

/-! ### Power-on reset (R17) -/

/-- Settles O15: the assertion by the definition of `powerOnReset`, the release under its guard. -/
theorem powerOnResetInitialises : Obligations.PowerOnResetInitialises := by
  unfold Obligations.PowerOnResetInitialises
  refine ⟨fun s => rfl, fun s wbase on => ?_⟩
  simp only [exec, execPowerOnResetRelease, on, if_true]
  rfl

/-! ### The state after reset meets the invariants -/

@[simp] theorem reset_slot (i : SlotId) : State.reset.slot i = .powerOn := by
  simp [State.slot, State.reset]

@[simp] theorem powerOn_lane (l : LaneId) : Slot.powerOn.lane l = .powerOn := by
  simp [Slot.lane, Slot.powerOn]

theorem profileOk_default : profileOk .default := by unfold profileOk; decide

theorem reset_windowsOk : WindowsOk .reset :=
  (windowsOk_iff _).2 (tableOk_of_off _ rfl rfl (command_base_aligned 0) (windowsAfterReset_off _))

theorem reset_settingsOk : SettingsOk .reset := by
  refine ⟨fun k => ?_, fun i => ?_, by unfold timebaseOk; decide, by decide, by decide⟩
  · simpa [State.reset] using profileOk_default
  · simpa [Slot.powerOn] using profileOk_default

theorem reset_countsOk : CountsOk .reset := by
  refine ⟨fun i l => ?_, by decide, by decide, by decide, by decide, by decide, by decide, by decide⟩
  rw [reset_slot, powerOn_lane]
  unfold countersOk
  decide

theorem reset_patternsOk : PatternsOk .reset := by
  intro n
  simp [State.reset, Pattern.powerOn, Memory.wf_empty]

theorem reset_slotsOk : SlotsOk .reset := by
  have noVerdict : ∀ i, ¬ verdictInFlight .reset i := fun i ⟨f, hf, _⟩ => by cases hf
  refine ⟨List.nodup_nil, fun i => ?_, fun i => Nat.zero_le _, fun i => nofun, fun i pending => ?_,
    fun i h => absurd h (noVerdict i), nofun, fun i => ?_⟩
  · rw [reset_slot]; exact ⟨nofun, nofun⟩
  · rw [reset_slot] at pending; cases pending
  · rw [reset_slot]; exact ⟨by decide, nofun⟩

theorem reset_sweepOk : SweepOk .reset := by
  refine ⟨⟨fun _ => rfl, fun _ => rfl⟩, nofun, fun i l => ?_, fun i sw => nofun⟩
  rw [reset_slot, powerOn_lane]
  exact ⟨fun h => absurd rfl h, nofun⟩

theorem reset_claimsOk : ClaimsOk .reset := by
  intro n
  have unclaimed : allSlots.filter (claims .reset n) = [] :=
    List.filter_eq_nil_iff.2 fun i _ => by rw [claims, reset_slot]; exact nofun
  rw [unclaimed]
  simp [State.reset, Pattern.powerOn]

theorem reset_ringOk : RingOk .reset :=
  (ringOk_state_iff _).2 ⟨nofun, fun j role => by
    by_cases hj : j = 0
    · subst hj; cases role
    · have off := windowsAfterReset_off (.command 0) j hj
      exact absurd (off.symm.trans role) (by decide)⟩

/-- Settles O60, one invariant after another. -/
theorem resetMeetsTheInvariants : Obligations.ResetMeetsTheInvariants := by
  unfold Obligations.ResetMeetsTheInvariants
  refine ⟨?_, ?_, reset_windowsOk, fun i => ?_, reset_patternsOk, reset_countsOk, reset_settingsOk,
    reset_slotsOk, reset_sweepOk, reset_claimsOk, reset_ringOk⟩
  · exact (pathOk_iff _).2 ⟨by decide, by decide, by decide, List.nodup_nil, nofun, by decide⟩
  · exact (decoderOk_iff _).2 ⟨List.nodup_nil, List.nodup_nil, by decide⟩
  · rw [reset_slot]; exact findingsOk_nil

/-! ### The pieces of a record (R1, R167) -/

/-- R1: bytes that make a legal inserted write: 1 to 16 beats at a multiple of 16, in one page. -/
def LegalPiece (w : InsWrite) : Prop :=
  w.addr.toNat % 16 = 0 ∧ w.bytes.length = 16 * w.beats ∧ 1 ≤ w.beats ∧ w.beats ≤ 16 ∧
    w.addr.toNat / 4096 = (w.addr.toNat + w.bytes.length - 1) / 4096

/-- Whole beats that end within the page they begin in make a legal write. -/
theorem legalPiece_of_within {w : InsWrite} (aligned : w.addr.toNat % 16 = 0)
    (beats : w.bytes.length % 16 = 0) (pos : 0 < w.bytes.length) (small : w.bytes.length ≤ 256)
    (page : w.addr.toNat % 4096 + w.bytes.length ≤ 4096) : LegalPiece w := by
  unfold LegalPiece InsWrite.beats
  refine ⟨aligned, ?_, ?_, ?_, ?_⟩ <;> omega

/-- R167: where a record is cut: at the page's end, or after 16 beats, or not at all. -/
def cutOf (a : Addr) (len : Nat) : Nat :=
  let room := 4096 - a.toNat % 4096
  if room < len then room else if 256 < len then 256 else len

theorem piecesOf_eq (a : Addr) (b : List Byte) : piecesOf a b =
    if cutOf a b.length < b.length then
      [⟨a + BitVec.ofNat 40 (cutOf a b.length), (b.drop (cutOf a b.length)).map some⟩,
        ⟨a, (b.take (cutOf a b.length)).map some⟩]
    else [⟨a, b.map some⟩] := rfl

/-- Settles O54: a record is cut at the page's end or after 16 beats, or is one piece. -/
theorem piecesAreLegalWrites : Obligations.PiecesAreLegalWrites := by
  unfold Obligations.PiecesAreLegalWrites
  intro a b aligned beats pos small top
  have cutAt : (cutOf a b.length = 4096 - a.toNat % 4096 ∧ cutOf a b.length < b.length) ∨
      (b.length ≤ 4096 - a.toNat % 4096 ∧ cutOf a b.length = min b.length 256) := by
    simp only [cutOf]
    split
    · omega
    · split <;> omega
  by_cases cut : cutOf a b.length < b.length
  · have second : (a + BitVec.ofNat 40 (cutOf a b.length)).toNat = a.toNat + cutOf a b.length := by
      rw [BitVec.toNat_add, BitVec.toNat_ofNat]
      omega
    have legal : ∀ p ∈ piecesOf a b, LegalPiece p := by
      rw [piecesOf_eq, if_pos cut, List.forall_mem_cons, List.forall_mem_singleton]
      constructor <;> apply legalPiece_of_within <;>
        simp only [second, List.length_map, List.length_drop, List.length_take] <;> omega
    refine ⟨legal, .inr ⟨_, _, (piecesOf_eq a b).trans (if_pos cut), rfl, ?_, ?_⟩⟩
    · simp only [second, List.length_map, List.length_take]; omega
    · rw [← List.map_append, List.take_append_drop]
  · have whole : piecesOf a b = [⟨a, b.map some⟩] := (piecesOf_eq a b).trans (if_neg cut)
    have legal : ∀ p ∈ piecesOf a b, LegalPiece p := by
      rw [whole, List.forall_mem_singleton]
      apply legalPiece_of_within <;> simp only [List.length_map] <;> omega
    exact ⟨legal, .inl whole⟩

end Sys2Proof.Machine
end

section
/-! PROOF. The ring reset, the port reset and SET_WINDOW (R9, R16, R171). -/

namespace Sys2Proof.Machine

open Sys2Proof Sys2Proof.Safety

/-! ### The ring reset (R171) -/

/-- R171: the part once the kind of an abandoned record is pending again. -/
def repended (s : State) : State :=
  match s.writer.inFlight with
  | none => s
  | some f => { s with
      slots := slotsRepended s f
      decoder := { s.decoder with statusPending := statusRepended s f } }

/-- R174: with no record listed the age timer is stopped. -/
theorem resetAge_of_empty {s : State} (h : s.writer.list = []) :
    resetAge s = s.modAttention fun a => { a with age := .stopped } := by
  simp [resetAge, qualifying, h]

/-- R171: a ring reset empties the Record Writer, stops the age timer and makes the kind of an abandoned
record pending again. -/
theorem ringReset_eq (keep : Bool) (s : State) : ringReset keep s = { repended s with
    writer := .reset (reportRing s.path.windows) (if keep then s.writer.leftBehind else none)
    attention := { s.attention with age := .stopped } } := by
  unfold ringReset repended
  cases s.writer.inFlight with
  | none =>
    dsimp only
    rw [resetAge_of_empty rfl]
    rfl
  | some f =>
    dsimp only
    rw [repend_eq, resetAge_of_empty rfl]
    rfl

/-! ### The port reset (R16, R42, R108, R110, R173) -/

/-- R109, R110: an entry in service that leaves the queue abandons its try or recovery, and ends its wait. -/
theorem dropService_eq (s : State) : dropService s = { s with sideband := ⟨s.sideband.queue,
    if s.sideband.engine.phase = .try ∨ s.sideband.engine.phase = .recovery then
      { s.sideband.engine with abandoned := true }
    else enginePasses s s.sideband.queue⟩ } := by
  by_cases runsOn : s.sideband.engine.phase = .try ∨ s.sideband.engine.phase = .recovery
  · rw [if_pos runsOn]
    rcases runsOn with phase | phase
    · simp only [dropService, phase]; rfl
    · simp only [dropService, phase]; rfl
  · rw [if_neg runsOn]
    have waits : dropService s = engineFree s := by
      unfold dropService
      split
      · rename_i phase; exact absurd (.inl phase) runsOn
      · rename_i phase; exact absurd (.inr phase) runsOn
      all_goals rfl
    rw [waits, engineFree_eq]

/-- R110: what PRST_N leaves of the Sideband Controller. -/
theorem sidebandPortReset_eq (s : State) :
    sidebandPortReset s = { s with sideband := sidebandWithout s SbEntry.isHost } := by
  have held : (headInService s && s.sideband.queue.head?.any SbEntry.isHost) = true ↔
      s.sideband.engine.phase ≠ .idle ∧ s.sideband.engine.abandoned = false ∧
        s.sideband.queue.head?.any SbEntry.isHost = true := by
    simp [headInService, and_assoc]
  simp only [sidebandPortReset, sidebandWithout, held]
  split
  · rw [dropService_eq]
    rfl
  · rfl

/-- R4, R162: without a REPORT window there is no ring. -/
theorem reportRing_afterReset {w : Window} (h : w.role ≠ .report) :
    reportRing (windowsAfterReset w) = none := by
  simp [reportRing, windowsAfterReset, h]

/-- R173, R174: with no record listed and the power-on settings the condition is false. -/
theorem evaluate_of_portReset {s : State} {a : Attention} (list : s.writer.list = [])
    (settings : s.attention = { a.portReset with age := .stopped }) :
    evaluate s = { s with attention := { Attention.powerOn with count := a.count } } := by
  have notMet : attentionTrue s = false := by
    simp [attentionTrue, attentionParts, qualifying, list, settings, Attention.portReset,
      Attention.powerOn]
  unfold evaluate
  rw [notMet, settings]
  split
  · rename_i same
    have off : a.condition = false := same.symm
    rw [show { Attention.powerOn with count := a.count } = s.attention by
      rw [settings, Attention.portReset, off]; rfl]
  · simp only [Bool.false_eq_true, if_false, State.modAttention, settings]
    rfl

/-- R16, R42, R110, R171, R173: what PRST_N's assertion leaves. -/
theorem portReset_eq (s : State) (notReport : (s.path.windows[0]).role ≠ .report) :
    portReset s = { repended s with
      prst := true
      path := s.path.portReset
      decoder := { (repended s).decoder with backlog := [], outstanding := [] }
      sideband := sidebandWithout s SbEntry.isHost
      writer := .powerOn
      attention := { Attention.powerOn with count := s.attention.count } } := by
  simp only [portReset]
  rw [sidebandPortReset_eq, ringReset_eq, evaluate_of_portReset (a := s.attention) rfl rfl]
  have ring : reportRing s.path.portReset.windows = none := reportRing_afterReset notReport
  unfold repended
  cases hf : s.writer.inFlight with
  | none => simp only [State.modAttention, hf, ring]; rfl
  | some f => simp only [State.modAttention, hf, ring]; rfl

/-- Settles O14, with and without a record in flight. -/
theorem portResetKeepsTheTests : Obligations.PortResetKeepsTheTests := by
  unfold Obligations.PortResetKeepsTheTests
  refine ⟨fun s off windows => ?_, fun s on => by simp only [exec, execPortReset, on, if_true],
    fun s => rfl⟩
  have notReport : (s.path.windows[0]).role ≠ .report := by
    rw [((windowsOk_iff s).1 windows).role0]; decide
  refine ⟨portReset s, by simp [exec, execPortReset, off], ?_⟩
  rw [portReset_eq s notReport]
  unfold repended
  cases hf : s.writer.inFlight with
  | none =>
    exact ⟨rfl, rfl, rfl, rfl, rfl, rfl, rfl, rfl, fun _ => ⟨rfl, rfl⟩, nofun, rfl⟩
  | some f =>
    exact ⟨rfl, rfl, rfl, rfl, rfl, rfl, rfl, rfl, nofun,
      fun f' hf' => by cases hf'; exact ⟨rfl, rfl⟩, rfl⟩

/-! ### Taking a candidate (R22, R24, R41) -/

/-- R22: a candidate whose block is not busy is given to its command. -/
theorem takeCandidate_ready {n : BlockId} {h : BlockHead} {s : State} (r : ready s n h)
    (tag : BitVec 16) (body : State → State) :
    takeCandidate n tag body s = settle (body (countTaken s)) := by
  obtain ⟨run, free, -⟩ := r
  have free' : outstandingTag (countTaken s).decoder n = none := free
  simp [takeCandidate, inReset_eq_false_iff.2 run, free']

/-- R24, R41: the answer to a candidate. -/
theorem giveAnswer_countTaken (n : BlockId) (tag : BitVec 16) (a : Answer) (s : State) :
    giveAnswer n tag a (countTaken s) = { s with decoder := answered s n tag a } := by
  unfold giveAnswer
  cases h : a.status.refusal
  · simp only [Bool.false_eq_true, if_false, answered, h]; rfl
  · simp only [if_true, answered, h]; rfl

/-- R22 step 4: the first failing check refuses with BAD_PARAM. -/
theorem examine_refused {n : BlockId} {tag : BitVec 16} {faults : List (Bool × Nat × Nat)}
    {act : State → State × Option Answer} {s : State} {reason extra : Nat}
    (h : firstFault faults = some (reason, extra)) :
    examine n tag faults act s = giveAnswer n tag ⟨.badParam, reason, BitVec.ofNat 32 extra⟩ s := by
  simp [examine, h]

/-- R22 steps 5 to 7: a command that fails no check acts and is answered. -/
theorem examine_acts {n : BlockId} {tag : BitVec 16} {faults : List (Bool × Nat × Nat)}
    {act : State → State × Option Answer} {s s' : State} {a : Answer} (h : firstFault faults = none)
    (acted : act s = (s', some a)) : examine n tag faults act s = giveAnswer n tag a s' := by
  simp [examine, h, acted]

@[simp] theorem firstFault_failing (reason extra : Nat) (rest : List (Bool × Nat × Nat)) :
    firstFault ((true, reason, extra) :: rest) = some (reason, extra) := rfl

@[simp] theorem firstFault_passing (reason extra : Nat) (rest : List (Bool × Nat × Nat)) :
    firstFault ((false, reason, extra) :: rest) = firstFault rest := rfl

/-! ### SET_WINDOW (R9, R31) -/

/-- R9, R31: a SET_WINDOW refused for its first failing check changes nothing but its answer. -/
theorem setWindow_refused {n : BlockId} {h : BlockHead} {p : WindowParams} {s : State} (r : ready s n h)
    {reason extra : Nat} (fails : firstFault (windowFaults s h p) = some (reason, extra)) :
    exec (.setWindow n h p) s = .next (settle { s with
      decoder := answered s n h.tag ⟨.badParam, reason, BitVec.ofNat 32 extra⟩ }) := by
  have fails' : firstFault (windowFaults (countTaken s) h p) = some (reason, extra) := fails
  simp only [exec, execSetWindow, takeSetWindow]
  rw [takeCandidate_ready r, examine_refused fails', giveAnswer_countTaken]

/-- R9: the REPORT sizes are 4096 to 1,048,576 by powers of two. -/
theorem reportSize_iff {size : Nat} : reportSize size = true ↔ ∃ k ≤ 8, size = 4096 * 2 ^ k := by
  simp only [reportSize, decide_eq_true_eq, List.mem_cons, List.not_mem_nil, or_false]
  constructor
  · rintro (rfl | rfl | rfl | rfl | rfl | rfl | rfl | rfl | rfl)
    exacts [⟨0, by decide, rfl⟩, ⟨1, by decide, rfl⟩, ⟨2, by decide, rfl⟩, ⟨3, by decide, rfl⟩,
      ⟨4, by decide, rfl⟩, ⟨5, by decide, rfl⟩, ⟨6, by decide, rfl⟩, ⟨7, by decide, rfl⟩,
      ⟨8, by decide, rfl⟩]
  · rintro ⟨k, hk, rfl⟩
    interval_cases k <;> decide

theorem windowClash_iff {base : Addr} {size : Nat} {w : Window} : windowClash base size w = true ↔
    w.role ≠ .off ∧ base.toNat < w.base.toNat + w.size ∧ w.base.toNat < base.toNat + size := by
  simp [windowClash, Window.enabled_iff, rangesOverlap]

/-- R9: the lowest window overlapped. -/
theorem clashingWindow_eq_some {ws : Vector Window 8} {i j : Fin 8} {base : Addr} {size : Nat}
    (hj : j ≠ i) (clash : windowClash base size (ws[j.val]) = true)
    (lowest : ∀ k, k < j → k ≠ i → windowClash base size (ws[k.val]) = false) :
    clashingWindow ws i base size = some j := by
  have windows : ([0, 1, 2, 3, 4, 5, 6, 7] : List (Fin 8)) = List.finRange 8 := by decide
  rw [clashingWindow, otherWindows, List.find?_filter, windows, List.find?_eq_some_iff_getElem]
  refine ⟨by simp [hj, clash], j.val, by simp, by simp, fun k hk => ?_⟩
  by_cases hi : (⟨k, by omega⟩ : Fin 8) = i
  · simp [hi]
  · simpa [hi] using lowest ⟨k, by omega⟩ hk hi

/-- R9: window `j` already has the use that the parameters ask for. -/
def SecondUse (p : WindowParams) (w : Window) : Prop :=
  p.role = 2 ∧ w.role = .report ∨
    p.role = 1 ∧ w.role = .pattern ∧ w.pattern.val = p.pattern.toNat

/-- R9: the role has the size, and a PATTERN the number, that it needs. -/
def Shaped (p : WindowParams) : Prop :=
  p.role = 1 ∧ p.size.toNat = 4096 ∧ p.pattern.toNat ≤ 3 ∨ p.role = 2 ∧ reportSize p.size.toNat = true

/-- R9: the checks of a SET_WINDOW of a window other than window 0, in their order. -/
theorem firstFault_windowFaults {s : State} {h : BlockHead} {p : WindowParams} {i : Fin 8}
    (zero : h.zero = 0) (notFirst : i ≠ 0) (number : h.selector.toNat = i.val) :
    (2 < p.role.toNat → firstFault (windowFaults s h p) = some (4, 0)) ∧
    (p.role = 1 → p.size.toNat ≠ 4096 → firstFault (windowFaults s h p) = some (6, 0)) ∧
    (p.role = 1 → p.size.toNat = 4096 → 3 < p.pattern.toNat →
      firstFault (windowFaults s h p) = some (2, 0)) ∧
    (p.role = 2 → reportSize p.size.toNat = false →
      firstFault (windowFaults s h p) = some (6, 0)) ∧
    (Shaped p → p.base.toNat % p.size.toNat ≠ 0 → firstFault (windowFaults s h p) = some (6, 0)) ∧
    (Shaped p → p.base.toNat % p.size.toNat = 0 →
      ∀ j, clashingWindow s.path.windows i p.base p.size.toNat = some j →
        firstFault (windowFaults s h p) = some (7, j.val)) ∧
    (Shaped p → p.base.toNat % p.size.toNat = 0 →
      clashingWindow s.path.windows i p.base p.size.toNat = none →
      (∃ j, j ≠ i ∧ SecondUse p (s.path.windows[j.val])) →
        firstFault (windowFaults s h p) = some (8, 0)) := by
  have selector : decide (h.selector = 0) = false := by
    rw [decide_eq_false_iff_not]
    rintro e
    rw [e] at number
    exact notFirst (Fin.ext number.symm)
  have inRange : decide (8 ≤ h.selector.toNat) = false := by
    rw [decide_eq_false_iff_not]; omega
  have noZero : decide (h.zero ≠ 0) = false := by simp [zero]
  simp only [windowFaults, zeroFault, noZero, selector, inRange, Bool.or_self, firstFault_passing,
    sel8_eq number]
  refine ⟨fun role => ?_, fun role size => ?_, fun role size pattern => ?_, fun role size => ?_,
    fun shaped misaligned => ?_, fun shaped aligned j clash => ?_,
    fun shaped aligned apart ⟨j, hj, use⟩ => ?_⟩
  · simp [firstFault, role]
  · simp [firstFault, role, size]
  · simp [firstFault, role, size, pattern]
  · simp [firstFault, role, size]
  · rcases shaped with ⟨role, size, pattern⟩ | ⟨role, size⟩
    · simp [firstFault, role, size, not_lt.2 pattern, size ▸ misaligned]
    · simp [firstFault, role, size, misaligned]
  · rcases shaped with ⟨role, size, pattern⟩ | ⟨role, size⟩
    · rw [size] at aligned clash
      simp [firstFault, role, size, not_lt.2 pattern, aligned, clash]
    · simp [firstFault, role, size, aligned, clash]
  · have twice : ((otherWindows i).any fun j =>
        (decide (p.role = 2) && decide ((s.path.windows[j.val]).role = .report)) ||
          (decide (p.role = 1) && decide ((s.path.windows[j.val]).role = .pattern) &&
            decide ((s.path.windows[j.val]).pattern.val = p.pattern.toNat))) = true :=
      List.any_eq_true.2 ⟨j, mem_otherWindows.2 hj, by simpa [SecondUse, and_assoc] using use⟩
    rw [twice]
    rcases shaped with ⟨role, size, pattern⟩ | ⟨role, size⟩
    · rw [size] at aligned apart
      simp [firstFault, role, size, not_lt.2 pattern, aligned, apart]
    · simp [firstFault, role, size, aligned, apart]

/-- R171: the ring reset's ring where no window is REPORT. -/
theorem reportRing_eq_none {ws : Vector Window 8} (h : ∀ j : Fin 8, (ws[j.val]).role ≠ .report) :
    reportRing ws = none := by
  rw [reportRing, Option.map_eq_none_iff, List.find?_eq_none]
  intro w hw
  obtain ⟨k, hk, rfl⟩ := Vector.getElem_of_mem (Vector.mem_toList_iff.1 hw)
  simpa using h ⟨k, hk⟩

/-- R171: the ring reset's ring is the place of the one REPORT window. -/
theorem reportRing_eq_some {ws : Vector Window 8} {i : Fin 8} (hi : (ws[i.val]).role = .report)
    (one : ∀ j : Fin 8, j ≠ i → (ws[j.val]).role ≠ .report) :
    reportRing ws = some ⟨(ws[i.val]).base, (ws[i.val]).size⟩ := by
  rw [reportRing]
  cases found : ws.toList.find? fun w => decide (w.role = .report) with
  | none =>
    have := List.find?_eq_none.1 found (ws[i.val]) (Vector.mem_toList_iff.2 (Vector.getElem_mem _))
    exact absurd hi (by simpa using this)
  | some w =>
    obtain ⟨k, hk, rfl⟩ := Vector.getElem_of_mem (Vector.mem_toList_iff.1 (List.mem_of_find?_eq_some found))
    have role : (ws[k]).role = .report := by simpa using List.find?_some found
    have only : (⟨k, hk⟩ : Fin 8) = i := by
      by_contra e
      exact one ⟨k, hk⟩ e role
    subst only
    rfl

/-- R24: an answer beside a change of the other windows: the word addresses window 0, which stays. -/
theorem giveAnswer_withPath (n : BlockId) (tag : BitVec 16) (a : Answer) (s : State) {path : Path}
    (h : path.windows[0] = s.path.windows[0]) :
    giveAnswer n tag a { countTaken s with path := path } =
      { s with path := path, decoder := answered s n tag a } := by
  have same : answered { s with path := path } n tag a = answered s n tag a := by
    simp only [answered, h]
  exact (giveAnswer_countTaken n tag a { s with path := path }).trans (by rw [same])

/-- R41, R171: the count of a command taken stands beside the ring reset that it makes. -/
theorem ringReset_countTaken (s : State) (path : Path) :
    ringReset true { countTaken s with path := path } = { countTaken { repended s with
      writer := .reset (reportRing path.windows) s.writer.leftBehind
      attention := { s.attention with age := .stopped } } with path := path } := by
  rw [ringReset_eq]
  unfold repended countTaken
  cases hf : s.writer.inFlight <;> simp only [State.modCounts, hf] <;> rfl

/-- R9: what a legal SET_WINDOW does before it is answered. -/
theorem setWindow_acts {n : BlockId} {h : BlockHead} {p : WindowParams} {s : State} (r : ready s n h)
    {i : Fin 8} (number : h.selector.toNat = i.val) (hi : i ≠ 0) (legal : windowLegal s i p) :
    exec (.setWindow n h p) s =
      .next (settle (giveAnswer n h.tag ⟨.done, 0, 0⟩ (actSetWindow h p (countTaken s)).1)) := by
  have notFirst : h.selector ≠ 0 := fun e => hi (Fin.ext (by rw [e] at number; exact number.symm))
  have passes : firstFault (windowFaults (countTaken s) h p) = none :=
    windowFaults_none_iff.2 ⟨r.2.2, notFirst, by omega, (sel8_eq number).symm ▸ legal⟩
  simp only [exec, execSetWindow, takeSetWindow]
  rw [takeCandidate_ready r, examine_acts passes (s' := (actSetWindow h p (countTaken s)).1) rfl]
  rfl

theorem newWindow_eq (p : WindowParams) : newWindow p =
    if p.role = 1 then ⟨p.base, p.size.toNat, .pattern, Fin.ofNat 4 p.pattern.toNat⟩
    else if p.role = 2 then ⟨p.base, p.size.toNat, .report, 0⟩
    else ⟨0, 0, .off, 0⟩ := rfl

theorem newWindow_report_iff (p : WindowParams) : (newWindow p).role = .report ↔ p.role = 2 := by
  unfold newWindow
  split
  · rename_i h; simp [h]
  · split
    · rename_i h; simp [h]
    · rename_i h; simpa using h

/-- R9, R171: the ring after a SET_WINDOW that gives or takes away the role REPORT. -/
theorem reportRing_setWindow {s : State} {i : Fin 8} {p : WindowParams} (windows : WindowsOk s)
    (legal : windowLegal s i p)
    (report : (s.path.windows[i.val]).role = .report ∨ (newWindow p).role = .report) :
    reportRing (s.path.windows.set i.val (newWindow p)) =
      if (newWindow p).role = .report then some ⟨p.base, p.size.toNat⟩ else none := by
  split
  · rename_i role
    have asked := (newWindow_report_iff p).1 role
    have others : ∀ j : Fin 8, j ≠ i → (s.path.windows[j.val]).role ≠ .report := by
      rcases legal with e | ⟨e, -⟩ | ⟨-, -, -, -, others⟩
      · exact absurd (e.symm.trans asked) (by decide)
      · exact absurd (e.symm.trans asked) (by decide)
      · exact others
    have own : (s.path.windows.set i.val (newWindow p))[i.val] = newWindow p := by simp
    rw [reportRing_eq_some (i := i) (by rw [own]; exact role) fun j hj => by
      rw [windows_set_getElem, if_neg hj]; exact others j hj, own, newWindow_report asked]
  · rename_i role
    have old := report.resolve_right role
    refine reportRing_eq_none fun j => ?_
    rw [windows_set_getElem]
    split
    · exact role
    · rename_i hj
      exact ((windowsOk_iff s).1 windows).oneReport i j (Ne.symm hj) old

/-- Settles O18: a refusal by the first failing check, a legal command with and without a ring reset. -/
theorem setWindowReplacesTheWindow : Obligations.SetWindowReplacesTheWindow := by
  unfold Obligations.SetWindowReplacesTheWindow
  refine ⟨fun n h p s r => ⟨fun selector => ?_, fun i hi number => ?_⟩,
    fun n h p s i windows r number hi legal => ?_⟩
  · refine setWindow_refused r ?_
    have bad : (decide (h.selector = 0) || decide (8 ≤ h.selector.toNat)) = true := by
      rcases selector with e | e
      · rw [decide_eq_true (BitVec.eq_of_toNat_eq e : h.selector = 0)]; rfl
      · rw [decide_eq_true e, Bool.or_true]
    have noZero : decide (h.zero ≠ 0) = false := by simp [r.2.2]
    simp only [windowFaults, zeroFault, noZero, bad, firstFault_passing, firstFault_failing]
  · obtain ⟨role, size, number', ring, base, overlap, twice⟩ :=
      firstFault_windowFaults (s := s) (p := p) r.2.2 hi number
    simp only [← reportSize_iff, ← windowClash_iff, Bool.not_eq_true]
    refine ⟨fun h3 => setWindow_refused r (role h3), fun h1 hs => setWindow_refused r (size h1 hs),
      fun h1 hs hn => setWindow_refused r (number' h1 hs hn),
      fun h2 hs => setWindow_refused r (ring h2 hs),
      fun hs hb => setWindow_refused r (base hs hb),
      fun hs hb j hj clash lowest => setWindow_refused r
        (overlap hs hb j (clashingWindow_eq_some hj clash lowest)),
      fun hs hb apart use => setWindow_refused r (twice hs hb (clashingWindow_eq_none.2 apart) use)⟩
  · have first : (s.path.windows.set i.val (newWindow p))[0] = s.path.windows[0] := by
      have := windows_set_getElem s.path.windows i 0 (newWindow p)
      rwa [if_neg (Ne.symm hi)] at this
    simp only [← newWindow_eq]
    rw [setWindow_acts r number hi legal]
    refine ⟨fun old new => ?_, fun report => ?_⟩
    · have acts : (actSetWindow h p (countTaken s)).1 = { countTaken s with
          path := { s.path with windows := s.path.windows.set i.val (newWindow p) } } := by
        simp only [actSetWindow, sel8_eq number]
        exact if_neg (not_or.2 ⟨old, new⟩)
      rw [acts, giveAnswer_withPath n h.tag _ s first]
    · have acts : (actSetWindow h p (countTaken s)).1 = ringReset true { countTaken s with
          path := { s.path with windows := s.path.windows.set i.val (newWindow p) } } := by
        simp only [actSetWindow, sel8_eq number]
        exact if_pos report
      rw [acts, ringReset_countTaken, reportRing_setWindow windows legal report,
        giveAnswer_withPath n h.tag _ _ (first.trans (by unfold repended; split <;> rfl))]
      unfold repended Writer.leftBehind
      cases hf : s.writer.inFlight <;> rfl

end Sys2Proof.Machine
end

section
/-! PROOF. The end of a host entry: its completion word, the joins in the same event and the engine passing
on (R116, R117). -/

namespace Sys2Proof.Machine

open Sys2Proof Sys2Proof.Safety

/-! ### The joins in the event that ends a host entry (R10, R27, log 38) -/

/-- The free places of the Insert Queue. -/
def freePlaces (ins : List InsEntry) : Finset (Fin 8) :=
  Finset.univ.filter fun k => ∀ e ∈ ins, e.place ≠ k

theorem mem_freePlaces {ins : List InsEntry} {k : Fin 8} :
    k ∈ freePlaces ins ↔ ∀ e ∈ ins, e.place ≠ k := by simp [freePlaces]

theorem freePlace_isSome_iff {ins : List InsEntry} :
    (freePlace ins).isSome = true ↔ ∃ k : Fin 8, ∀ e ∈ ins, e.place ≠ k := by
  have all : ∀ k : Fin 8, k ∈ ([0, 1, 2, 3, 4, 5, 6, 7] : List (Fin 8)) := by decide
  simp [freePlace, List.find?_isSome, all]

/-- A join takes one of the free places. -/
theorem freePlaces_append {ins : List InsEntry} {e : InsEntry} (free : e.place ∈ freePlaces ins) :
    (freePlaces (ins ++ [e])).card < (freePlaces ins).card := by
  refine Finset.card_lt_card (Finset.ssubset_iff_of_subset ?_ |>.2 ⟨e.place, free, ?_⟩)
  · intro k hk
    rw [mem_freePlaces] at hk ⊢
    exact fun d hd => hk d (List.mem_append_left _ hd)
  · rw [mem_freePlaces]
    exact fun h => h e (by simp) rfl

/-- Block `n` has no SIDEBAND outstanding, or its SIDEBAND completion waits in the backlog. -/
def AnswerWaits (n : BlockId) (s : State) : Prop :=
  outstandingTag s.decoder n = none ∨ ∃ c ∈ s.decoder.backlog, c.block = n ∧ c.fromSideband = true

/-- Block `n` has a SIDEBAND outstanding and a place of the Insert Queue is free. -/
def GoesOn (n : BlockId) (s : State) : Prop :=
  outstandingTag s.decoder n ≠ none ∧ ∃ place : Fin 8, ∀ e ∈ s.path.ins, e.place ≠ place

theorem joinUntilAnswered_succ (n : BlockId) (k : Nat) (s : State) [Decidable (GoesOn n s)] :
    joinUntilAnswered n (k + 1) s = if GoesOn n s then joinUntilAnswered n k (joinNext s) else s := by
  have cond : ((outstandingTag s.decoder n).isSome && (freePlace s.path.ins).isSome) = true ↔
      GoesOn n s := by
    rw [Bool.and_eq_true, freePlace_isSome_iff, GoesOn, ← Option.isSome_iff_ne_none]
  simp only [joinUntilAnswered, cond]

/-- R27: a word that joins leaves the backlog, and its block the outstanding set if it was its answer. -/
theorem wordJoined_answerWaits {n : BlockId} {d : Decoder}
    (h : outstandingTag d n = none ∨ ∃ c ∈ d.backlog, c.block = n ∧ c.fromSideband = true) :
    outstandingTag d.wordJoined n = none ∨
      ∃ c ∈ d.wordJoined.backlog, c.block = n ∧ c.fromSideband = true := by
  simp only [outstandingTag_eq_none] at *
  unfold Decoder.wordJoined
  split
  · exact h
  · rename_i first rest hb
    rcases h with absent | ⟨c, hc, block, side⟩
    · left
      intro p hp
      dsimp only at hp
      split at hp
      · exact absent p (List.mem_of_mem_filter hp)
      · exact absent p hp
    · rw [hb, List.mem_cons] at hc
      rcases hc with rfl | hc
      · left
        intro p hp
        simp only [side, if_true, List.mem_filter, decide_eq_true_eq] at hp
        exact block ▸ hp.2
      · exact .inr ⟨c, hc, block, side⟩

theorem joinNext_answerWaits {n : BlockId} {s : State} (h : AnswerWaits n s) :
    AnswerWaits n (joinNext s) := by
  unfold joinNext
  split
  · rename_i k prod w _ _
    cases prod with
    | decoder => exact wordJoined_answerWaits h
    | record => exact h
    | attention => exact h
  · exact h

/-- R10: some producer is served while a word waits. -/
theorem serving_of_word {s : State} {c : Completion} (h : c ∈ s.decoder.backlog) :
    ∃ prod w, serving s = some (prod, w) := by
  have offer : ∃ w, offered s .decoder = some w := by
    cases hb : s.decoder.backlog with
    | nil => rw [hb] at h; cases h
    | cons d rest => exact ⟨d.write, by simp [offered, hb]⟩
  obtain ⟨w, offer⟩ := offer
  have listed : Producer.decoder ∈ rotation s.path.lastServed := by
    cases s.path.lastServed <;> decide
  have served : (serving s).isSome = true := by
    rw [serving, List.findSome?_isSome_iff]
    exact ⟨.decoder, listed, by simp [offer]⟩
  obtain ⟨⟨prod, w⟩, e⟩ := Option.isSome_iff_exists.1 served
  exact ⟨prod, w, e⟩

/-- A join while the answer waits and a place is free takes a place. -/
theorem joinNext_freePlaces {n : BlockId} {s : State} (waits : AnswerWaits n s) (on : GoesOn n s) :
    (freePlaces (joinNext s).path.ins).card < (freePlaces s.path.ins).card := by
  obtain ⟨outstanding, free⟩ := on
  obtain ⟨c, hc, -, -⟩ := waits.resolve_left outstanding
  obtain ⟨prod, w, served⟩ := serving_of_word hc
  obtain ⟨k, place⟩ := Option.isSome_iff_exists.1 (freePlace_isSome_iff.2 free)
  simp only [joinNext, place, served, producerJoined_path]
  exact freePlaces_append (mem_freePlaces.2 (freePlace_eq_some place))

theorem joined_succ (k : Nat) (s : State) : joined (k + 1) s = joined k (joinNext s) := by
  induction k with
  | zero => rfl
  | succ k ih => exact congrArg joinNext ih

/-- R10, R117: with as many joins allowed as there are free places, the writes join until the answer of
block `n` has joined or every place is taken, and no further. -/
theorem joinUntilAnswered_eq_joined {n : BlockId} (k : Nat) {s : State} (waits : AnswerWaits n s)
    (bound : (freePlaces s.path.ins).card ≤ k) :
    ∃ m, joinUntilAnswered n k s = joined m s ∧ ¬ GoesOn n (joined m s) ∧
      ∀ j < m, GoesOn n (joined j s) := by
  classical
  induction k generalizing s with
  | zero =>
    refine ⟨0, rfl, fun ⟨_, place, free⟩ => ?_, fun j hj => absurd hj (Nat.not_lt_zero j)⟩
    have : 0 < (freePlaces s.path.ins).card := Finset.card_pos.2 ⟨place, mem_freePlaces.2 free⟩
    omega
  | succ k ih =>
    rw [joinUntilAnswered_succ]
    split
    · rename_i on
      have fewer := joinNext_freePlaces waits on
      obtain ⟨m, same, stops, before⟩ := ih (joinNext_answerWaits waits) (by omega)
      refine ⟨m + 1, same.trans (joined_succ m s).symm, joined_succ m s ▸ stops, fun j hj => ?_⟩
      cases j with
      | zero => exact on
      | succ j => rw [joined_succ]; exact before j (by omega)
    · rename_i off
      exact ⟨0, rfl, off, fun j hj => absurd hj (Nat.not_lt_zero j)⟩

/-! ### The end of the entry (R39, R103, R105, R106, R116) -/

/-- The part with `line` recorded as the last try or recovery of the line. -/
def withLine (line : Option LineUse) (s : State) : State :=
  { s with sideband := ⟨s.sideband.queue, { s.sideband.engine with line := line }⟩ }

/-- R24, R39: the completion word of the host entry `e`. -/
def hostWord (s : State) (e : HostEntry) (tag : BitVec 16) (a : Answer)
    (data : Option (Vector Byte 8)) : Completion :=
  ⟨e.block, (s.path.windows[0]).base + BitVec.ofNat 40 (64 * e.block.toNat + 48), tag,
    a.status, BitVec.ofNat 8 a.detail, a.extra, data, true⟩

/-- R39, R116: the entry at the queue's head ends: its word is created, the engine passes on, and the
waiting writes join. -/
theorem hostEnd_eq {s : State} {e : HostEntry} {rest : List SbEntry} {tag : BitVec 16} (r : TxnResult)
    (line : Option LineUse) (head : s.sideband.queue = .host e :: rest)
    (outstanding : outstandingTag s.decoder e.block = some tag) :
    hostEnd e r (withLine line s) = joinUntilAnswered e.block 8 { s with
      sideband := ⟨rest, { enginePasses s rest with line := line }⟩
      decoder := { s.decoder with
        backlog := placeCompletion s.decoder.backlog
          (hostWord s e tag (hostAnswer e r) (hostData e r)) } } := by
  have passes : headEnds (withLine line s) =
      { s with sideband := ⟨rest, { enginePasses s rest with line := line }⟩ } := by
    rw [headEnds_eq]
    simp only [withLine, head, List.tail_cons, enginePasses_line]
  rw [hostEnd, passes, reportHost]
  dsimp only
  rw [outstanding]
  rfl

/-- R116: the transaction of the entry at the queue's head has ended. -/
theorem txnEnd_host {s : State} {e : HostEntry} {rest : List SbEntry} (r : TxnResult)
    (line : Option LineUse) (head : s.sideband.queue = .host e :: rest)
    (kept : s.sideband.engine.abandoned = false) :
    txnEnd r (withLine line s) =
      if e.postWait = 0 then hostEnd e r (withLine line s)
      else { s with sideband := ⟨s.sideband.queue, { s.sideband.engine with
        phase := .postWait, wait := some (s.us + BitVec.ofNat 48 e.postWait), result := some r
        line := line }⟩ } := by
  simp only [txnEnd, withLine, kept, head, Bool.false_eq_true, if_false, hostWait]
  rfl

/-- R25, R39: the answer and the data of each result. -/
theorem hostAnswer_of_result {e : HostEntry} {result : TxnResult} {answer : Answer}
    {data : Option (Vector Byte 8)}
    (h : (∃ bytes, result = .success bytes ∧
        answer = (if e.clamped then ⟨.doneClamped, 0, 1⟩ else ⟨.done, 0, BitVec.ofNat 32 e.count⟩) ∧
        data = (if e.direction = .read then
          some (Vector.ofFn fun k : Fin 8 => bytes.getD k.val 0) else none)) ∨
      (result = .nakAddress ∧ answer = ⟨.sidebandNak, 1, 0⟩ ∧ data = none) ∨
      (∃ acked, result = .nakData acked ∧ answer = ⟨.sidebandNak, 2, BitVec.ofNat 32 acked⟩ ∧
        data = none) ∨
      (result = .stuck .clock ∧ answer = ⟨.sidebandStuck, 1, 0⟩ ∧ data = none) ∨
      (result = .stuck .data ∧ answer = ⟨.sidebandStuck, 2, 0⟩ ∧ data = none)) :
    hostAnswer e result = answer ∧ hostData e result = data := by
  rcases h with ⟨bytes, rfl, rfl, rfl⟩ | ⟨rfl, rfl, rfl⟩ | ⟨acked, rfl, rfl, rfl⟩ | ⟨rfl, rfl, rfl⟩ |
    ⟨rfl, rfl, rfl⟩
  · refine ⟨rfl, ?_⟩
    cases h : e.direction <;> simp [hostData, h, dataField]
  all_goals exact ⟨rfl, rfl⟩

/-- Settles O44: the joins by the free places they take, each end of a transaction by `txnEnd_host`. -/
theorem hostEntriesAreAnswered : Obligations.HostEntriesAreAnswered := by
  unfold Obligations.HostEntriesAreAnswered
  refine ⟨fun s n waits => ?_, fun s e rest tag result answer data head outstanding answered => ?_⟩
  · exact joinUntilAnswered_eq_joined 8 (.inr waits) ((Finset.card_le_univ _).trans (by simp))
  · obtain ⟨rfl, rfl⟩ := hostAnswer_of_result answered
    have ends (line : Option LineUse) := hostEnd_eq result line head outstanding
    refine ⟨fun r phase kept ended => ?_, fun phase kept stuck => ⟨?_, ?_⟩,
      fun w phase wait due result' => ?_⟩
    · rw [execTryEnd_of_endsTxn s r result phase kept ended]
      change Host.Outcome.next (settle (txnEnd result (withLine _ s))) = _
      rw [txnEnd_host result _ head kept, ends]
      rfl
    · simp only [exec, execRecoveryEnd, phase, if_true, endStuck]
      change Host.Outcome.next (settle (txnEnd (.stuck s.sideband.engine.cause) (withLine _ s))) = _
      rw [← stuck, txnEnd_host result _ head kept, ends]
      rfl
    · simp only [exec, execClockHeldLow, phase, endStuck]
      change Host.Outcome.next
        (settle (txnEnd (.stuck s.sideband.engine.cause) (withLine s.sideband.engine.line s))) = _
      rw [← stuck, txnEnd_host result _ head kept, ends]
      rfl
    · have isDue : waitDue s .postWait = true := by simp [waitDue, phase, wait, timerDue, due]
      simp only [exec, execPostWaitExpiry, isDue, if_true, postWaited, head, result']
      change Host.Outcome.next (hostEnd e result (withLine s.sideband.engine.line s)) = _
      rw [ends]
      rfl

end Sys2Proof.Machine
end

section
/-! PROOF. The classification of requests (R5 to R8): the enabled bytes of a write, the blocks they cover,
and what each role takes of them. -/

namespace Sys2Proof.Machine

open Sys2Proof Sys2Proof.Safety

/-! ### The enabled bytes of a write -/

/-- What a list of bytes with their offsets is to be: each offset once, in ascending order. -/
def Ascending (bytes : List (Nat × Byte)) : Prop := (bytes.map Prod.fst).Pairwise (· < ·)

theorem Ascending.filter {bytes : List (Nat × Byte)} (h : Ascending bytes) (f : Nat × Byte → Bool) :
    Ascending (bytes.filter f) := h.sublist (List.filter_sublist.map _)

/-- The enabled bytes, one for each enable that is set. -/
theorem mem_enabledBytes {r : Request} {base o : Nat} {b : Byte} : (o, b) ∈ enabledBytes r base ↔
    ∃ q, o = r.addr.toNat - base + q ∧ r.enables[q]? = some true ∧ r.data[q]? = some b := by
  simp only [enabledBytes, List.mem_filterMap, Prod.exists]
  simp only [List.mem_iff_getElem? (l := List.zip _ _), List.getElem?_zip_eq_some]
  constructor
  · rintro ⟨i, c, e, ⟨q, hi, hc, he⟩, h⟩
    have hq : i = q := by
      rw [List.getElem?_eq_some_iff] at hi
      obtain ⟨_, hi⟩ := hi
      simpa using hi.symm
    subst hq
    split at h
    · rename_i set
      cases h
      exact ⟨i, rfl, by rw [he, set], hc⟩
    · cases h
  · rintro ⟨q, rfl, he, hb⟩
    have hq : q < r.data.length := (List.getElem?_eq_some_iff.1 hb).1
    exact ⟨q, b, true, ⟨q, by simp [hq], hb, he⟩, by simp⟩

theorem enabledBytes_ascending (r : Request) (base : Nat) : Ascending (enabledBytes r base) := by
  have offsets : ((List.range r.data.length).zip (r.data.zip r.enables)).Pairwise
      fun x y => x.1 < y.1 :=
    List.pairwise_iff_getElem.2 fun i j hi hj hij => by simpa using hij
  rw [Ascending, List.pairwise_map, enabledBytes, List.pairwise_filterMap]
  refine offsets.imp ?_
  rintro ⟨i, b, e⟩ ⟨j, c, f⟩ hij x hx y hy
  cases e <;> cases f <;> simp at hx hy
  subst hx hy
  dsimp only at hij ⊢
  omega

/-! ### The blocks of a window (R6) -/

theorem mem_bytesOfBlock {bytes : List (Nat × Byte)} {k : Nat} {p : Nat × Byte} :
    p ∈ bytesOfBlock bytes k ↔ p ∈ bytes ∧ 64 * k ≤ p.1 ∧ p.1 < 64 * k + 64 := by
  simp only [bytesOfBlock, List.mem_filter, decide_eq_true_eq]
  refine and_congr_right fun _ => ?_
  omega

/-- A byte at offset `j` of block `k` is among the bytes. -/
def Enabled (bytes : List (Nat × Byte)) (k j : Nat) : Prop := ∃ b, (64 * k + j, b) ∈ bytes

/-- R6: a covered block has its 64 offsets among the bytes, in ascending order. -/
theorem blockCovered_iff_offsets {bytes : List (Nat × Byte)} (h : Ascending bytes) (k : Nat) :
    blockCovered bytes k = true ↔ (bytesOfBlock bytes k).map Prod.fst = List.range' (64 * k) 64 := by
  rw [blockCovered, decide_eq_true_eq]
  constructor
  · intro full
    have ascending : Ascending (bytesOfBlock bytes k) := h.filter _
    have inside : (bytesOfBlock bytes k).map Prod.fst ⊆ List.range' (64 * k) 64 := by
      intro o ho
      obtain ⟨p, hp, rfl⟩ := List.mem_map.1 ho
      exact List.mem_range'_1.2 (mem_bytesOfBlock.1 hp).2
    have perm := (List.subperm_of_subset (ascending.imp Nat.ne_of_lt) inside).perm_of_length_le
      (by simp [full])
    exact perm.eq_of_pairwise (fun a b _ _ hab hba => absurd hab (Nat.lt_asymm hba)) ascending
      List.pairwise_lt_range'
  · intro offsets
    have := congrArg List.length offsets
    simpa using this

theorem blockCovered_iff {bytes : List (Nat × Byte)} (h : Ascending bytes) (k : Nat) :
    blockCovered bytes k = true ↔ ∀ j < 64, Enabled bytes k j := by
  constructor
  · intro full j hj
    have offsets := (blockCovered_iff_offsets h k).1 full
    have listed : 64 * k + j ∈ (bytesOfBlock bytes k).map Prod.fst := by
      rw [offsets, List.mem_range'_1]; omega
    obtain ⟨⟨o, b⟩, hp, rfl⟩ := List.mem_map.1 listed
    exact ⟨b, (mem_bytesOfBlock.1 hp).1⟩
  · intro all
    rw [blockCovered_iff_offsets h]
    have ascending : Ascending (bytesOfBlock bytes k) := h.filter _
    refine List.Perm.eq_of_pairwise (fun a b _ _ hab hba => absurd hab (Nat.lt_asymm hba)) ascending
      List.pairwise_lt_range' ((List.perm_ext_iff_of_nodup (ascending.imp Nat.ne_of_lt)
        List.nodup_range').2 fun o => ⟨fun ho => ?_, fun ho => ?_⟩)
    · obtain ⟨p, hp, rfl⟩ := List.mem_map.1 ho
      exact List.mem_range'_1.2 (mem_bytesOfBlock.1 hp).2
    · rw [List.mem_range'_1] at ho
      obtain ⟨j, rfl⟩ := Nat.exists_eq_add_of_le ho.1
      obtain ⟨b, hb⟩ := all j (by omega)
      exact List.mem_map.2 ⟨(64 * k + j, b), mem_bytesOfBlock.2 ⟨hb, ho⟩, rfl⟩

/-- R6: the bytes of a covered block, each at its offset in the block. -/
theorem blockCovered_bytes {bytes : List (Nat × Byte)} (h : Ascending bytes) {k : Nat}
    (full : blockCovered bytes k = true) : ((bytesOfBlock bytes k).map Prod.snd).length = 64 ∧
      ∀ j < 64, ∃ b, ((bytesOfBlock bytes k).map Prod.snd)[j]? = some b ∧ (64 * k + j, b) ∈ bytes := by
  have offsets := (blockCovered_iff_offsets h k).1 full
  have length : (bytesOfBlock bytes k).length = 64 := by simpa [blockCovered] using full
  refine ⟨by simpa using length, fun j hj => ?_⟩
  have hj' : j < (bytesOfBlock bytes k).length := by omega
  have offset : ((bytesOfBlock bytes k)[j]).1 = 64 * k + j := by
    have : ((bytesOfBlock bytes k).map Prod.fst)[j]? = (List.range' (64 * k) 64)[j]? := by rw [offsets]
    simpa [hj, hj'] using this
  have entry : (bytesOfBlock bytes k)[j] = (64 * k + j, ((bytesOfBlock bytes k)[j]).2) :=
    Prod.ext offset rfl
  exact ⟨((bytesOfBlock bytes k)[j]).2, by simp [hj'],
    entry ▸ (mem_bytesOfBlock.1 (List.getElem_mem hj')).1⟩

/-- R6: a partly touched block has some of its bytes enabled, but not all. -/
theorem blockPartly_iff {bytes : List (Nat × Byte)} (h : Ascending bytes) (k : Nat) :
    blockPartly bytes k = true ↔ (∃ j < 64, Enabled bytes k j) ∧ ¬ ∀ j < 64, Enabled bytes k j := by
  have touched : (!(bytesOfBlock bytes k).isEmpty) = true ↔ ∃ j < 64, Enabled bytes k j := by
    rw [Bool.not_eq_true', List.isEmpty_eq_false_iff_exists_mem]
    constructor
    · rintro ⟨⟨o, b⟩, hp⟩
      obtain ⟨hp, low, high⟩ := mem_bytesOfBlock.1 hp
      obtain ⟨j, rfl⟩ := Nat.exists_eq_add_of_le low
      exact ⟨j, by omega, b, hp⟩
    · rintro ⟨j, hj, b, hb⟩
      exact ⟨(64 * k + j, b), mem_bytesOfBlock.2 ⟨hb, by omega, by omega⟩⟩
  rw [blockPartly, Bool.and_eq_true, touched, Bool.not_eq_true', ← Bool.not_eq_true,
    blockCovered_iff h]

/-! ### The covered blocks of a COMMAND write -/

/-- R6: the covered blocks of a COMMAND write as `classify` lists them. -/
def coveredBlocks (bytes : List (Nat × Byte)) : List (BlockId × List Byte) :=
  (allBlocks.filter (blockCovered bytes)).map fun k =>
    (BitVec.ofNat 6 k, (bytesOfBlock bytes k).map Prod.snd)

theorem mem_coveredBlocks {bytes : List (Nat × Byte)} {k : Nat} (hk : k < 64) {b : List Byte} :
    (BitVec.ofNat 6 k, b) ∈ coveredBlocks bytes ↔
      blockCovered bytes k = true ∧ b = (bytesOfBlock bytes k).map Prod.snd := by
  simp only [coveredBlocks, allBlocks, List.mem_map, List.mem_filter, List.mem_range, Prod.mk.injEq]
  constructor
  · rintro ⟨m, ⟨hm, full⟩, same, rfl⟩
    have : m = k := by
      have := congrArg BitVec.toNat same
      simp only [BitVec.toNat_ofNat] at this
      omega
    subst this
    exact ⟨full, rfl⟩
  · rintro ⟨full, rfl⟩
    exact ⟨k, ⟨hk, full⟩, rfl, rfl⟩

theorem coveredBlocks_ascending (bytes : List (Nat × Byte)) :
    ((coveredBlocks bytes).map fun p => p.1.toNat).Pairwise (· < ·) := by
  have numbers : (coveredBlocks bytes).map (fun p => p.1.toNat) =
      allBlocks.filter (blockCovered bytes) := by
    rw [coveredBlocks, List.map_map]
    conv_rhs => rw [← List.map_id (allBlocks.filter (blockCovered bytes))]
    refine List.map_congr_left fun k hk => ?_
    have : k < 64 := by simpa [allBlocks] using (List.mem_filter.1 hk).1
    simp [Nat.mod_eq_of_lt this]
  rw [numbers]
  exact List.pairwise_lt_range.filter _

theorem any_blockPartly {bytes : List (Nat × Byte)} (h : Ascending bytes) :
    allBlocks.any (blockPartly bytes) = true ↔
      ∃ k < 64, (∃ j < 64, Enabled bytes k j) ∧ ¬ ∀ j < 64, Enabled bytes k j := by
  simp only [List.any_eq_true, allBlocks, List.mem_range, blockPartly_iff h]

@[simp] theorem coveredBlocks_nil : coveredBlocks [] = [] := by decide

@[simp] theorem any_blockPartly_nil : allBlocks.any (blockPartly []) = false := by decide

/-! ### The window of a request (R5) -/

/-- R5: the address lies in window `j`. -/
theorem Window.holds_iff {w : Window} {a : Nat} : w.holds a = true ↔
    w.role ≠ .off ∧ w.base.toNat ≤ a ∧ a < w.base.toNat + w.size := by
  simp [Window.holds, Window.enabled_iff, and_assoc]

theorem windowAt_eq_none {ws : Vector Window 8} {a : Nat}
    (h : ∀ j : Fin 8, ¬ (ws[j.val]).holds a = true) : windowAt ws a = none :=
  List.find?_eq_none.2 fun j _ => h j

theorem windowAt_eq_some {ws : Vector Window 8} {a : Nat} {i : Fin 8} (hi : (ws[i.val]).holds a = true)
    (only : ∀ j : Fin 8, j ≠ i → ¬ (ws[j.val]).holds a = true) : windowAt ws a = some i := by
  have all : ∀ i : Fin 8, i ∈ ([0, 1, 2, 3, 4, 5, 6, 7] : List (Fin 8)) := by decide
  cases found : windowAt ws a with
  | none => exact absurd hi (List.find?_eq_none.1 found i (all i))
  | some j =>
    by_cases e : j = i
    · rw [e]
    · have holds : (ws[j.val]).holds a = true :=
        List.find?_some (p := fun j : Fin 8 => (ws[j.val]).holds a) found
      exact absurd holds (only j e)

/-- R5: a crossing request and one in no window are plain traffic. -/
theorem classify_plain {ws : Vector Window 8} {r : Request}
    (h : crossing r = true ∨ windowAt ws r.addr.toNat = none) : classify ws r = .plain := by
  unfold classify
  rcases h with h | h <;> simp [h]

/-- The bytes that a request enables in the window at `base`: none for a READ. -/
def bytesFor (r : Request) (base : Nat) : List (Nat × Byte) :=
  match r.kind with
  | .read => []
  | .write => enabledBytes r base

/-- R5 to R8: what a request in window `i` takes of it. -/
theorem classify_in {ws : Vector Window 8} {r : Request} {i : Fin 8} (inPage : crossing r = false)
    (found : windowAt ws r.addr.toNat = some i) (enabled : (ws[i.val]).role ≠ .off) :
    classify ws r =
      { role := (ws[i.val]).role, window := i, pattern := (ws[i.val]).pattern
        covered := match (ws[i.val]).role with
          | .command => coveredBlocks (bytesFor r (ws[i.val]).base.toNat)
          | _ => []
        partly := match (ws[i.val]).role with
          | .command => allBlocks.any (blockPartly (bytesFor r (ws[i.val]).base.toNat))
          | _ => false
        capture := match (ws[i.val]).role with
          | .pattern => (bytesFor r (ws[i.val]).base.toNat).filter fun p => decide (p.1 < 2048)
          | _ => [] } := by
  simp only [classify, inPage, found]
  cases role : (ws[i.val]).role with
  | off => exact absurd role enabled
  | command => rfl
  | pattern => rfl
  | report => rfl

theorem bytesFor_read {r : Request} (h : r.kind = .read) (base : Nat) : bytesFor r base = [] := by
  simp [bytesFor, h]

theorem bytesFor_write {r : Request} (h : r.kind = .write) (base : Nat) :
    bytesFor r base = enabledBytes r base := by
  simp [bytesFor, h]

/-- R1: a WRITE carries a byte and an enable for each byte of its beats. -/
theorem write_lengths {r : Request} (wf : r.wf = true) (h : r.kind = .write) :
    r.data.length = 16 * r.beats ∧ r.enables.length = 16 * r.beats := by
  simp only [Request.wf, h, Bool.and_eq_true, decide_eq_true_eq] at wf
  exact wf.2

/-- R1: the enabled bytes of a WRITE that begins at or after `base`, by their place in the write. -/
theorem mem_enabledBytes_iff {r : Request} {base : Nat} (wf : r.wf = true) (h : r.kind = .write)
    (low : base ≤ r.addr.toNat) {o : Nat} {b : Byte} : (o, b) ∈ enabledBytes r base ↔
      ∃ q < 16 * r.beats, r.addr.toNat + q = base + o ∧ r.enables[q]? = some true ∧
        r.data[q]? = some b := by
  rw [mem_enabledBytes]
  refine exists_congr fun q => ⟨fun ⟨offset, enable, byte⟩ => ?_, fun ⟨_, offset, enable, byte⟩ => ?_⟩
  · have := (List.getElem?_eq_some_iff.1 byte).1
    have := (write_lengths wf h).1
    exact ⟨by omega, by omega, enable, byte⟩
  · exact ⟨by omega, enable, byte⟩

/-- R6: byte `j` of block `k` is enabled by the write. -/
theorem enabled_iff {r : Request} {base : Nat} (wf : r.wf = true) (h : r.kind = .write)
    (low : base ≤ r.addr.toNat) (k j : Nat) : Enabled (enabledBytes r base) k j ↔
      ∃ q < 16 * r.beats, r.addr.toNat + q = base + 64 * k + j ∧ r.enables[q]? = some true := by
  simp only [Enabled, mem_enabledBytes_iff wf h low]
  constructor
  · rintro ⟨b, q, hq, offset, enable, -⟩
    exact ⟨q, hq, by omega, enable⟩
  · rintro ⟨q, hq, offset, enable⟩
    have inData : q < r.data.length := by rw [(write_lengths wf h).1]; exact hq
    exact ⟨r.data[q], q, hq, by omega, enable, by simp [inData]⟩

/-- Settles O5, by the window the request lies in and by its role. -/
theorem requestsAreClassified : Obligations.RequestsAreClassified := by
  unfold Obligations.RequestsAreClassified
  intro ws r wf
  simp only [← Window.holds_iff]
  have crosses : crossing r = true ↔ r.addr.toNat / 4096 ≠ (r.addr.toNat + 16 * r.beats - 1) / 4096 := by
    simp [crossing]
  rw [← crosses]
  refine ⟨fun plain => ?_, fun i inPage hi only => ?_⟩
  · rw [classify_plain (plain.imp_right windowAt_eq_none)]
    exact ⟨rfl, rfl, rfl, rfl⟩
  · obtain ⟨enabled, low, -⟩ := Window.holds_iff.1 hi
    rw [classify_in (by simpa using inPage) (windowAt_eq_some hi only) enabled]
    refine ⟨rfl, rfl, rfl, fun plain => ?_, fun write role => ?_, fun write role => ?_⟩
    · rcases plain with read | role
      · rw [bytesFor_read read]
        cases (ws[i.val]).role <;> simp
      · rw [role]
        exact ⟨rfl, rfl, rfl⟩
    · have ascending := enabledBytes_ascending r (ws[i.val]).base.toNat
      simp only [role, bytesFor_write write, ← enabled_iff wf write low]
      refine ⟨trivial, fun k hk => ?_, fun k hk b hb => ?_, coveredBlocks_ascending _,
        any_blockPartly ascending⟩
      · simp only [mem_coveredBlocks hk, exists_and_left, exists_eq, and_true,
          blockCovered_iff ascending]
      · obtain ⟨full, rfl⟩ := (mem_coveredBlocks hk).1 hb
        obtain ⟨length, byte⟩ := blockCovered_bytes ascending full
        refine ⟨length, fun j hj => ?_⟩
        obtain ⟨b, at_, mem⟩ := byte j hj
        obtain ⟨q, -, offset, -, data⟩ := (mem_enabledBytes_iff wf write low).1 mem
        exact ⟨q, by omega, at_.trans data.symm⟩
    · simp only [role, bytesFor_write write]
      refine ⟨trivial, trivial, (enabledBytes_ascending r _).filter _, fun o b => ?_⟩
      rw [List.mem_filter, mem_enabledBytes_iff wf write low, decide_eq_true_eq, and_comm]

end Sys2Proof.Machine
end

section
/-! PROOF. The findings lists, the patterns, the counts and the settings stay in range: for each operation
of the model one lemma, that it keeps them so, and from these a step does. -/

namespace Sys2Proof.Machine

open Sys2Proof Sys2Proof.Safety

/-! ### What is in range -/

/-- R43, R73 to R76, R160: the findings list, the lane counters and the profile copy of a slot are in range. -/
structure SlotInRange (sl : Slot) : Prop where
  findings : findingsOk sl.findings
  counters : ∀ l, countersOk (sl.lane l).counters
  profile  : profileOk sl.profile

/-- R46, R53: the bytes and the length of a pattern are in range. -/
structure PatternInRange (p : Pattern) : Prop where
  mem    : Memory.wf p.mem = true
  length : 1 ≤ p.length ∧ p.length ≤ 32

/-- R41: the decoder counts are in range. -/
structure CountsInRange (c : Counts) : Prop where
  taken    : c.commandsTaken ≤ max32
  refused  : c.commandsRefused ≤ max32
  partly   : c.partialWrites ≤ max32
  failed   : c.commandWritesFailed ≤ max32
  crossing : c.crossingRequests ≤ max32
  trespass : c.trespassWrites ≤ max32
  inserted : c.insertedWritesFailed ≤ max32

/-- R173: the threshold and the delay are in range. -/
structure AttentionInRange (a : Attention) : Prop where
  threshold : 1 ≤ a.threshold ∧ a.threshold ≤ 16
  delay     : a.delay ≤ 255

/-- What `ContentsStayInRange` says of a state, part by part. -/
structure InRange (s : State) : Prop where
  slot      : ∀ i, SlotInRange (s.slot i)
  pattern   : ∀ n : Fin 4, PatternInRange (s.patterns[n.val])
  counts    : CountsInRange s.decoder.counts
  profile   : ∀ k : Fin 4, profileOk (s.profiles[k.val])
  timebase  : timebaseOk s.timebase
  attention : AttentionInRange s.attention

theorem inRange_iff (s : State) :
    InRange s ↔ FindingsOk s ∧ PatternsOk s ∧ CountsOk s ∧ SettingsOk s := by
  constructor
  · intro ⟨slot, pattern, ⟨c1, c2, c3, c4, c5, c6, c7⟩, profile, timebase, ⟨threshold, delay⟩⟩
    exact ⟨fun i => (slot i).findings, fun n => ⟨(pattern n).mem, (pattern n).length⟩,
      ⟨fun i => (slot i).counters, c1, c2, c3, c4, c5, c6, c7⟩,
      ⟨profile, fun i => (slot i).profile, timebase, threshold, delay⟩⟩
  · intro ⟨findings, patterns, ⟨counters, c1, c2, c3, c4, c5, c6, c7⟩,
      ⟨profile, copy, timebase, threshold, delay⟩⟩
    exact ⟨fun i => ⟨findings i, counters i, copy i⟩, fun n => ⟨(patterns n).1, (patterns n).2⟩,
      ⟨c1, c2, c3, c4, c5, c6, c7⟩, profile, timebase, ⟨threshold, delay⟩⟩

/-! ### The changes of the state -/

/-- The parts of the state of which `InRange` speaks are the same. -/
def SameContents (s t : State) : Prop :=
  t = { t with
    slots := s.slots, patterns := s.patterns, decoder := { t.decoder with counts := s.decoder.counts }
    profiles := s.profiles, timebase := s.timebase
    attention := { t.attention with
      threshold := s.attention.threshold, delay := s.attention.delay } }

theorem InRange.same {s t : State} (ok : InRange s) (h : SameContents s t) : InRange t := by
  rw [h]
  exact ⟨ok.slot, ok.pattern, ok.counts, ok.profile, ok.timebase, ok.attention.threshold, ok.attention.delay⟩

theorem InRange.withSlot {s : State} (ok : InRange s) {i : SlotId} {x : Slot} (h : SlotInRange x) :
    InRange (s.withSlot i x) where
  slot j := by
    rw [State.withSlot_slot]
    split
    · exact h
    · exact ok.slot j
  pattern := ok.pattern
  counts := ok.counts
  profile := ok.profile
  timebase := ok.timebase
  attention := ok.attention

theorem InRange.modSlot {s : State} (ok : InRange s) (i : SlotId) {f : Slot → Slot}
    (h : ∀ {sl}, SlotInRange sl → SlotInRange (f sl)) : InRange (s.modSlot i f) :=
  ok.withSlot (h (ok.slot i))

/-- A change of a slot that leaves its findings list, its lanes and its profile copy. -/
theorem InRange.modRest {s : State} (ok : InRange s) (i : SlotId) {f : Slot → Slot}
    (h : ∀ sl, f sl = { f sl with findings := sl.findings, lanes := sl.lanes, profile := sl.profile }) :
    InRange (s.modSlot i f) :=
  ok.modSlot i fun {sl} ok => by
    rw [h sl]
    exact ⟨ok.findings, ok.counters, ok.profile⟩

theorem InRange.modPattern {s : State} (ok : InRange s) (n : Fin 4) {f : Pattern → Pattern}
    (h : ∀ {p}, PatternInRange p → PatternInRange (f p)) : InRange (s.modPattern n f) where
  slot := ok.slot
  pattern m := by
    rw [State.modPattern_patterns]
    by_cases e : n = m
    · subst e
      simpa using h (ok.pattern n)
    · have e' : n.val ≠ m.val := fun e' => e (Fin.ext e')
      simpa [Vector.getElem_set_ne _ _ e'] using ok.pattern m
  counts := ok.counts
  profile := ok.profile
  timebase := ok.timebase
  attention := ok.attention

theorem InRange.modCounts {s : State} (ok : InRange s) {f : Counts → Counts}
    (h : CountsInRange (f s.decoder.counts)) : InRange (s.modCounts f) :=
  ⟨ok.slot, ok.pattern, h, ok.profile, ok.timebase, ok.attention⟩

theorem InRange.modAttention {s : State} (ok : InRange s) {f : Attention → Attention}
    (h : AttentionInRange (f s.attention)) : InRange (s.modAttention f) :=
  ⟨ok.slot, ok.pattern, ok.counts, ok.profile, ok.timebase, h⟩

theorem InRange.withTimebase {s : State} (ok : InRange s) {x : Timebase} (h : timebaseOk x) :
    InRange { s with timebase := x } :=
  ⟨ok.slot, ok.pattern, ok.counts, ok.profile, h, ok.attention⟩

theorem InRange.fold {α : Type} {f : State → α → State}
    (h : ∀ s a, InRange s → InRange (f s a)) (xs : List α) {s : State} (ok : InRange s) :
    InRange (xs.foldl f s) := by
  induction xs generalizing s with
  | nil => exact ok
  | cons a xs ih => exact ih (h s a ok)

/-! ### The counters of a lane (R73 to R76) -/

theorem countersOk_cleared : countersOk .cleared := by unfold countersOk; decide

@[simp] theorem Lane.park_counters (x : Lane) : x.park.counters = x.counters := by
  unfold Lane.park; split <;> rfl

@[simp] theorem Lane.wake_counters (i : SlotId) (l : LaneId) (pl : Payload) (pats : Vector Pattern 4)
    (x : Lane) : (x.wake i l pl pats).counters = x.counters := by
  unfold Lane.wake; split <;> rfl

@[simp] theorem Lane.activate_counters (x : Lane) : x.activate.counters = x.counters := by
  unfold Lane.activate; split <;> rfl

@[simp] theorem Lane.setPosition_counters (now : BitVec 48) (timeout p : Nat) (x : Lane) :
    (x.setPosition now timeout p).counters = x.counters := rfl

@[simp] theorem Lane.advance_counters (now : BitVec 48) (timeout p : Nat) (x : Lane) :
    (x.advance now timeout p).counters = x.counters := by
  unfold Lane.advance; split <;> rfl

@[simp] theorem Lane.soakEntry_counters (soaked : Bool) (x : Lane) :
    (x.soakEntry soaked).counters = .cleared := by
  unfold Lane.soakEntry; split <;> rfl

@[simp] theorem Lane.takeLock_counters (isPrbs : Bool) (pol : Polarity) (h : Header) (x : Lane) :
    (x.takeLock isPrbs pol h).1.counters = x.counters := by
  unfold Lane.takeLock; simp only; split <;> rfl

@[simp] theorem Lane.huntHeader_counters (isPrbs : Bool) (bits : BitVec 48) (x : Lane) :
    (x.huntHeader isPrbs bits).1.counters = x.counters := by
  unfold Lane.huntHeader
  split
  · split
    · rfl
    · split <;> rfl
  · split
    · rfl
    · split
      · split
        · rfl
        · exact x.takeLock_counters ..
      · rfl

theorem Lane.huntHeader_ok {x : Lane} (ok : countersOk x.counters) (isPrbs : Bool) (bits : BitVec 48) :
    countersOk (x.huntHeader isPrbs bits).1.counters := by rwa [x.huntHeader_counters]

/-- R76: a header error counted. -/
theorem Lane.countHeaderError_ok {x : Lane} (ok : countersOk x.counters) (inSoak : Bool) :
    countersOk (x.countHeaderError inSoak) := by
  have ⟨blocks, sub, errors, drops, _⟩ := ok
  unfold Lane.countHeaderError
  split
  · exact ⟨blocks, sub, errors, drops, satAdd_le _ _ _⟩
  · exact ok

/-- R76: a lock drop counted. -/
theorem countDrop_ok {c : LaneCounters} (ok : countersOk c) (soakRole inSoak : Bool) :
    countersOk (countDrop soakRole inSoak c) := by
  have ⟨blocks, sub, errors, _, headerErrors⟩ := ok
  unfold countDrop
  split
  · exact ⟨blocks, sub, errors, satAdd_le _ _ _, headerErrors⟩
  · exact ok

/-- R73, R75: a frame counted. -/
theorem countFrame_ok {c : LaneCounters} (ok : countersOk c) (m : Nat) (cap : Capture) :
    countersOk (countFrame c m cap) := by
  obtain ⟨blocks, sub, -, drops, headerErrors⟩ := ok
  refine ⟨?_, ?_, satAdd_le _ _ _, drops, headerErrors⟩
  · show (if _ then _ else _) ≤ _
    split
    · exact blocks
    · exact bump_le _
  · show (if _ then _ else _) < _
    split
    · assumption
    · decide

theorem Lane.lockHeader_ok {x : Lane} (ok : countersOk x.counters) (isPrbs inSoak : Bool) (relockAt : Timer)
    (bits : BitVec 48) : countersOk (x.lockHeader isPrbs inSoak relockAt bits).1.counters := by
  unfold Lane.lockHeader
  split
  · simp only
    split
    · exact ok
    · split
      · exact ok
      · split <;> exact ok
  · simp only
    split
    · exact Lane.countHeaderError_ok ok inSoak
    · exact countDrop_ok (Lane.countHeaderError_ok ok inSoak) _ _

theorem Lane.receive_ok {x : Lane} (ok : countersOk x.counters) (pl : Payload) (pats : Vector Pattern 4)
    (inSoak : Bool) (bits : BitVec 4096) : countersOk (x.receive pl pats inSoak bits).1.counters := by
  simp only [Lane.receive]
  split
  · exact countFrame_ok ok _ _
  · exact ok

/-! ### A slot -/

theorem SlotInRange.powerOn : SlotInRange .powerOn :=
  ⟨findingsOk_nil, fun l => by rw [powerOn_lane]; exact countersOk_cleared, profileOk_default⟩

theorem SlotInRange.mapLanes {sl : Slot} (ok : SlotInRange sl) {f : LaneId → Lane → Lane}
    (h : ∀ l x, countersOk x.counters → countersOk (f l x).counters) : SlotInRange (sl.mapLanes f) where
  findings := ok.findings
  counters l := by
    have : (sl.mapLanes f).lane l = f l (sl.lane l) := byLane_getElem _ l
    exact this ▸ h l _ (ok.counters l)
  profile := ok.profile

theorem SlotInRange.withLane {sl : Slot} (ok : SlotInRange sl) {l : LaneId} {x : Lane}
    (h : countersOk x.counters) : SlotInRange (sl.withLane l x) where
  findings := ok.findings
  counters m := by
    rw [Slot.withLane_lane]
    split
    · exact h
    · exact ok.counters m
  profile := ok.profile

theorem SlotInRange.withFindings {sl : Slot} (ok : SlotInRange sl) {fs : List Finding} (h : findingsOk fs) :
    SlotInRange { sl with findings := fs } := ⟨h, ok.counters, ok.profile⟩

theorem SlotInRange.park {sl : Slot} (ok : SlotInRange sl) : SlotInRange sl.park := by
  have parked := ok.mapLanes (f := fun _ x => x.park) fun _ x h => by rwa [x.park_counters]
  exact ⟨parked.findings, parked.counters, parked.profile⟩

theorem SlotInRange.clearCounters {sl : Slot} (ok : SlotInRange sl) : SlotInRange sl.clearCounters :=
  ok.mapLanes fun _ _ _ => countersOk_cleared

theorem SlotInRange.freshRun {sl : Slot} (ok : SlotInRange sl) : SlotInRange sl.freshRun :=
  ⟨findingsOk_nil, ok.clearCounters.counters, ok.profile⟩

theorem SlotInRange.clearSlot {sl : Slot} (ok : SlotInRange sl) : SlotInRange sl.clearSlot :=
  ⟨findingsOk_nil, ok.park.counters, ok.profile⟩

theorem SlotInRange.computeEyes {sl : Slot} (ok : SlotInRange sl) : SlotInRange sl.computeEyes :=
  ⟨findingsOk_addFindings ok.findings _, ok.counters, ok.profile⟩

theorem SlotInRange.freeze {sl : Slot} (ok : SlotInRange sl) (snapshot : Bool) :
    SlotInRange (sl.freeze snapshot) := ⟨ok.findings, ok.counters, ok.profile⟩

theorem SlotInRange.meetCheckpoint {sl : Slot} (ok : SlotInRange sl) : SlotInRange sl.meetCheckpoint := by
  have met : SlotInRange (if sl.joined then { sl with checkpoints := sl.checkpoints + 1 }
      else { sl with joined := true }) := by
    split <;> exact ⟨ok.findings, ok.counters, ok.profile⟩
  have frozen {x : Slot} (ok : SlotInRange x) :
      SlotInRange (if x.profile.progressReports then x.freeze false else x) := by
    split
    · exact ok.freeze false
    · exact ok
  exact (frozen met).withFindings (findingsOk_addFindings (frozen met).findings _)

theorem SlotInRange.heed {sl : Slot} (ok : SlotInRange sl) (l : LaneId) (es : List LaneEvent) :
    SlotInRange (es.foldl (Slot.heed l) sl) := by
  induction es generalizing sl with
  | nil => exact ok
  | cons e es ih => exact ih ⟨ok.findings, ok.counters, ok.profile⟩

/-! ### The Sideband Controller and the Margin Scanner -/

section
variable {s : State} (ok : InRange s)
include ok

theorem withEngine_inRange (e : Engine) : InRange (s.withEngine e) :=
  ok.same rfl

theorem withSbQueue_inRange (q : List SbEntry) : InRange (s.withSbQueue q) :=
  ok.same rfl

theorem withScanner_inRange (x : Scanner) : InRange { s with scanner := x } :=
  ok.same rfl

theorem withFreeCount_inRange (n : Nat) : InRange { s with freeCount := n } :=
  ok.same rfl

theorem takeClaim_inRange (i : SlotId) : InRange (takeClaim i s) := by
  unfold takeClaim
  split
  · exact ok
  · exact ok.modPattern _ fun p => ⟨p.mem, p.length⟩

theorem releaseClaim_inRange (i : SlotId) : InRange (releaseClaim i s) := by
  unfold releaseClaim
  split
  · exact ok
  · exact ok.modPattern _ fun p => ⟨p.mem, p.length⟩

theorem engineFree_inRange : InRange (engineFree s) := by
  rw [engineFree_eq]
  exact ok.same rfl

theorem headEnds_inRange : InRange (headEnds s) := by
  rw [headEnds_eq]
  exact ok.same rfl

theorem dropService_inRange : InRange (dropService s) := by
  rw [dropService_eq]
  exact ok.same rfl

theorem sidebandPortReset_inRange : InRange (sidebandPortReset s) := by
  rw [sidebandPortReset_eq]
  exact ok.same rfl

theorem serve_inRange : InRange (serve s) := by
  unfold serve
  split
  · exact ok
  · split
    · exact ok
    all_goals exact ok.same rfl

end

theorem withdrawDiscovery_inRange {s : State} (ok : InRange s) (i : SlotId) :
    InRange (withdrawDiscovery i s) := by
  simp only [withdrawDiscovery]
  split
  · exact dropService_inRange (withSbQueue_inRange ok _)
  · exact withSbQueue_inRange ok _

theorem sbJoin_inRange {s : State} (ok : InRange s) (e : SbEntry) : InRange (sbJoin e s) :=
  serve_inRange (withSbQueue_inRange ok _)

section
variable {s : State} (ok : InRange s)
include ok

theorem verdictCore_inRange (i : SlotId) : InRange (verdictCore i s) := by
  refine releaseClaim_inRange (ok.modSlot i fun ok => ?_) i
  exact ⟨ok.findings, ok.park.counters, ok.profile⟩

theorem takeSteps_inRange (i : SlotId) (p : Nat) (steps : Vector StepState 4) :
    InRange (takeSteps i p steps s) := by
  simp only [takeSteps]
  exact withScanner_inRange (ok.modRest i fun _ => rfl) _

end

section
variable {s : State} (ok : InRange s)
include ok

theorem sweepStart_inRange (i : SlotId) : InRange (sweepStart i s) := by
  simp only [sweepStart]
  exact takeSteps_inRange (ok.modRest i fun _ => rfl) _ _ _

theorem sweepAdvance_inRange (i : SlotId) (sw : Sweep) : InRange (sweepAdvance i sw s) :=
  takeSteps_inRange (ok.modSlot i fun ok => ok.mapLanes fun _ _ h => by
    split
    · rwa [Lane.advance_counters]
    · exact h) _ _ _

end

theorem sweepNext_inRange {s : State} (ok : InRange s) : InRange (sweepNext s) := by
  unfold sweepNext
  split
  · exact withScanner_inRange ok _
  · exact sweepStart_inRange ok _

theorem sweepComplete_inRange {s : State} (ok : InRange s) (i : SlotId) : InRange (sweepComplete i s) := by
  refine sweepNext_inRange (verdictCore_inRange (withScanner_inRange (ok.modSlot i fun {sl} ok => ?_) _) i)
  have eyes := (ok.mapLanes (f := fun l x =>
    if (sl.scan.lanes[l.val]).scanned then x.setPosition s.us sl.profile.relockTimeout 0 else x)
    fun l x h => by split <;> exact h).computeEyes
  exact ⟨eyes.findings, eyes.counters, eyes.profile⟩

theorem sweepRun_inRange (n : Nat) {s : State} (ok : InRange s) : InRange (sweepRun n s) := by
  induction n generalizing s with
  | zero => exact ok
  | succ n ih =>
    unfold sweepRun
    split
    · split
      · exact ok
      · split
        · exact ih (sweepAdvance_inRange ok _ _)
        · exact ih (sweepComplete_inRange ok _)
    · exact ok

section
variable {s : State} (ok : InRange s)
include ok

theorem sweepSettle_inRange : InRange (sweepSettle s) := sweepRun_inRange _ ok

theorem withdrawScan_inRange (i : SlotId) : InRange (withdrawScan i s) := by
  simp only [withdrawScan]
  split
  · have left := withScanner_inRange (ok.modRest i (f := fun sl => { sl with scan := .empty })
      fun _ => rfl)
      { s.scanner with queue := s.scanner.queue.filter (· ≠ i) }
    split
    · exact sweepNext_inRange left
    · exact left
  · exact ok

end

/-! ### The entries of a slot to its states -/

section
variable {s : State} (ok : InRange s) (i : SlotId)
include ok

theorem toVerdict_inRange : InRange (toVerdict i s) :=
  withdrawScan_inRange (withdrawDiscovery_inRange (verdictCore_inRange ok i) i) i

theorem toWatch_inRange : InRange (toWatch i s) := by
  refine withdrawScan_inRange (withdrawDiscovery_inRange (ok.modSlot i fun ok => ?_) i) i
  exact ⟨ok.findings, ok.park.counters, ok.profile⟩

theorem toSettle_inRange : InRange (toSettle i s) :=
  ok.modSlot i fun {sl} ok => by
    have woken := ok.mapLanes (f := fun l x =>
      if sl.inMask l then x.wake i l sl.profile.payload s.patterns else x) fun l x h => by
        split
        · rwa [Lane.wake_counters]
        · exact h
    exact ⟨woken.findings, woken.counters, woken.profile⟩

theorem toScan_inRange : InRange (toScan i s) := by
  simp only [toScan]
  have queued := withScanner_inRange (ok.modRest i (f := fun sl =>
    { sl with state := .scan, stateTimer := none, scan := .empty }) fun _ => rfl)
    { s.scanner with queue := s.scanner.queue ++ [i] }
  split
  · exact sweepSettle_inRange (sweepNext_inRange queued)
  · exact queued

theorem toSoak_inRange : InRange (toSoak i s) :=
  ok.modSlot i fun {sl} ok => by
    have entered := ok.mapLanes (f := fun l x => x.soakEntry (sl.wiring[l.val]).cls.usable)
      fun l x _ => by rw [Lane.soakEntry_counters]; exact countersOk_cleared
    exact ⟨entered.findings, entered.counters, entered.profile⟩

theorem toDiscover_inRange : InRange (toDiscover i s) :=
  sbJoin_inRange (ok.modSlot i fun ok => by
    have active := ok.mapLanes (f := fun _ x => x.activate) fun _ x h => by rwa [x.activate_counters]
    exact ⟨active.findings, active.counters, active.profile⟩) _

end

section
variable {s : State} (ok : InRange s) (i : SlotId)
include ok

theorem endTraining_inRange : InRange (endTraining i s) := by
  have judged (m : Vector WireEntry 4) (fs : List Finding) : InRange (s.withSlot i
      { s.slot i with wiring := m, findings := addFindings (s.slot i).findings fs }) :=
    ok.withSlot ⟨findingsOk_addFindings (ok.slot i).findings fs, (ok.slot i).counters, (ok.slot i).profile⟩
  simp only [endTraining]
  split
  · exact toVerdict_inRange (judged _ _) i
  · split
    · exact toVerdict_inRange (judged _ _) i
    · exact toSoak_inRange (judged _ _) i

theorem endSoak_inRange (byCeiling : Bool) : InRange (endSoak i byCeiling s) := by
  have judged := ok.modSlot i (f := fun sl =>
    { sl with findings := addFindings sl.findings (judgeFindings sl) }) fun ok =>
    ok.withFindings (findingsOk_addFindings ok.findings _)
  simp only [endSoak]
  split
  · exact toVerdict_inRange judged i
  · split
    · exact toScan_inRange judged i
    · split
      · exact toVerdict_inRange judged i
      · exact toScan_inRange judged i
    · exact toVerdict_inRange judged i

end

section
variable {s : State} (ok : InRange s) (i : SlotId)
include ok

theorem toTrain_inRange : InRange (toTrain i s) := by
  simp only [toTrain]
  split
  · refine endTraining_inRange ?_ i
    exact ok.modRest i fun _ => rfl
  · exact ok.modRest i fun _ => rfl

theorem slotCheckpoint_inRange : InRange (slotCheckpoint i s) := by
  have met := ok.withSlot (i := i) (ok.slot i).meetCheckpoint
  simp only [slotCheckpoint]
  split
  · exact ok
  · split
    · exact endSoak_inRange met i true
    · split
      · exact endSoak_inRange met i false
      · exact met

end

/-! ### The timebase (R131, R132) -/

theorem checkpointAll_inRange {s : State} (ok : InRange s) : InRange (checkpointAll s) :=
  .fold (fun _ i ok => slotCheckpoint_inRange ok i) _ (withFreeCount_inRange ok _)

theorem intervalTick_inRange {s : State} (ok : InRange s) : InRange (intervalTick s) := by
  have ⟨prescale, period, postscale, h₁, h₂, _⟩ := ok.timebase
  unfold intervalTick
  split
  · exact checkpointAll_inRange
      (ok.withTimebase ⟨prescale, period, postscale, h₁, h₂, show 0 < s.timebase.postscale by omega⟩)
  · exact ok.withTimebase ⟨prescale, period, postscale, h₁, h₂,
      show s.timebase.postscalerCount + 1 < s.timebase.postscale by omega⟩

theorem periodTick_inRange {s : State} (ok : InRange s) : InRange (periodTick s) := by
  have ⟨prescale, period, postscale, h₁, _, h₃⟩ := ok.timebase
  unfold periodTick
  split
  · exact intervalTick_inRange
      (ok.withTimebase ⟨prescale, period, postscale, h₁, show 0 < s.timebase.period by omega, h₃⟩)
  · exact ok.withTimebase ⟨prescale, period, postscale, h₁,
      show s.timebase.periodCount + 1 < s.timebase.period by omega, h₃⟩

theorem prescalerTick_inRange {s : State} (ok : InRange s) : InRange (prescalerTick s) := by
  have ⟨prescale, period, postscale, _, h₂, h₃⟩ := ok.timebase
  unfold prescalerTick
  split
  · exact periodTick_inRange
      (ok.withTimebase ⟨prescale, period, postscale, show 0 < s.timebase.prescale by omega, h₂, h₃⟩)
  · exact ok.withTimebase ⟨prescale, period, postscale,
      show s.timebase.prescalerCount + 1 < s.timebase.prescale by omega, h₂, h₃⟩

theorem usTick_inRange {s : State} (ok : InRange s) : InRange (usTick s) :=
  prescalerTick_inRange (ok.same rfl)

/-! ### The Record Writer and the Attention Unit -/

theorem evaluate_inRange {s : State} (ok : InRange s) : InRange (evaluate s) := by
  rw [evaluate_settled s]
  exact ok.same rfl

theorem settle_inRange {s : State} (ok : InRange s) : InRange (settle s) := by
  rw [settle_settled s]
  exact ok.same rfl

theorem resetAge_inRange {s : State} (ok : InRange s) : InRange (resetAge s) := ok.same rfl

theorem modWriter_inRange {s : State} (ok : InRange s) (f : Writer → Writer) : InRange (s.modWriter f) :=
  ok.same rfl

theorem setStatusPending_inRange {s : State} (ok : InRange s) (b : Bool) :
    InRange (s.setStatusPending b) := ok.same rfl

theorem clearPending_inRange {s : State} (ok : InRange s) (src : RecSource) (kind : RecordKind) :
    InRange (clearPending src kind s) := by
  unfold clearPending
  split
  case h_5 => exact setStatusPending_inRange ok false
  iterate 4 exact ok.modRest _ fun _ => rfl
  all_goals exact ok

theorem repend_inRange {s : State} (ok : InRange s) (f : InFlight) : InRange (repend f s) := by
  unfold repend
  split
  case h_5 => exact setStatusPending_inRange ok true
  iterate 4 exact ok.modRest _ fun _ => rfl
  all_goals exact ok

theorem startWrite_inRange {s : State} (ok : InRange s) : InRange (startWrite s) := by
  obtain e | ⟨sel, r, -, -, -, -, e⟩ | ⟨sel, r, -, -, -, -, e⟩ := startWrite_cases s <;> rw [e]
  · exact ok
  · exact modWriter_inRange ok _
  · exact clearPending_inRange (modWriter_inRange ok _) _ _

theorem publishedSlot_inRange {s : State} (ok : InRange s) (f : InFlight) :
    InRange (publishedSlot f s) := by
  unfold publishedSlot
  split
  · exact ok.modRest _ fun _ => rfl
  · exact ok

theorem publish_inRange {s : State} (ok : InRange s) (f : InFlight) : InRange (publish f s) := by
  simp only [publish]
  split
  · exact ok
  · rename_i r _
    have published := publishedSlot_inRange (modWriter_inRange ok (publishRing f r.size s.us)) f
    refine settle_inRange (startWrite_inRange (evaluate_inRange ?_))
    split
    · exact resetAge_inRange published
    · exact published

theorem insertedFailed_inRange {s : State} (ok : InRange s) : InRange (insertedFailed s) :=
  ok.modCounts { ok.counts with inserted := bump_le _ }

theorem failRecord_inRange {s : State} (ok : InRange s) (f : InFlight) : InRange (failRecord f s) :=
  settle_inRange (repend_inRange (modWriter_inRange (insertedFailed_inRange ok) _) f)

theorem pieceDone_inRange {s : State} (ok : InRange s) (f : InFlight) : InRange (pieceDone f s) := by
  unfold pieceDone
  split
  · exact publish_inRange ok f
  · exact modWriter_inRange ok _

theorem ringReset_inRange {s : State} (ok : InRange s) (keep : Bool) : InRange (ringReset keep s) := by
  simp only [ringReset]
  refine resetAge_inRange (modWriter_inRange ?_ _)
  split
  · exact ok
  · exact repend_inRange ok _

theorem consumeRead_inRange {s : State} (ok : InRange s) (a : Addr) (beats : Nat) :
    InRange (consumeRead a beats s) := by
  simp only [consumeRead]
  split
  · exact ok
  · split
    · exact settle_inRange (startWrite_inRange (resetAge_inRange (modWriter_inRange ok _)))
    · exact ok

/-! ### The command blocks -/

theorem countTaken_inRange {s : State} (ok : InRange s) : InRange (countTaken s) :=
  ok.modCounts { ok.counts with taken := bump_le _ }

theorem countRefused_inRange {s : State} (ok : InRange s) : InRange (countRefused s) :=
  ok.modCounts { ok.counts with refused := bump_le _ }

theorem complete_inRange {s : State} (ok : InRange s) (n : BlockId) (tag : BitVec 16) (status : Status)
    (detail : Nat) (extra : BitVec 32) (data : Option (Vector Byte 8)) (fromSideband : Bool) :
    InRange (complete n tag status detail extra data fromSideband s) :=
  ok.same rfl

theorem giveAnswer_inRange {s : State} (ok : InRange s) (n : BlockId) (tag : BitVec 16) (a : Answer) :
    InRange (giveAnswer n tag a s) := by
  unfold giveAnswer
  split
  · exact complete_inRange (countRefused_inRange ok) ..
  · exact complete_inRange ok ..

theorem examine_inRange {n : BlockId} {tag : BitVec 16} {faults : List (Bool × Nat × Nat)}
    {act : State → State × Option Answer} {s : State} (ok : InRange s)
    (h : firstFault faults = none → InRange (act s).1) : InRange (examine n tag faults act s) := by
  unfold examine
  split
  · exact giveAnswer_inRange ok ..
  · rename_i passes
    have acted := h passes
    split
    · rename_i s' e; rw [e] at acted; exact acted
    · rename_i s' a e; rw [e] at acted; exact giveAnswer_inRange acted ..

theorem takeCandidate_inRange {n : BlockId} {tag : BitVec 16} {body : State → State}
    (h : ∀ {s}, InRange s → InRange (body s)) {s : State} (ok : InRange s) :
    InRange (takeCandidate n tag body s) := by
  unfold takeCandidate
  split
  · exact ok
  · refine settle_inRange ?_
    split
    · exact giveAnswer_inRange (countTaken_inRange ok) ..
    · exact h (countTaken_inRange ok)

/-- A command whose effect keeps what is in range, where it passes its checks. -/
theorem takeExamined_inRange {n : BlockId} {tag : BitVec 16} {faults : State → List (Bool × Nat × Nat)}
    {act : State → State × Option Answer}
    (h : ∀ {s}, InRange s → firstFault (faults s) = none → InRange (act s).1) {s : State} (ok : InRange s) :
    InRange (takeCandidate n tag (fun s => examine n tag (faults s) act s) s) :=
  takeCandidate_inRange (fun ok => examine_inRange ok (h ok)) ok

theorem actSetWindow_inRange {s : State} (ok : InRange s) (h : BlockHead) (p : WindowParams) :
    InRange (actSetWindow h p s).1 := by
  have set (path : Path) : InRange { s with path := path } := ok.same rfl
  simp only [actSetWindow]
  split
  · exact ringReset_inRange (set _) true
  · exact set _

theorem clamp_mem {lo hi : Nat} (h : lo ≤ hi) (v : Nat) :
    lo ≤ clamp lo hi v ∧ clamp lo hi v ≤ hi := by
  unfold clamp
  split
  · exact ⟨le_refl _, h⟩
  · split <;> omega

/-- R43, R44: the profile that a legal SET_PROFILE gives is in range. -/
theorem profileOk_ofParams {p : ProfileParams} (nonzero : p.laneMask ≠ 0) (small : p.laneMask.toNat ≤ 15) :
    profileOk (.ofParams p) := by
  have mask : p.laneMask.setWidth 4 ≠ 0 := by
    intro e
    have := congrArg BitVec.toNat e
    simp only [BitVec.toNat_setWidth, show (0 : BitVec 4).toNat = 0 from rfl] at this
    exact nonzero (BitVec.eq_of_toNat_eq (show p.laneMask.toNat = 0 by omega))
  simp only [profileOk, Profile.ofParams]
  exact ⟨mask, clamp_mem (by decide) _, clamp_mem (by decide) _, clamp_mem (by decide) _,
    clamp_mem (by decide) _, clamp_mem (by decide) _, clamp_mem (by decide) _, clamp_mem (by decide) _,
    (clamp_mem (by decide) _).2, (clamp_mem (by decide) _).2, clamp_mem (by decide) _,
    (clamp_mem (by decide) _).2, clamp_mem (by decide) _⟩

theorem actSetProfile_inRange {s : State} (ok : InRange s) {h : BlockHead} {p : ProfileParams}
    (legal : firstFault (profileFaults h p) = none) : InRange (actSetProfile h p s).1 := by
  have mask := firstFault_eq_none.1 legal (decide (p.laneMask = 0) || decide (15 < p.laneMask.toNat), 5, 0)
    (by simp [profileFaults])
  simp only [Bool.or_eq_false_iff, decide_eq_false_iff_not, not_lt] at mask
  refine ⟨ok.slot, ok.pattern, ok.counts, fun k => ?_, ok.timebase, ok.attention⟩
  by_cases e : sel4 h.selector = k
  · subst e
    simpa [actSetProfile] using profileOk_ofParams mask.1 mask.2
  · have e' : (sel4 h.selector).val ≠ k.val := fun e' => e (Fin.ext e')
    simpa [actSetProfile, Vector.getElem_set_ne _ _ e'] using ok.profile k

theorem actDefinePattern_inRange {s : State} (ok : InRange s) (h : BlockHead) (length : Byte) :
    InRange (actDefinePattern h length s).1 := by
  simp only [actDefinePattern]
  split
  · exact ok
  · refine ok.modPattern (sel4 h.selector) (f := fun p =>
      { p with length := clamp 1 32 length.toNat }) fun p => ?_
    exact ⟨p.mem, clamp_mem (lo := 1) (hi := 32) (by decide) _⟩

theorem actSetTimebase_inRange {s : State} (ok : InRange s) {h : BlockHead} {p : TimebaseParams}
    (legal : firstFault (timebaseFaults h p) = none) : InRange (actSetTimebase p s).1 := by
  have prescale := firstFault_eq_none.1 legal (decide (p.prescale.toNat ∉ [1, 4, 16, 64]), 4, 0)
    (by simp [timebaseFaults])
  replace prescale : p.prescale.toNat ∈ [1, 4, 16, 64] := by
    rwa [decide_eq_false_iff_not, not_not] at prescale
  have positive : 0 < p.prescale.toNat := by
    simp only [List.mem_cons, List.not_mem_nil, or_false] at prescale
    omega
  unfold actSetTimebase
  split
  · exact ok
  · have period : 1 ≤ clamp 1 65535 p.period.toNat ∧ _ := clamp_mem (by decide) _
    have postscale : 1 ≤ clamp 1 16 p.postscale.toNat ∧ _ := clamp_mem (by decide) _
    exact ok.withTimebase ⟨prescale, period, postscale, positive, period.1, postscale.1⟩

theorem actSetAttention_inRange {s : State} (ok : InRange s) (p : AttentionParams) :
    InRange (actSetAttention p s).1 :=
  resetAge_inRange (ok.modAttention
    ⟨clamp_mem (lo := 1) (hi := 16) (by decide) _, (clamp_mem (lo := 0) (hi := 255) (by decide) _).2⟩)

theorem restartPresence_inRange {s : State} (ok : InRange s) (i : SlotId) : InRange (restartPresence i s) :=
  ok.modRest i fun _ => rfl

theorem startSlot_inRange {s : State} (ok : InRange s) (k : Fin 4) (i : SlotId) :
    InRange (startSlot k i s) := by
  have copied := ok.modSlot i (f := fun sl =>
    { sl with profile := s.profiles[k.val], profileNumber := k })
    fun o => ⟨o.findings, o.counters, ok.profile k⟩
  refine restartPresence_inRange (takeClaim_inRange ((toWatch_inRange copied i).modSlot i fun ok => ?_) i) i
  exact ⟨ok.freshRun.findings, ok.freshRun.counters, ok.freshRun.profile⟩

theorem actStart_inRange {s : State} (ok : InRange s) (h : BlockHead) : InRange (actStart h s).1 := by
  unfold actStart
  split
  · exact ok
  · exact .fold (fun _ i ok => startSlot_inRange ok _ i) _ ok

theorem abortSlot_inRange {s : State} (ok : InRange s) (i : SlotId) : InRange (abortSlot i s) := by
  simp only [abortSlot]
  refine toVerdict_inRange (withFreeCount_inRange (ok.modSlot i fun ok => ?_) _) i
  exact ⟨findingsOk_addFinding ok.findings _, ok.counters, ok.profile⟩

theorem actAbort_inRange {s : State} (ok : InRange s) (h : BlockHead) : InRange (actAbort h s).1 := by
  simp only [actAbort]
  exact sweepSettle_inRange (.fold (fun _ i ok => abortSlot_inRange ok i) _ ok)

theorem retestSlot_inRange {s : State} (ok : InRange s) (i : SlotId) : InRange (retestSlot i s) := by
  simp only [retestSlot]
  split
  · exact ok.modRest i fun _ => rfl
  · have fresh := (toWatch_inRange ok i).modSlot i SlotInRange.freshRun
    split
    · exact restartPresence_inRange (takeClaim_inRange fresh i) i
    · exact restartPresence_inRange fresh i

theorem actRetest_inRange {s : State} (ok : InRange s) (h : BlockHead) : InRange (actRetest h s).1 := by
  unfold actRetest
  split
  · exact ok
  · exact sweepSettle_inRange (.fold (fun _ i ok => retestSlot_inRange ok i) _ ok)

theorem actClear_inRange {s : State} (ok : InRange s) (h : BlockHead) : InRange (actClear h s).1 := by
  unfold actClear
  split
  · exact ok
  · exact .fold (fun _ i ok => ok.modSlot i SlotInRange.clearSlot) _ ok

theorem actSnapshot_inRange {s : State} (ok : InRange s) (h : BlockHead) : InRange (actSnapshot h s).1 := by
  simp only [actSnapshot]
  exact .fold (fun _ i ok => ok.modSlot i fun ok => ok.freeze true) _ ok

theorem actSideband_inRange {s : State} (ok : InRange s) (n : BlockId) (h : BlockHead) (p : SidebandParams) :
    InRange (actSideband n h p s).1 := by
  simp only [actSideband]
  split
  · exact ok
  · split
    · exact ok
    · refine sbJoin_inRange ?_ _
      exact ok.same rfl

theorem takeBlock_inRange {s : State} (ok : InRange s) (c : Instr) : InRange (takeBlock c s) := by
  cases c with
  | unknownCode n code h =>
    unfold takeBlock takeUnknown
    exact takeCandidate_inRange (fun ok => giveAnswer_inRange ok ..) ok
  | setWindow n h p =>
    unfold takeBlock takeSetWindow
    exact takeExamined_inRange (fun ok _ => actSetWindow_inRange ok h p) ok
  | setProfile n h p =>
    unfold takeBlock takeSetProfile
    exact takeExamined_inRange (fun ok legal => actSetProfile_inRange ok legal) ok
  | definePattern n h l =>
    unfold takeBlock takeDefinePattern
    exact takeExamined_inRange (fun ok _ => actDefinePattern_inRange ok h l) ok
  | setTimebase n h p =>
    unfold takeBlock takeSetTimebase
    exact takeExamined_inRange (fun ok legal => actSetTimebase_inRange ok legal) ok
  | setAttention n h p =>
    unfold takeBlock takeSetAttention
    exact takeExamined_inRange (fun ok _ => actSetAttention_inRange ok p) ok
  | start n h =>
    unfold takeBlock takeStart
    exact takeExamined_inRange (fun ok _ => actStart_inRange ok h) ok
  | abort n h =>
    unfold takeBlock takeAbort
    exact takeExamined_inRange (fun ok _ => actAbort_inRange ok h) ok
  | retest n h =>
    unfold takeBlock takeRetest
    exact takeExamined_inRange (fun ok _ => actRetest_inRange ok h) ok
  | clear n h =>
    unfold takeBlock takeClear
    exact takeExamined_inRange (fun ok _ => actClear_inRange ok h) ok
  | snapshot n h =>
    unfold takeBlock takeSnapshot
    exact takeExamined_inRange (fun ok _ => actSnapshot_inRange ok h) ok
  | sideband n h p =>
    unfold takeBlock takeSideband
    exact takeExamined_inRange (fun ok _ => actSideband_inRange ok n h p) ok
  | status n h =>
    unfold takeBlock takeStatus
    exact takeExamined_inRange (fun ok _ => setStatusPending_inRange ok true) ok
  | _ => exact ok

/-! ### The memory path and the resets -/

theorem modPath_inRange {s : State} (ok : InRange s) (f : Path → Path) : InRange (s.modPath f) :=
  ok.same rfl

theorem accept_inRange {s : State} (ok : InRange s) (r : Request) : InRange (accept r s) := by
  simp only [accept, countAccepted]
  have joined := modPath_inRange ok fun p =>
    { p with
      fwd := p.fwd ++ [{ req := r, arrival := p.nextArrival, cls := classify s.path.windows r }]
      nextArrival := p.nextArrival + 1 }
  have crossed {t : State} (ok : InRange t) : InRange (if crossing r then
      t.modCounts fun c => { c with crossingRequests := bump c.crossingRequests } else t) := by
    split
    · exact ok.modCounts { ok.counts with crossing := bump_le _ }
    · exact ok
  split
  · have ok := crossed joined
    exact ok.modCounts { ok.counts with trespass := bump_le _ }
  · exact crossed joined

theorem handCommand_inRange {s : State} (ok : InRange s) (cls : Class) (status : RespStatus) :
    InRange (handCommand cls status s) := by
  have counted : InRange (if cls.partly then countPartial s else s) := by
    split
    · exact ok.modCounts { ok.counts with partly := bump_le _ }
    · exact ok
  simp only [handCommand]
  cases status with
  | ok => exact .fold (fun _ (b : BlockId × List Byte) ok => takeBlock_inRange ok (decodeBlock b.1 b.2)) _ counted
  | error =>
    simp only
    split
    · exact counted
    · exact counted.modCounts { counted.counts with failed := bump_le _ }

/-- R48 to R50: a hand-off keeps the canonical form and the length of a pattern. -/
theorem PatternInRange.handOff {p : Pattern} (ok : PatternInRange p) (bytes : List (Nat × Byte))
    (status : RespStatus) : PatternInRange (p.handOff bytes status) := by
  unfold Pattern.handOff
  split
  · exact ⟨Memory.wf_writes ok.mem bytes, ok.length⟩
  · exact ⟨ok.mem, ok.length⟩

theorem handOff_inRange {s : State} (ok : InRange s) (e : OutEntry) (status : RespStatus) :
    InRange (handOff e status s) := by
  unfold handOff
  split
  · exact handCommand_inRange ok _ _
  · exact ok.modPattern _ fun ok => ok.handOff _ _
  · exact consumeRead_inRange ok _ _
  all_goals exact ok

theorem joinNext_inRange {s : State} (ok : InRange s) : InRange (joinNext s) := by
  unfold joinNext
  split
  · rename_i k prod w _ _
    cases prod with
    | decoder =>
      have counts : s.decoder.wordJoined.counts = s.decoder.counts := by
        unfold Decoder.wordJoined
        split <;> rfl
      exact ⟨ok.slot, ok.pattern, counts.symm ▸ ok.counts, ok.profile, ok.timebase, ok.attention⟩
    | record => exact ok.same rfl
    | attention => exact ok.same rfl
  · exact ok

theorem joinUntilAnswered_inRange (n : BlockId) (k : Nat) {s : State} (ok : InRange s) :
    InRange (joinUntilAnswered n k s) := by
  induction k generalizing s with
  | zero => exact ok
  | succ k ih =>
    unfold joinUntilAnswered
    split
    · exact ih (joinNext_inRange ok)
    · exact ok

theorem recordAcked_inRange {s : State} (ok : InRange s) (k : Fin 8) (status : RespStatus) :
    InRange (recordAcked k status s) := by
  unfold recordAcked
  split
  · split
    · cases status with
      | ok => exact pieceDone_inRange ok _
      | error => exact failRecord_inRange ok _
    · exact ok
  · split
    · refine settle_inRange (modWriter_inRange ?_ _)
      cases status with
      | ok => exact ok
      | error => exact insertedFailed_inRange ok
    · exact ok

theorem producerAcked_inRange {s : State} (ok : InRange s) (prod : Producer) (k : Fin 8)
    (status : RespStatus) : InRange (producerAcked prod k status s) := by
  unfold producerAcked
  split
  · exact recordAcked_inRange ok k status
  all_goals
    cases status with
    | ok => exact ok
    | error => exact insertedFailed_inRange ok

theorem portReset_inRange {s : State} (ok : InRange s) : InRange (portReset s) := by
  refine evaluate_inRange (ringReset_inRange (sidebandPortReset_inRange (InRange.modAttention ?_ ?_)) false)
  · exact ok.same rfl
  · exact ⟨show 1 ≤ 1 ∧ 1 ≤ 16 by decide, show 0 ≤ 255 by decide⟩

/-- R17: the state after power-on reset is in range, whatever it was. -/
theorem powerOnReset_inRange (s : State) : InRange (powerOnReset s) :=
  ((inRange_iff .reset).2 ⟨resetMeetsTheInvariants.2.2.2.1, reset_patternsOk, reset_countsOk,
    reset_settingsOk⟩).same rfl

/-! ### Lanes and slots -/

theorem scanReport_inRange {s : State} (ok : InRange s) (i : SlotId) (l : LaneId)
    (f : Nat → StepState → ScanLane → StepState × ScanLane) : InRange (scanReport i l f s) := by
  unfold scanReport
  split
  · exact ok
  · split
    · refine sweepSettle_inRange ?_
      simp only [withStep]
      exact withScanner_inRange (ok.modRest i fun _ => rfl) _
    · exact ok

theorem trainingCheck_inRange {s : State} (ok : InRange s) (i : SlotId) : InRange (trainingCheck i s) := by
  simp only [trainingCheck]
  split
  · exact endTraining_inRange ok i
  · exact ok

theorem laneReports_inRange {s : State} (ok : InRange s) (i : SlotId) (l : LaneId) {x : Lane}
    (h : countersOk x.counters) (es : List LaneEvent) : InRange (laneReports i l x es s) := by
  have told := ok.modSlot i (f := fun sl => es.foldl (Slot.heed l) (sl.withLane l x))
    fun ok => (ok.withLane h).heed l es
  simp only [laneReports]
  split
  · exact told
  · exact trainingCheck_inRange (scanReport_inRange told i l _) i

theorem rawChanged_inRange {s : State} (ok : InRange s) (i : SlotId) (before : Bool) :
    InRange (rawChanged i before s) := by
  simp only [rawChanged]
  split
  · exact ok
  · exact ok.modRest i fun _ => rfl

theorem removal_inRange {s : State} (ok : InRange s) (i : SlotId) : InRange (removal i s) := by
  have counted := ok.modRest i (f := fun sl => { sl with attempts := (s.slot i).attempts + 1 })
    fun _ => rfl
  simp only [removal]
  refine sweepSettle_inRange ?_
  split
  · exact toWatch_inRange counted i
  · exact toVerdict_inRange (counted.modSlot i fun ok =>
      ok.withFindings (findingsOk_addFinding ok.findings _)) i

theorem debounceTaken_inRange {s : State} (ok : InRange s) (i : SlotId) : InRange (debounceTaken i s) := by
  have flagged {t : State} (ok : InRange t) (flag : EventFlags) :
      InRange (t.modSlot i fun sl => { sl with flags := sl.flags ||| flag }) :=
    ok.modRest i fun _ => rfl
  have taken : InRange (s.modSlot i fun sl =>
      { sl with present := rawPresence s i, debounceTimer := none }) :=
    ok.modRest i fun _ => rfl
  simp only [debounceTaken]
  split
  · exact taken
  · split
    · simp only [presenceAssertion]
      split
      · exact toSettle_inRange (flagged taken _) i
      · exact flagged taken _
    · simp only [presenceLoss]
      split
      · exact removal_inRange (flagged taken _) i
      · exact flagged taken _

/-! ### The sideband line -/

theorem walkEnd_inRange {s : State} (ok : InRange s) (i : SlotId) (intoTrain : Bool) (w : Walk) :
    InRange (walkEnd i intoTrain w s) := by
  have applied := headEnds_inRange (ok.modSlot i (f := fun sl =>
    { sl with identity := some w.identity, findings := addFindings sl.findings w.findings })
    fun ok => ⟨findingsOk_addFindings ok.findings _, ok.counters, ok.profile⟩)
  simp only [walkEnd]
  split
  · exact toTrain_inRange applied i
  · exact toVerdict_inRange applied i

theorem walkGoesOn_inRange {s : State} (ok : InRange s) (i : SlotId) (r : TxnResult) :
    InRange (walkGoesOn i r s) := by
  have on := withFreeCount_inRange ok (s.freeCount + 1)
  simp only [walkGoesOn]
  split
  · exact withEngine_inRange (withEngine_inRange on _) _
  · exact withEngine_inRange (withEngine_inRange on _) _
  · exact walkEnd_inRange on _ _ _

theorem reportHost_inRange {s : State} (ok : InRange s) (e : HostEntry) (r : TxnResult) :
    InRange (reportHost e r s) := by
  unfold reportHost
  split
  · exact ok
  · exact complete_inRange ok ..

theorem hostEnd_inRange {s : State} (ok : InRange s) (e : HostEntry) (r : TxnResult) :
    InRange (hostEnd e r s) :=
  joinUntilAnswered_inRange _ _ (reportHost_inRange (headEnds_inRange ok) e r)

theorem txnEnd_inRange {s : State} (ok : InRange s) (r : TxnResult) : InRange (txnEnd r s) := by
  unfold txnEnd
  split
  · exact engineFree_inRange ok
  · split
    · exact engineFree_inRange ok
    · exact walkGoesOn_inRange ok _ r
    · unfold hostWait
      split
      · exact hostEnd_inRange ok _ r
      · exact withEngine_inRange ok _

theorem tryResult_inRange {s : State} (ok : InRange s) (r : TryResult) : InRange (tryResult r s) := by
  cases r with
  | success bytes => exact txnEnd_inRange ok _
  | dataNak acked => exact txnEnd_inRange ok _
  | addressNak byte =>
    simp only [tryResult, tryFailed]
    split
    · exact engineFree_inRange ok
    · split
      · exact withEngine_inRange ok _
      · exact txnEnd_inRange ok _

theorem plugSettled_inRange {s : State} (ok : InRange s) : InRange (plugSettled s) := by
  unfold plugSettled
  split
  · exact walkEnd_inRange ok _ _ _
  · exact engineFree_inRange ok

theorem postWaited_inRange {s : State} (ok : InRange s) : InRange (postWaited s) := by
  unfold postWaited
  split
  · exact hostEnd_inRange ok _ _
  · exact engineFree_inRange ok

/-! ### A step -/

theorem tick_inRange {s : State} (ok : InRange s) : InRange (tick s) := by
  unfold tick
  split
  · exact settle_inRange (usTick_inRange ok)
  · exact usTick_inRange ok

/-- A meaning that has an effect under a condition, and none without it. -/
theorem inRange_of_guarded {c : Prop} [Decidable c] {s t u : State} (ok : InRange s) (kept : InRange t)
    (h : (if c then .next t else .next s : Result) = .next u) : InRange u := by
  split at h <;> cases h
  · exact kept
  · exact ok

theorem execRequestAccept_inRange {r : Request} {s t : State} (ok : InRange s)
    (h : execRequestAccept r s = .next t) : InRange t := by
  unfold execRequestAccept at h
  split at h
  · cases h
  · exact inRange_of_guarded ok (accept_inRange ok r) h

theorem execForwardedIssue_inRange {s t : State} (ok : InRange s)
    (h : execForwardedIssue s = .next t) : InRange t := by
  unfold execForwardedIssue at h
  split at h <;> cases h
  · exact ok
  · exact modPath_inRange ok _

theorem execInsertedIssue_inRange {s t : State} (ok : InRange s)
    (h : execInsertedIssue s = .next t) : InRange t := by
  unfold execInsertedIssue at h
  split at h <;> cases h
  · exact ok
  · exact modPath_inRange ok _

theorem execForwardedResponse_inRange {id : BitVec 8} {status : RespStatus} {data : List Byte} {s t : State}
    (ok : InRange s) (h : execForwardedResponse id status data s = .next t) : InRange t := by
  unfold execForwardedResponse at h
  split at h
  · cases h; exact ok
  · split at h <;> cases h
    · exact modPath_inRange ok _
    · exact handOff_inRange (modPath_inRange ok _) _ _

theorem execInsertAck_inRange {place : BitVec 8} {status : RespStatus} {s t : State} (ok : InRange s)
    (h : execInsertAck place status s = .next t) : InRange t := by
  unfold execInsertAck at h
  split at h
  · cases h; exact ok
  · split at h <;> cases h
    · exact modPath_inRange ok _
    · exact producerAcked_inRange (modPath_inRange ok _) _ _ _

theorem execPortReset_inRange {s t : State} (ok : InRange s) (h : execPortReset s = .next t) :
    InRange t := by
  unfold execPortReset at h
  split at h <;> cases h
  · exact ok.same rfl
  · exact portReset_inRange ok

theorem execPowerOnResetRelease_inRange {wbase : BitVec 16} {s t : State} (ok : InRange s)
    (h : execPowerOnResetRelease wbase s = .next t) : InRange t := by
  refine inRange_of_guarded ok ?_ h
  exact ⟨ok.slot, ok.pattern, ok.counts, ok.profile, reset_settingsOk.2.2.1, ok.attention⟩

theorem execUnknownCode_inRange {n : BlockId} {code : Byte} {head : BlockHead} {s t : State}
    (ok : InRange s) (h : execUnknownCode n code head s = .next t) : InRange t := by
  unfold execUnknownCode at h
  split at h <;> cases h
  exact takeBlock_inRange ok (.unknownCode n code head)

theorem execFrameStart_inRange {i : SlotId} {l : LaneId} {s t : State} (ok : InRange s)
    (h : execFrameStart i l s = .next t) : InRange t := by
  simp only [execFrameStart] at h
  split at h
  · cases h; exact ok
  · split at h <;> cases h
    · exact ok
    · exact ok.withSlot ((ok.slot i).withLane ((ok.slot i).counters l))

theorem execFrameReceived_inRange {i : SlotId} {l : LaneId} {payload : BitVec 4096} {s t : State}
    (ok : InRange s) (h : execFrameReceived i l payload s = .next t) : InRange t := by
  have received := ok.withSlot (i := i) ((ok.slot i).withLane (l := l)
    (Lane.receive_ok ((ok.slot i).counters l) (s.slot i).profile.payload s.patterns
      (decide ((s.slot i).state = .soak)) payload))
  simp only [execFrameReceived] at h
  split at h
  · split at h <;> cases h
    · exact settle_inRange (scanReport_inRange received i l _)
    · exact received
  · cases h; exact ok

theorem execClockHeldLow_inRange {s t : State} (ok : InRange s) (h : execClockHeldLow s = .next t) :
    InRange t := by
  unfold execClockHeldLow at h
  split at h <;> cases h
  · exact withEngine_inRange ok _
  · exact settle_inRange (txnEnd_inRange ok _)
  all_goals exact ok

theorem execRecordWriteStart_inRange {s t : State} (ok : InRange s)
    (h : execRecordWriteStart s = .next t) : InRange t := by
  unfold execRecordWriteStart at h
  split at h
  · cases h; exact ok
  · exact inRange_of_guarded ok (settle_inRange (startWrite_inRange ok)) h

/-- A lane whose counters are in range replaced, its events reported, and the event ended. -/
theorem laneEvent_inRange {s : State} (ok : InRange s) (i : SlotId) (l : LaneId) {x : Lane}
    (h : countersOk x.counters) (es : List LaneEvent) : InRange (settle (laneReports i l x es s)) :=
  settle_inRange (laneReports_inRange ok i l h es)

/-- Every command keeps what is in range. -/
theorem exec_inRange {c : Instr} {s t : State} (ok : InRange s) (h : exec c s = .next t) : InRange t := by
  have counters (i : SlotId) (l : LaneId) := (ok.slot i).counters l
  cases c with
  | requestAccept r => exact execRequestAccept_inRange ok h
  | forwardedIssue => exact execForwardedIssue_inRange ok h
  | insertedIssue => exact execInsertedIssue_inRange ok h
  | forwardedResponse id status data => exact execForwardedResponse_inRange ok h
  | insertJoin => cases h; exact joinNext_inRange ok
  | insertAck place status => exact execInsertAck_inRange ok h
  | portReset => exact execPortReset_inRange ok h
  | portResetRelease => cases h; exact ok.same rfl
  | powerOnReset => cases h; exact powerOnReset_inRange s
  | powerOnResetRelease wbase => exact execPowerOnResetRelease_inRange ok h
  | noneBlock n => cases h; exact ok
  | unknownCode n code head => exact execUnknownCode_inRange ok h
  | setWindow n head p => cases h; exact takeBlock_inRange ok (.setWindow n head p)
  | setProfile n head p => cases h; exact takeBlock_inRange ok (.setProfile n head p)
  | definePattern n head l => cases h; exact takeBlock_inRange ok (.definePattern n head l)
  | setTimebase n head p => cases h; exact takeBlock_inRange ok (.setTimebase n head p)
  | setAttention n head p => cases h; exact takeBlock_inRange ok (.setAttention n head p)
  | start n head => cases h; exact takeBlock_inRange ok (.start n head)
  | abort n head => cases h; exact takeBlock_inRange ok (.abort n head)
  | retest n head => cases h; exact takeBlock_inRange ok (.retest n head)
  | clear n head => cases h; exact takeBlock_inRange ok (.clear n head)
  | snapshot n head => cases h; exact takeBlock_inRange ok (.snapshot n head)
  | sideband n head p => cases h; exact takeBlock_inRange ok (.sideband n head p)
  | status n head => cases h; exact takeBlock_inRange ok (.status n head)
  | frameStart i l => exact execFrameStart_inRange ok h
  | headerInHunt i l bits =>
    exact inRange_of_guarded ok (laneEvent_inRange ok i l (Lane.huntHeader_ok (counters i l) _ _) _) h
  | headerInLock i l bits =>
    exact inRange_of_guarded ok (laneEvent_inRange ok i l (Lane.lockHeader_ok (counters i l) _ _ _ _) _) h
  | frameReceived i l payload => exact execFrameReceived_inRange ok h
  | relockTimeout i l =>
    have dead : countersOk (((s.slot i).lane l).die .relockTimeout).counters := counters i l
    exact inRange_of_guarded ok (laneEvent_inRange ok i l dead _) h
  | presNChange i asserted =>
    cases h
    refine rawChanged_inRange ?_ i _
    exact ok.same rfl
  | energyDetectChange i l present =>
    cases h
    refine rawChanged_inRange ?_ i _
    exact ok.same rfl
  | debounceExpiry i => exact inRange_of_guarded ok (settle_inRange (debounceTaken_inRange ok i)) h
  | settleExpiry i => exact inRange_of_guarded ok (toDiscover_inRange ok i) h
  | trainTimeout i => exact inRange_of_guarded ok (settle_inRange (endTraining_inRange ok i)) h
  | tryEnd r =>
    exact inRange_of_guarded ok (settle_inRange (tryResult_inRange (withEngine_inRange ok _) r)) h
  | retryWaitExpiry => exact inRange_of_guarded ok (withEngine_inRange ok _) h
  | clockHeldLow => exact execClockHeldLow_inRange ok h
  | dataStuckLow => exact inRange_of_guarded ok (withEngine_inRange ok _) h
  | recoveryEnd =>
    exact inRange_of_guarded ok (settle_inRange (txnEnd_inRange (withEngine_inRange ok _) _)) h
  | plugSettleExpiry => exact inRange_of_guarded ok (settle_inRange (plugSettled_inRange ok)) h
  | postWaitExpiry => exact inRange_of_guarded ok (postWaited_inRange ok) h
  | interval => exact inRange_of_guarded ok (tick_inRange ok) h
  | checkpoint => exact inRange_of_guarded ok (tick_inRange ok) h
  | recordWriteStart => exact execRecordWriteStart_inRange ok h
  | ageTimerExpiry =>
    exact inRange_of_guarded ok
      (evaluate_inRange (ok.modAttention ⟨ok.attention.threshold, ok.attention.delay⟩)) h
  | prescalerWrap => exact inRange_of_guarded ok (tick_inRange ok) h

/-- Settles O57: each operation keeps what is in range, and so does a step. -/
theorem contentsStayInRange : Obligations.ContentsStayInRange := by
  intro s t ok stepped
  rw [← inRange_iff] at ok ⊢
  unfold step at stepped
  split at stepped
  · cases stepped
    unfold idle
    split
    · exact ok
    · exact tick_inRange ok
  · refine exec_inRange ?_ stepped
    exact ok.same rfl

end Sys2Proof.Machine
end

section
/-! PROOF. The taking of a command block (R18 to R26, R30, R178): the format of a block, the examination
common to the commands, and the blocks of a command window write. -/

namespace Sys2Proof.Machine

open Sys2Proof Sys2Proof.Safety

/-! ### The command block format (R18, R178, chapter 11.1) -/

/-- The little-endian bytes of a number hold it as far as they reach. -/
theorem leNat_leBytes (k n : Nat) : leNat (leBytes k n) = n % 256 ^ k := by
  induction k generalizing n with
  | zero => simp [leBytes, leNat, Nat.mod_one]
  | succ k ih =>
    have split : 256 ^ (k + 1) = 256 * 256 ^ k := Nat.pow_succ'
    rw [leBytes, leNat, ih, BitVec.toNat_ofNat, split, Nat.mod_mul]

/-- A field written in as many bytes as it has is read back. -/
theorem ofNat_leNat_leBytes (k : Nat) (x : BitVec (8 * k)) :
    BitVec.ofNat (8 * k) (leNat (leBytes k x.toNat)) = x := by
  apply BitVec.eq_of_toNat_eq
  rw [leNat_leBytes, BitVec.toNat_ofNat, show 256 = 2 ^ 8 from rfl, ← Nat.pow_mul, Nat.mod_mod,
    Nat.mod_eq_of_lt x.isLt]

theorem BlockHead.ofBytes_toBytes (code : Byte) (h : BlockHead) (rest : List Byte) :
    BlockHead.ofBytes (h.toBytes code ++ rest) = h := by
  obtain ⟨zero, tag, slotMask, selector⟩ := h
  show BlockHead.mk zero (BitVec.ofNat 16 (leNat (leBytes 2 tag.toNat)))
    (BitVec.ofNat 16 (leNat (leBytes 2 slotMask.toNat)))
    (BitVec.ofNat 16 (leNat (leBytes 2 selector.toNat))) = _
  rw [ofNat_leNat_leBytes 2 tag, ofNat_leNat_leBytes 2 slotMask, ofNat_leNat_leBytes 2 selector]

theorem WindowParams.ofBytes_toBytes (h : BlockHead) (p : WindowParams) :
    WindowParams.ofBytes (h.toBytes 0x01 ++ p.toBytes ++ zeroBytes 16) = p := by
  obtain ⟨role, pattern, base, size⟩ := p
  show WindowParams.mk role pattern (BitVec.ofNat 40 (leNat (leBytes 5 base.toNat)))
    (BitVec.ofNat 32 (leNat (leBytes 4 size.toNat))) = _
  rw [ofNat_leNat_leBytes 5 base, ofNat_leNat_leBytes 4 size]

theorem ProfileParams.ofBytes_toBytes (h : BlockHead) (p : ProfileParams) :
    ProfileParams.ofBytes (h.toBytes 0x02 ++ p.toBytes ++ zeroBytes 16) = p := by
  show { p with
    relockTimeout := BitVec.ofNat 16 (leNat (leBytes 2 p.relockTimeout.toNat))
    errorCeiling := BitVec.ofNat 16 (leNat (leBytes 2 p.errorCeiling.toNat)) } = p
  rw [ofNat_leNat_leBytes 2 p.relockTimeout, ofNat_leNat_leBytes 2 p.errorCeiling]

theorem TimebaseParams.ofBytes_toBytes (h : BlockHead) (p : TimebaseParams) :
    TimebaseParams.ofBytes (h.toBytes 0x04 ++ p.toBytes ++ zeroBytes 16) = p := by
  show { p with period := BitVec.ofNat 16 (leNat (leBytes 2 p.period.toNat)) } = p
  rw [ofNat_leNat_leBytes 2 p.period]

theorem AttentionParams.ofBytes_toBytes (h : BlockHead) (p : AttentionParams) :
    AttentionParams.ofBytes (h.toBytes 0x05 ++ p.toBytes ++ zeroBytes 16) = p := by
  show { p with address := BitVec.ofNat 40 (leNat (leBytes 5 p.address.toNat)) } = p
  rw [ofNat_leNat_leBytes 5 p.address]

/-- A vector of eight written out. -/
theorem eight_eq (v : Vector Byte 8) : v = #v[v[0], v[1], v[2], v[3], v[4], v[5], v[6], v[7]] := by
  ext k hk
  interval_cases k <;> rfl

theorem SidebandParams.ofBytes_toBytes (h : BlockHead) (p : SidebandParams) :
    SidebandParams.ofBytes (h.toBytes 0x20 ++ p.toBytes ++ zeroBytes 8) = p := by
  obtain ⟨direction, offset, count, postWait, data⟩ := p
  rw [eight_eq data]
  show SidebandParams.mk direction offset count (BitVec.ofNat 32 (leNat (leBytes 4 postWait.toNat))) _ = _
  rw [ofNat_leNat_leBytes 4 postWait]
  rfl

/-- R22 step 3: a block whose code names no command. -/
theorem decodeBlock_unknown {n : BlockId} {b : List Byte} (h : knownCodes.contains (blockByte b 0) = false) :
    decodeBlock n b = .unknownCode n (blockByte b 0) (.ofBytes b) := by
  have other : ∀ k ∈ knownCodes.map BitVec.toNat, (blockByte b 0).toNat ≠ k := by
    intro k known e
    obtain ⟨code, member, rfl⟩ := List.mem_map.1 known
    rw [BitVec.eq_of_toNat_eq e, List.contains_eq_mem, decide_eq_false_iff_not] at h
    exact h member
  unfold decodeBlock
  split
  case h_14 => rfl
  all_goals
    rename_i e
    exact absurd e (other _ (by decide))

/-- Settles O55, command by command: the code names the command, and each field is read where it is
written. -/
theorem blocksRoundTrip : Obligations.BlocksRoundTrip := by
  intro i n wf block
  cases i with
  | noneBlock m => cases block; exact ⟨_, rfl, rfl, rfl⟩
  | unknownCode m code h =>
    cases block
    have unknown : knownCodes.contains code = false := by simpa [Instr.wf] using wf
    refine ⟨_, rfl, rfl, ?_⟩
    rw [decodeBlock_unknown (b := h.toBytes code ++ zeroBytes 56) unknown, BlockHead.ofBytes_toBytes]
    rfl
  | setWindow m h p =>
    cases block
    exact ⟨_, rfl, rfl, congrArg₂ (Instr.setWindow n)
      (BlockHead.ofBytes_toBytes 0x01 h (p.toBytes ++ zeroBytes 16)) (WindowParams.ofBytes_toBytes h p)⟩
  | setProfile m h p =>
    cases block
    exact ⟨_, rfl, rfl, congrArg₂ (Instr.setProfile n)
      (BlockHead.ofBytes_toBytes 0x02 h (p.toBytes ++ zeroBytes 16)) (ProfileParams.ofBytes_toBytes h p)⟩
  | definePattern m h l =>
    cases block
    exact ⟨_, rfl, rfl, congrArg (Instr.definePattern n · l)
      (BlockHead.ofBytes_toBytes 0x03 h ([l] ++ zeroBytes 55))⟩
  | setTimebase m h p =>
    cases block
    exact ⟨_, rfl, rfl, congrArg₂ (Instr.setTimebase n)
      (BlockHead.ofBytes_toBytes 0x04 h (p.toBytes ++ zeroBytes 16)) (TimebaseParams.ofBytes_toBytes h p)⟩
  | setAttention m h p =>
    cases block
    exact ⟨_, rfl, rfl, congrArg₂ (Instr.setAttention n)
      (BlockHead.ofBytes_toBytes 0x05 h (p.toBytes ++ zeroBytes 16)) (AttentionParams.ofBytes_toBytes h p)⟩
  | sideband m h p =>
    cases block
    have length : (h.toBytes 0x20 ++ p.toBytes ++ zeroBytes 8).length = 64 := by
      simp [SidebandParams.toBytes, BlockHead.toBytes, leBytes, zeroBytes]
    exact ⟨_, rfl, length, congrArg₂ (Instr.sideband n)
      (BlockHead.ofBytes_toBytes 0x20 h (p.toBytes ++ zeroBytes 8)) (SidebandParams.ofBytes_toBytes h p)⟩
  | start m h =>
    cases block
    exact ⟨_, rfl, rfl, congrArg (Instr.start n) (BlockHead.ofBytes_toBytes 0x10 h (zeroBytes 56))⟩
  | abort m h =>
    cases block
    exact ⟨_, rfl, rfl, congrArg (Instr.abort n) (BlockHead.ofBytes_toBytes 0x11 h (zeroBytes 56))⟩
  | retest m h =>
    cases block
    exact ⟨_, rfl, rfl, congrArg (Instr.retest n) (BlockHead.ofBytes_toBytes 0x12 h (zeroBytes 56))⟩
  | clear m h =>
    cases block
    exact ⟨_, rfl, rfl, congrArg (Instr.clear n) (BlockHead.ofBytes_toBytes 0x13 h (zeroBytes 56))⟩
  | snapshot m h =>
    cases block
    exact ⟨_, rfl, rfl, congrArg (Instr.snapshot n) (BlockHead.ofBytes_toBytes 0x14 h (zeroBytes 56))⟩
  | status m h =>
    cases block
    exact ⟨_, rfl, rfl, congrArg (Instr.status n) (BlockHead.ofBytes_toBytes 0x30 h (zeroBytes 56))⟩
  | _ => cases block

/-! ### The examination common to the commands (R22, R23, R30) -/

/-- R22: a command refused for the first check it fails. -/
theorem takeExamined_refused {n : BlockId} {h : BlockHead} {s : State} (r : ready s n h)
    {faults : State → List (Bool × Nat × Nat)} {act : State → State × Option Answer} {reason extra : Nat}
    (fails : firstFault (faults (countTaken s)) = some (reason, extra)) :
    takeCandidate n h.tag (fun s => examine n h.tag (faults s) act s) s = settle { s with
      decoder := answered s n h.tag ⟨.badParam, reason, BitVec.ofNat 32 extra⟩ } := by
  rw [takeCandidate_ready r, examine_refused fails, giveAnswer_countTaken]

/-- R22: a command that passes its checks, whose effect from `s` is `t`, and that is answered at its take. -/
theorem takeExamined_answered {n : BlockId} {h : BlockHead} {s t : State} (r : ready s n h)
    {faults : State → List (Bool × Nat × Nat)} {act : State → State × Option Answer} {a : Answer}
    (passes : firstFault (faults (countTaken s)) = none)
    (acted : act (countTaken s) = (countTaken t, some a)) :
    takeCandidate n h.tag (fun s => examine n h.tag (faults s) act s) s = settle { t with
      decoder := answered t n h.tag a } := by
  rw [takeCandidate_ready r, examine_acts passes acted, giveAnswer_countTaken]

theorem examine_zero {n : BlockId} {h : BlockHead} (zero : h.zero ≠ 0) {rest : List (Bool × Nat × Nat)}
    {act : State → State × Option Answer} (s : State) :
    examine n h.tag (zeroFault h :: rest) act s = giveAnswer n h.tag ⟨.badParam, 1, 0⟩ s := by
  have fails : firstFault (zeroFault h :: rest) = some (1, 0) := by
    rw [zeroFault, decide_eq_true zero, firstFault_failing]
  exact examine_refused fails

/-- R22, R23, R30: a block with a command is taken as a candidate, and each command begins with the check of
the zero byte. -/
theorem takeBlock_candidate {c : Instr} {n : BlockId} {h : BlockHead} (block : c.block? = some n)
    (head : blockHead? c = some h) : ∃ body : State → State,
      (∀ s, takeBlock c s = takeCandidate n h.tag body s) ∧
      ((∀ m code g, c ≠ .unknownCode m code g) → h.zero ≠ 0 →
        ∀ s, body s = giveAnswer n h.tag ⟨.badParam, 1, 0⟩ s) := by
  have examined (faults : State → List (Bool × Nat × Nat)) (act : State → State × Option Answer)
      (begins : ∀ s, ∃ rest, faults s = zeroFault h :: rest)
      (taken : ∀ s, takeBlock c s = takeCandidate n h.tag (fun s => examine n h.tag (faults s) act s) s) :
      ∃ body : State → State, (∀ s, takeBlock c s = takeCandidate n h.tag body s) ∧
        ((∀ m code g, c ≠ .unknownCode m code g) → h.zero ≠ 0 →
          ∀ s, body s = giveAnswer n h.tag ⟨.badParam, 1, 0⟩ s) :=
    ⟨_, taken, fun _ zero s => by
      obtain ⟨rest, e⟩ := begins s
      rw [e, examine_zero zero]⟩
  cases c <;> cases block <;> cases head
  case unknownCode code => exact ⟨_, fun _ => rfl, fun known => absurd rfl (known n code h)⟩
  case setWindow p => exact examined (fun s => windowFaults s h p) (actSetWindow h p) (fun _ => ⟨_, rfl⟩) fun _ => rfl
  case setProfile p => exact examined (fun _ => profileFaults h p) (actSetProfile h p) (fun _ => ⟨_, rfl⟩) fun _ => rfl
  case definePattern l => exact examined (fun _ => patternFaults h) (actDefinePattern h l) (fun _ => ⟨_, rfl⟩) fun _ => rfl
  case setTimebase p => exact examined (fun _ => timebaseFaults h p) (actSetTimebase p) (fun _ => ⟨_, rfl⟩) fun _ => rfl
  case setAttention p => exact examined (fun _ => attentionFaults h p) (actSetAttention p) (fun _ => ⟨_, rfl⟩) fun _ => rfl
  case start => exact examined (fun s => startFaults s h) (actStart h) (fun _ => ⟨_, rfl⟩) fun _ => rfl
  case abort => exact examined (fun _ => [zeroFault h, maskFault h]) (actAbort h) (fun _ => ⟨_, rfl⟩) fun _ => rfl
  case retest => exact examined (fun _ => [zeroFault h, maskFault h]) (actRetest h) (fun _ => ⟨_, rfl⟩) fun _ => rfl
  case clear => exact examined (fun _ => [zeroFault h, maskFault h]) (actClear h) (fun _ => ⟨_, rfl⟩) fun _ => rfl
  case snapshot => exact examined (fun _ => [zeroFault h, maskFault h]) (actSnapshot h) (fun _ => ⟨_, rfl⟩) fun _ => rfl
  case sideband p => exact examined (fun _ => sidebandFaults h p) (actSideband n h p) (fun _ => ⟨_, rfl⟩) fun _ => rfl
  case status => exact examined (fun _ => [zeroFault h]) actStatus (fun _ => ⟨_, rfl⟩) fun _ => rfl

/-- A command that stands in a block is, as an event of its own, the take of that block (log 6). -/
theorem exec_eq_takeBlock {c : Instr} {n : BlockId} (wf : c.wf = true) (block : c.block? = some n) (s : State) :
    exec c s = .next (takeBlock c s) := by
  cases c <;> cases block
  case unknownCode code h =>
    have unknown : knownCodes.contains code = false := by simpa [Instr.wf] using wf
    simp only [exec, execUnknownCode, unknown]
    rfl
  all_goals rfl

/-- R23: a candidate whose block has a SIDEBAND outstanding. -/
theorem takeCandidate_busy {n : BlockId} {s : State} {t : BitVec 16} (run : running s)
    (busy : outstandingTag s.decoder n = some t) (tag : BitVec 16) (body : State → State) :
    takeCandidate n tag body s = settle { s with
      decoder := answered s n tag ⟨.blockBusy, 0, t.setWidth 32⟩ } := by
  have busy' : outstandingTag (countTaken s).decoder n = some t := busy
  simp only [takeCandidate, inReset_eq_false_iff.2 run, busy', giveAnswer_countTaken]
  rfl

/-! ### The backlog (R26) -/

theorem placeCompletion_last {backlog : List Completion} {c : Completion}
    (absent : ∀ d ∈ backlog, d.block ≠ c.block) : placeCompletion backlog c = backlog ++ [c] := by
  have none : (backlog.any fun d => decide (d.block = c.block)) = false := by simpa using absent
  simp [placeCompletion, none]

/-- Where a word of the block waits, no other word moves. -/
theorem placeCompletion_waiting {before after : List Completion} {c d : Completion}
    (same : d.block = c.block) (others : ∀ x ∈ before ++ after, x.block ≠ c.block) :
    placeCompletion (before ++ d :: after) c =
      if d.fromSideband then before ++ d :: after else before ++ c :: after := by
  have stays {xs : List Completion} (h : ∀ x ∈ xs, x.block ≠ c.block) :
      xs.map (fun d => if d.block = c.block ∧ d.fromSideband = false then c else d) = xs :=
    (List.map_congr_left fun x hx => if_neg fun both => h x hx both.1).trans xs.map_id
  have waits : ((before ++ d :: after).any fun d => decide (d.block = c.block)) = true := by simp [same]
  rw [placeCompletion, if_pos waits, List.map_append, List.map_cons,
    stays fun x hx => others x (List.mem_append_left _ hx),
    stays fun x hx => others x (List.mem_append_right _ hx)]
  cases d.fromSideband <;> simp [same]

/-- Settles O17, from what the commands have in common. -/
theorem blocksAreRefused : Obligations.BlocksAreRefused := by
  refine ⟨fun _ _ => rfl, fun n code h s unknown run free => ?_, fun c n h s wf block head run => ?_,
    fun backlog c => ⟨placeCompletion_last, fun before after d e same others => ?_⟩⟩
  · have free' : outstandingTag (countTaken s).decoder n = none := free
    rw [exec_eq_takeBlock (n := n) (by simpa [Instr.wf] using unknown) rfl]
    simp only [takeBlock, takeUnknown, takeCandidate, inReset_eq_false_iff.2 run, free',
      giveAnswer_countTaken]
    rfl
  · obtain ⟨body, taken, zeroFails⟩ := takeBlock_candidate block head
    rw [exec_eq_takeBlock wf block, taken]
    refine ⟨fun t busy => by rw [takeCandidate_busy run busy], fun free zero known => ?_⟩
    have free' : outstandingTag (countTaken s).decoder n = none := free
    simp only [takeCandidate, inReset_eq_false_iff.2 run, free', zeroFails known zero,
      giveAnswer_countTaken]
    rfl
  · rw [e, placeCompletion_waiting same others]

/-! ### The blocks of a command window write (R19 to R22) -/

theorem decodeBlock_block (n : BlockId) (b : List Byte) : (decodeBlock n b).block? = some n := by
  unfold decodeBlock
  split <;> rfl

/-- A block decodes to a command that it can carry. -/
theorem decodeBlock_wf (n : BlockId) (b : List Byte) : (decodeBlock n b).wf = true := by
  by_cases unknown : knownCodes.contains (blockByte b 0) = false
  · rw [decodeBlock_unknown unknown]
    simpa [Instr.wf] using unknown
  · rw [Bool.not_eq_false, List.contains_eq_mem, decide_eq_true_eq] at unknown
    have known : (blockByte b 0).toNat ∈ knownCodes.map BitVec.toNat := List.mem_map_of_mem unknown
    unfold decodeBlock
    split
    case h_14 => simp_all [knownCodes]
    all_goals rfl

theorem exec_decodeBlock (n : BlockId) (b : List Byte) (s : State) :
    exec (decodeBlock n b) s = .next (takeBlock (decodeBlock n b) s) :=
  exec_eq_takeBlock (decodeBlock_wf n b) (decodeBlock_block n b) s

/-- The execution of a block's command after what went before, where that has a next state. -/
def thenBlock (r : Result) (b : BlockId × List Byte) : Result :=
  match r with
  | .next u => exec (decodeBlock b.1 b.2) u
  | r => r

/-- R20: the candidates of a hand-off are executed one after another. -/
theorem foldl_thenBlock (blocks : List (BlockId × List Byte)) (s : State) :
    blocks.foldl thenBlock (.next s) = .next (takeCandidates blocks s) := by
  induction blocks generalizing s with
  | nil => rfl
  | cons b blocks ih =>
    have first : thenBlock (.next s) b = .next (takeBlock (decodeBlock b.1 b.2) s) := exec_decodeBlock ..
    rw [List.foldl_cons, first, ih]
    rfl

/-- R20, R21: what a hand-off of a command window write counts before its blocks are taken. -/
theorem handCommand_ok (cls : Class) (s : State) : handCommand cls .ok s =
    takeCandidates cls.covered { s with decoder := { s.decoder with counts := { s.decoder.counts with
      partialWrites :=
        if cls.partly then bump s.decoder.counts.partialWrites else s.decoder.counts.partialWrites } } } := by
  cases h : cls.partly <;> simp only [handCommand, h] <;> rfl

theorem handCommand_error (cls : Class) (s : State) : handCommand cls .error s =
    { s with decoder := { s.decoder with counts := { s.decoder.counts with
      partialWrites :=
        if cls.partly then bump s.decoder.counts.partialWrites else s.decoder.counts.partialWrites
      commandWritesFailed :=
        if cls.covered = [] then s.decoder.counts.commandWritesFailed
        else bump s.decoder.counts.commandWritesFailed } } } := by
  cases h : cls.partly <;> rcases hc : cls.covered with _ | ⟨b, rest⟩ <;>
    simp only [handCommand, h, hc] <;> rfl

/-- Settles O8: a hand-off takes its blocks one after another, and each take is the block's execution. -/
theorem commandWritesTakeTheirBlocks : Obligations.CommandWritesTakeTheirBlocks := by
  intro s id data e found kept role write
  have matched : matchOut id s.path.out = some e := found
  have taken (status : RespStatus) : exec (.forwardedResponse id status data) s =
      .next (handCommand e.cls status (s.modPath (returnResponse id status data))) := by
    simp only [exec, execForwardedResponse, matched, kept, handOff, role, write]
    rfl
  have returned (status : RespStatus) : s.modPath (returnResponse id status data) = { s with
      path := { s.path with
        out := s.path.out.eraseP fun e => decide (e.id = id)
        sysOut := some { id := id, status := status, data := data } } } := by
    rw [← dropOut_eq_eraseP]
    rfl
  rw [taken, taken, returned, returned, handCommand_ok, handCommand_error, ← foldl_thenBlock]
  exact ⟨rfl, rfl⟩

end Sys2Proof.Machine
end

section
/-! PROOF. Slots, masks and selectors as the commands name them, and the commands that set a pattern's length and
the attention settings (R32, R34). -/

namespace Sys2Proof.Machine

open Sys2Proof Sys2Proof.Safety

/-! ### Slots, masks and selectors -/

theorem mem_allSlots (i : SlotId) : i ∈ allSlots := by revert i; decide

theorem allSlots_pairwise : allSlots.Pairwise (· < ·) := by decide

theorem mem_slotsOf {mask : BitVec 16} {i : SlotId} : i ∈ slotsOf mask ↔ mask.getLsbD i.val = true := by
  simp [slotsOf, mem_allSlots]

theorem slotsOf_nodup (mask : BitVec 16) : (slotsOf mask).Nodup :=
  (allSlots_pairwise.imp ne_of_lt).filter _

/-- The slots of a mask for which `f` holds. -/
theorem slotsOf_filter (mask : BitVec 16) (f : SlotId → Bool) :
    (slotsOf mask).filter f = allSlots.filter fun i => f i && mask.getLsbD i.val := by
  simp only [slotsOf, List.filter_filter]

theorem maskOf_getLsbD (slots : List SlotId) {j : Nat} (hj : j < 32) :
    (maskOf slots).getLsbD j = true ↔ ∃ i ∈ slots, i.val = j := by
  have folded (m : BitVec 32) : (slots.foldl (fun m s => m ||| (1#32 <<< s.val)) m).getLsbD j = true ↔
      m.getLsbD j = true ∨ ∃ i ∈ slots, i.val = j := by
    induction slots generalizing m with
    | nil => simp
    | cons i slots ih =>
      have own : (1#32 <<< i.val).getLsbD j = true ↔ i.val = j := by
        simp only [BitVec.getLsbD_shiftLeft, hj, decide_true, Bool.true_and, Bool.and_eq_true,
          Bool.not_eq_true', decide_eq_false_iff_not, not_lt, BitVec.getLsbD_one]
        simp
        omega
      simp only [List.foldl_cons, ih, BitVec.getLsbD_or, Bool.or_eq_true, own, List.mem_cons,
        exists_eq_or_imp, or_assoc]
  exact (folded 0).trans (by simp)

/-- A mask is that of the slots whose bits it has. -/
theorem maskOf_eq {slots : List SlotId} {m : BitVec 32}
    (h : ∀ j < 32, m.getLsbD j = true ↔ ∃ i : SlotId, i.val = j ∧ i ∈ slots) : maskOf slots = m := by
  apply BitVec.eq_of_getLsbD_eq
  intro j hj
  rw [Bool.eq_iff_iff, maskOf_getLsbD _ hj, h j hj]
  exact exists_congr fun i => and_comm

theorem sel4_eq {selector : BitVec 16} {k : Fin 4} (h : selector.toNat = k.val) : sel4 selector = k := by
  apply Fin.ext
  simp [sel4, h]

theorem sel12_eq {selector : BitVec 16} {i : SlotId} (h : selector.toNat = i.val) : sel12 selector = i := by
  apply Fin.ext
  simp [sel12, h]

theorem clamp_eq {lo hi : Nat} (h : lo ≤ hi) (v : Nat) : clamp lo hi v = max lo (min v hi) := by
  unfold clamp
  split
  · omega
  · split <;> omega

theorem clampCount_eq_zero {lo hi v : Nat} : clampCount lo hi v = 0 ↔ lo ≤ v ∧ v ≤ hi := by
  unfold clampCount
  split <;> simp <;> omega

/-- R29: the answer of a command with one field to clamp. -/
theorem doneOrClamped_one (lo hi v : Nat) : doneOrClamped (clampCount lo hi v) =
    if lo ≤ v ∧ v ≤ hi then ⟨.done, 0, 0⟩ else ⟨.doneClamped, 0, 1⟩ := by
  by_cases within : lo ≤ v ∧ v ≤ hi
  · rw [clampCount_eq_zero.2 within, if_pos within]
    rfl
  · have outside : v < lo ∨ hi < v := by omega
    rw [clampCount, if_pos outside, if_neg within]
    rfl

/-- R30: the check of a zero byte that is 0. -/
theorem zeroFault_eq {h : BlockHead} (zero : h.zero = 0) : zeroFault h = (false, 1, 0) := by
  rw [zeroFault, decide_eq_false (not_not_intro zero)]

/-- R25: the mask is one that names slots and no more. -/
theorem badMask_eq_false_iff {h : BlockHead} : badMask h.slotMask = false ↔ maskLegal h := by
  simp [badMask, maskLegal]

/-- The slots changed one after another, each once. -/
theorem foldl_modSlot (f : Slot → Slot) (slots : List SlotId) (once : slots.Nodup) (s : State) :
    slots.foldl (fun s i => s.modSlot i f) s = { s with
      slots := Vector.ofFn fun i : SlotId => if i ∈ slots then f (s.slot i) else s.slot i } := by
  induction slots generalizing s with
  | nil =>
    have same : (Vector.ofFn fun i : SlotId => s.slot i) = s.slots := by
      ext k hk
      simp [State.slot]
    simp [same]
  | cons a slots ih =>
    obtain ⟨fresh, once⟩ := List.nodup_cons.1 once
    rw [List.foldl_cons, ih once]
    have each (i : SlotId) :
        (if i ∈ slots then f ((s.modSlot a f).slot i) else (s.modSlot a f).slot i) =
          if i ∈ a :: slots then f (s.slot i) else s.slot i := by
      by_cases e : i = a
      · subst e; simp [fresh]
      · simp [e]
    simp only [each]
    rfl

/-! ### DEFINE_PATTERN (R32, R53) -/

/-- Settles O20: the two checks, and the in-use count. -/
theorem definePatternSetsTheLength : Obligations.DefinePatternSetsTheLength := by
  intro n h length s r
  have faults : patternFaults h = [(false, 1, 0), (decide (4 ≤ h.selector.toNat), 2, 0)] := by
    rw [patternFaults, zeroFault_eq r.2.2, selectorFault]
  refine ⟨fun large => congrArg _ (takeExamined_refused (extra := 0) r ?_), fun k number => ?_⟩
  · rw [faults, decide_eq_true large]
    rfl
  · have passes : firstFault (patternFaults h) = none := by
      rw [faults, decide_eq_false (by omega)]
      rfl
    refine ⟨fun used => congrArg _ (takeExamined_answered (t := s) r passes ?_), fun free => ?_⟩
    · simp only [actDefinePattern, sel4_eq number]
      exact if_pos used
    · have acted : actDefinePattern h length (countTaken s) = (countTaken (s.modPattern k fun p =>
          { p with length := clamp 1 32 length.toNat }),
          some (doneOrClamped (clampCount 1 32 length.toNat))) := by
        simp only [actDefinePattern, sel4_eq number]
        exact if_neg (by show ¬ 0 < (s.patterns[k.val]).inUse; omega)
      refine (congrArg _ (takeExamined_answered r passes acted)).trans ?_
      rw [doneOrClamped_one, clamp_eq (by decide)]
      rfl

/-! ### SET_ATTENTION (R34, R173, R176) -/

/-- R174: the age timer set again, on the oldest record in the mask. -/
theorem resetAge_eq (s : State) : resetAge s = { s with attention := { s.attention with
    age := ageFrom s.attention.mask s.attention.delay s.us s.writer.list } } := by
  unfold resetAge ageFrom qualifying
  cases s.writer.list.filter fun p => kindInMask s.attention.mask p.kind <;> rfl

/-- R34: the checks of SET_ATTENTION. -/
theorem attentionFaults_eq {h : BlockHead} (zero : h.zero = 0) (p : AttentionParams) :
    firstFault (attentionFaults h p) =
      if p.lineEnable.toNat ≤ 1 ∧ p.wordEnable.toNat ≤ 1 ∧ p.kindMask.toNat ≤ 63 then
        if p.address.toNat % 16 = 0 then none else some (9, 0)
      else some (4, 0) := by
  rw [attentionFaults, zeroFault_eq zero]
  rcases le_or_gt p.lineEnable.toNat 1 with line | line
  · rcases le_or_gt p.wordEnable.toNat 1 with word | word
    · rcases le_or_gt p.kindMask.toNat 63 with mask | mask
      · by_cases aligned : p.address.toNat % 16 = 0
        · simp [firstFault, line, not_lt.2 line, word, not_lt.2 word, mask, not_lt.2 mask, aligned]
        · simp [firstFault, line, not_lt.2 line, word, not_lt.2 word, mask, not_lt.2 mask, aligned]
      · simp [firstFault, not_lt.2 line, not_lt.2 word, mask, not_le.2 mask]
    · simp [firstFault, word, not_le.2 word]
  · simp [firstFault, line, not_le.2 line]

/-- Settles O22: the checks, and the settings that an accepted command leaves. -/
theorem setAttentionReplacesTheSettings : Obligations.SetAttentionReplacesTheSettings := by
  intro n h p s r
  have faults := attentionFaults_eq r.2.2 p
  refine ⟨fun illegal => congrArg _ (takeExamined_refused (extra := 0) r ?_),
    fun legal misaligned => congrArg _ (takeExamined_refused (extra := 0) r ?_), fun legal aligned => ?_⟩
  · rw [faults, if_neg illegal]
  · rw [faults, if_pos legal, if_neg misaligned]
  · have passes : firstFault (attentionFaults h p) = none := by rw [faults, if_pos legal, if_pos aligned]
    have noDelay : clampCount 0 255 p.delay.toNat = 0 := clampCount_eq_zero.2 ⟨by omega, by omega⟩
    have delay : clamp 0 255 p.delay.toNat = p.delay.toNat := by rw [clamp_eq (by decide)]; omega
    have settings : s.attention.withSettings p = { s.attention with
        lineEnable := decide (p.lineEnable = 1), wordEnable := decide (p.wordEnable = 1)
        address := p.address, mask := p.kindMask.setWidth 6
        threshold := max 1 (min p.threshold.toNat 16), delay := p.delay.toNat
        waiting := if p.wordEnable = 1 then s.attention.waiting else none } := by
      simp only [Attention.withSettings, delay, clamp_eq (show 1 ≤ 16 by decide), isYes, decide_eq_true_eq]
    have answer : doneOrClamped (clampCount 1 16 p.threshold.toNat + clampCount 0 255 p.delay.toNat) =
        if decide (p.threshold = 0 ∨ 16 < p.threshold.toNat) then ⟨.doneClamped, 0, 1⟩
        else ⟨.done, 0, 0⟩ := by
      rw [noDelay, Nat.add_zero, doneOrClamped_one]
      have : p.threshold = 0 ↔ p.threshold.toNat = 0 := by
        rw [← BitVec.toNat_inj]; rfl
      by_cases within : 1 ≤ p.threshold.toNat ∧ p.threshold.toNat ≤ 16
      · rw [if_pos within, if_neg]
        simp only [this, decide_eq_true_eq]
        omega
      · rw [if_neg within, if_pos]
        simp only [this, decide_eq_true_eq]
        omega
    have acted : actSetAttention p (countTaken s) = (countTaken { s with attention :=
        { s.attention.withSettings p with
          age := ageFrom (p.kindMask.setWidth 6) p.delay.toNat s.us s.writer.list } }, some (doneOrClamped
              (clampCount 1 16 p.threshold.toNat + clampCount 0 255 p.delay.toNat))) := by
      rw [actSetAttention, resetAge_eq, ← delay]
      rfl
    refine (congrArg _ (takeExamined_answered r passes acted)).trans ?_
    rw [answer, settings]
    rfl

end Sys2Proof.Machine
end

section
/-! PROOF. The states that refuse a command, and the commands SNAPSHOT, STATUS and SIDEBAND (R25, R33,
R35 to R38, R40, R52). -/

namespace Sys2Proof.Machine

open Sys2Proof Sys2Proof.Safety

/-! ### Commands refused for a slot's state (R25) -/

/-- R25: the answer for the slots in conflict: the lowest, and the mask of all. -/
theorem conflictAnswer_eq {f : SlotId → Bool} {bad : SlotId → Prop} (conflicts : ∀ i, f i = true ↔ bad i)
    {low : SlotId} {m : BitVec 32} (isBad : bad low) (lowest : ∀ i, i < low → ¬ bad i)
    (mask : ∀ j < 32, m.getLsbD j = true ↔ ∃ i : SlotId, i.val = j ∧ bad i) :
    conflictAnswer (allSlots.filter f) = some ⟨.refusedState, low.val, m⟩ := by
  have member (i : SlotId) : i ∈ allSlots.filter f ↔ bad i := by simp [mem_allSlots, conflicts]
  have whole : maskOf (allSlots.filter f) = m := maskOf_eq fun j hj => by simp only [mask j hj, member]
  have ordered := allSlots_pairwise.filter f
  rw [← whole]
  cases e : allSlots.filter f with
  | nil => exact absurd ((member low).2 isBad) (by simp [e])
  | cons first rest =>
    have first_eq : first = low := by
      rw [e] at ordered member
      rcases List.mem_cons.1 ((member low).2 isBad) with same | later
      · exact same.symm
      · have before := (List.pairwise_cons.1 ordered).1 low later
        exact absurd ((member first).1 List.mem_cons_self) (lowest first before)
    rw [first_eq]
    rfl

/-- The named slots whose state fails `ok`, as a selection of all slots. -/
theorem slotsNot_eq (ok : SlotState → Bool) (mask : BitVec 16) (s : State) : slotsNot ok mask s =
    allSlots.filter fun i => !ok (s.slot i).state && mask.getLsbD i.val := slotsOf_filter mask _

theorem slotsNot_eq_nil {ok : SlotState → Bool} {mask : BitVec 16} {s : State}
    (h : ∀ i : SlotId, mask.getLsbD i.val = true → ok (s.slot i).state = true) : slotsNot ok mask s = [] := by
  rw [slotsNot, List.filter_eq_nil_iff]
  intro i hi
  simp [h i (mem_slotsOf.1 hi)]

theorem SlotState.offOrDone_iff {st : SlotState} : st.offOrDone = true ↔ st = .off ∨ st = .done := by
  cases st <;> decide

theorem SlotState.retestable_iff {st : SlotState} : st.retestable = true ↔ st ≠ .off ∧ st ≠ .verdict := by
  cases st <;> decide

theorem SlotState.abortable_iff {st : SlotState} :
    st.abortable = true ↔ st ≠ .off ∧ st ≠ .verdict ∧ st ≠ .done := by
  cases st <;> decide

theorem SlotState.soakOrScan_iff {st : SlotState} : st.soakOrScan = true ↔ st = .soak ∨ st = .scan := by
  cases st <;> decide

theorem SlotState.sidebandFree_iff {st : SlotState} :
    st.sidebandFree = true ↔ st = .off ∨ st = .watch ∨ st = .done := by
  cases st <;> decide

/-- R30: the checks of ABORT, RETEST, CLEAR and SNAPSHOT. -/
theorem maskFaults_eq {h : BlockHead} (zero : h.zero = 0) :
    firstFault [zeroFault h, maskFault h] = if badMask h.slotMask then some (3, 0) else none := by
  rw [zeroFault_eq zero, maskFault]
  cases badMask h.slotMask <;> rfl

theorem Payload.pattern?_eq_some {pl : Payload} {q : Fin 4} : pl.pattern? = some q ↔ pl = .pattern q := by
  cases pl <;> simp [Payload.pattern?]

/-- R52: every block of the pattern's length is valid. -/
theorem Pattern.usable_iff {p : Pattern} : p.usable = true ↔ ∀ b < p.length, p.valid.getLsbD b = true := by
  simp [Pattern.usable]

/-- R52: the patterns that the profile names are usable. -/
def ProfileUsable (s : State) (pl : Payload) : Prop :=
  ∀ q : Fin 4, pl = .pattern q → ∀ b < (s.patterns[q.val]).length, (s.patterns[q.val]).valid.getLsbD b = true

/-- R35: the checks of START after that of its selector. -/
theorem startFaults_eq {s : State} {h : BlockHead} (zero : h.zero = 0) {k : Fin 4}
    (number : h.selector.toNat = k.val) :
    (badMask h.slotMask = true → firstFault (startFaults s h) = some (3, 0)) ∧
    (badMask h.slotMask = false → ProfileUsable s (s.profiles[k.val]).payload →
      firstFault (startFaults s h) = none) ∧
    ∀ q : Fin 4, badMask h.slotMask = false → (s.profiles[k.val]).payload = .pattern q →
      (s.patterns[q.val]).usable = false → firstFault (startFaults s h) = some (11, q.val) := by
  have inRange : decide (4 ≤ h.selector.toNat) = false := decide_eq_false (by omega)
  simp only [startFaults, zeroFault_eq zero, selectorFault, inRange, sel4_eq number, maskFault,
    firstFault_passing]
  refine ⟨fun bad => ?_, fun good usable => ?_, fun q good names unusable => ?_⟩
  · rw [bad]; rfl
  · rw [good, firstFault_passing]
    cases e : (s.profiles[k.val]).payload.pattern? with
    | none => rfl
    | some q =>
      have := Pattern.usable_iff.2 (usable q (Payload.pattern?_eq_some.1 e))
      simp only [this]
      rfl
  · have e := Payload.pattern?_eq_some.2 names
    rw [good, firstFault_passing]
    simp only [e, unusable]
    rfl

theorem timebaseFaults_eq {h : BlockHead} (zero : h.zero = 0) (p : TimebaseParams) :
    firstFault (timebaseFaults h p) = if p.prescale.toNat ∈ [1, 4, 16, 64] then none else some (4, 0) := by
  rw [timebaseFaults, zeroFault_eq zero, firstFault_passing]
  by_cases legal : p.prescale.toNat ∈ [1, 4, 16, 64]
  · rw [if_pos legal, decide_eq_false (not_not_intro legal)]; rfl
  · rw [if_neg legal, decide_eq_true legal]; rfl

/-- R25, R35, R37: the answer where the named slots in conflict are those whose state fails `ok`. -/
theorem conflictAnswer_slotsNot {ok : SlotState → Bool} {mask : BitVec 16} {s : State} {bad : SlotId → Prop}
    (conflicts : ∀ i, bad i ↔ mask.getLsbD i.val = true ∧ ¬ ok (s.slot i).state = true)
    {low : SlotId} {m : BitVec 32} (isBad : bad low) (lowest : ∀ i, i < low → ¬ bad i)
    (slots : ∀ j < 32, m.getLsbD j = true ↔ ∃ i : SlotId, i.val = j ∧ bad i) :
    conflictAnswer (slotsNot ok mask s) = some ⟨.refusedState, low.val, m⟩ := by
  rw [slotsNot_eq]
  exact conflictAnswer_eq (fun i => by simp [conflicts, and_comm]) isBad lowest slots

theorem actStart_conflict {h : BlockHead} {s : State} {a : Answer}
    (conflict : conflictAnswer (slotsNot SlotState.offOrDone h.slotMask s) = some a) :
    actStart h s = (s, some a) := by
  simp only [actStart, conflict]

theorem actRetest_conflict {h : BlockHead} {s : State} {a : Answer}
    (conflict : conflictAnswer (slotsNot SlotState.retestable h.slotMask s) = some a) :
    actRetest h s = (s, some a) := by
  simp only [actRetest, conflict]

theorem actClear_conflict {h : BlockHead} {s : State} {a : Answer}
    (conflict : conflictAnswer (slotsNot SlotState.offOrDone h.slotMask s) = some a) :
    actClear h s = (s, some a) := by
  simp only [actClear, conflict]

theorem actSetTimebase_conflict {p : TimebaseParams} {s : State} {a : Answer}
    (conflict : conflictAnswer (soakingSlots s) = some a) : actSetTimebase p s = (s, some a) := by
  unfold actSetTimebase
  cases e : soakingSlots s with
  | nil => simp [e, conflictAnswer] at conflict
  | cons i rest =>
    rw [e] at conflict
    exact congrArg _ conflict

/-- Settles O24: the state checks by the slots in conflict, and the checks before them. -/
theorem statesRefuseCommands : Obligations.StatesRefuseCommands := by
  refine ⟨fun c n h s bad low m r which isBad lowest mask => ?_, fun n h s r => ⟨fun large => ?_,
    fun illegal => ?_, fun k q legal number names unusable => ?_, fun p undefined => ?_⟩⟩
  · have notOffOrDone (i : SlotId) : (s.slot i).state ≠ .off ∧ (s.slot i).state ≠ .done ↔
        ¬ (s.slot i).state.offOrDone = true := by
      rw [SlotState.offOrDone_iff, not_or]
    have maskPasses (legal : maskLegal h) : firstFault [zeroFault h, maskFault h] = none := by
      rw [maskFaults_eq r.2.2, badMask_eq_false_iff.2 legal]
      rfl
    rcases which with ⟨rfl, legal, number, usable, conflict⟩ | ⟨rfl, legal, conflict⟩ |
      ⟨rfl, legal, conflict⟩ | ⟨p, rfl, prescale, conflict⟩
    · have passes := (startFaults_eq (s := countTaken s) r.2.2 (k := ⟨_, number⟩) rfl).2.1
        (badMask_eq_false_iff.2 legal) (usable ⟨_, number⟩ · rfl)
      simp only [notOffOrDone] at conflict
      exact congrArg _ (takeExamined_answered r (faults := (startFaults · h)) passes
        (actStart_conflict (s := countTaken s) (conflictAnswer_slotsNot conflict isBad lowest mask)))
    · simp only [notOffOrDone] at conflict
      exact congrArg _ (takeExamined_answered r (maskPasses legal)
        (actClear_conflict (s := countTaken s) (conflictAnswer_slotsNot conflict isBad lowest mask)))
    · have notRetestable (i : SlotId) : (s.slot i).state = .off ∨ (s.slot i).state = .verdict ↔
          ¬ (s.slot i).state.retestable = true := by
        rw [SlotState.retestable_iff]
        tauto
      simp only [notRetestable] at conflict
      exact congrArg _ (takeExamined_answered r (maskPasses legal)
        (actRetest_conflict (s := countTaken s) (conflictAnswer_slotsNot conflict isBad lowest mask)))
    · have passes : firstFault (timebaseFaults h p) = none := by
        rw [timebaseFaults_eq r.2.2, if_pos prescale]
      refine congrArg _ (takeExamined_answered r passes
        (actSetTimebase_conflict (s := countTaken s)
          (conflictAnswer_eq (bad := bad) (fun i => ?_) isBad lowest mask)))
      rw [conflict, decide_eq_true_eq]
      rfl
  · refine congrArg _ (takeExamined_refused (extra := 0) r ?_)
    simp [startFaults, zeroFault_eq r.2.2, selectorFault, large]
  · have bad : badMask h.slotMask = true := by
      rw [← Bool.not_eq_false, badMask_eq_false_iff, maskLegal]
      rintro ⟨some, small⟩
      exact illegal.elim some (not_le.2 small)
    have fails : firstFault [zeroFault h, maskFault h] = some (3, 0) := by
      rw [maskFaults_eq r.2.2, if_pos bad]
    exact ⟨fun number => congrArg _ (takeExamined_refused (extra := 0) r
        ((startFaults_eq r.2.2 (k := ⟨_, number⟩) rfl).1 bad)),
      congrArg _ (takeExamined_refused (extra := 0) r fails),
      congrArg _ (takeExamined_refused (extra := 0) r fails),
      congrArg _ (takeExamined_refused (extra := 0) r fails),
      congrArg _ (takeExamined_refused (extra := 0) r fails)⟩
  · refine congrArg _ (takeExamined_refused r ?_)
    refine (startFaults_eq r.2.2 number).2.2 q (badMask_eq_false_iff.2 legal) names ?_
    obtain ⟨b, inside, invalid⟩ := unusable
    rw [← Bool.not_eq_true, Pattern.usable_iff]
    exact fun all => Bool.false_ne_true (invalid.symm.trans (all b inside))
  · refine congrArg _ (takeExamined_refused (extra := 0) r ?_)
    rw [timebaseFaults_eq r.2.2, if_neg undefined]

/-! ### SNAPSHOT and STATUS (R36, R40, R138) -/

/-- R36: the answer where there is a slot to act on. -/
theorem affectedAnswer_of_mem {slots : List SlotId} {i : SlotId} (member : i ∈ slots) :
    affectedAnswer slots = ⟨.done, 0, maskOf slots⟩ := by
  cases slots with
  | nil => cases member
  | cons _ _ => rfl

/-- Settles O28: the slots of SNAPSHOT frozen each once, and the flag of STATUS. -/
theorem snapshotAndStatusAskForRecords : Obligations.SnapshotAndStatusAskForRecords := by
  refine ⟨fun n h s m r legal => ?_, fun n h s r => ?_⟩
  · intro hit maskHit figures
    have passes : firstFault [zeroFault h, maskFault h] = none := by
      rw [maskFaults_eq r.2.2, badMask_eq_false_iff.2 legal]
      rfl
    let slots := (slotsOf h.slotMask).filter fun i => (s.slot i).state.soakOrScan
    have member (i : SlotId) : i ∈ slots ↔ hit i = true := by
      rw [List.mem_filter, mem_slotsOf, SlotState.soakOrScan_iff, Bool.and_eq_true, decide_eq_true_eq]
    refine ⟨fun noHit => ?_, fun ⟨i, isHit⟩ => ?_⟩
    · have empty : slots = [] := List.eq_nil_iff_forall_not_mem.2 fun i => by simp [member, noHit]
      have acted : actSnapshot h (countTaken s) = (countTaken s, some (affectedAnswer [])) := by
        show (slots.foldl _ (countTaken s), some (affectedAnswer slots)) = _
        rw [empty]
        rfl
      exact congrArg _ (takeExamined_answered r passes acted)
    · have acted : actSnapshot h (countTaken s) = (countTaken { s with
          slots := Vector.ofFn fun i => if hit i then (s.slot i).freeze true else s.slot i },
          some ⟨.done, 0, m⟩) := by
        show (slots.foldl _ (countTaken s), some (affectedAnswer slots)) = _
        rw [foldl_modSlot _ slots ((slotsOf_nodup _).filter _), affectedAnswer_of_mem ((member i).2 isHit),
          maskOf_eq (m := m) fun j hj => by simp only [maskHit j hj, member]]
        simp only [member]
        rfl
      refine (congrArg _ (takeExamined_answered r passes acted)).trans ?_
      rfl
  · have passes : firstFault [zeroFault h] = none := by
      rw [zeroFault_eq r.2.2]
      rfl
    refine (congrArg _ (takeExamined_answered (t := s.setStatusPending true) r passes rfl)).trans ?_
    rfl

/-! ### SIDEBAND (R38) -/

/-- R107, R108: an entry that joins while the engine is at work waits. -/
theorem sbJoin_busy {s : State} (busy : s.sideband.engine.phase ≠ .idle) (e : SbEntry) :
    sbJoin e s = s.withSbQueue (s.sideband.queue ++ [e]) := if_pos busy

/-- R103, R104, R108: a host entry that meets an idle engine and an empty queue begins its first try. -/
theorem sbJoin_host_idle {s : State} (idle : s.sideband.engine.phase = .idle)
    (empty : s.sideband.queue = []) (e : HostEntry) : sbJoin (.host e) s = { s with sideband :=
      ⟨[.host e], { s.sideband.engine with
        phase := .try, txn := e.txn, tries := 1, speed := lineSpeed s e.slot, wait := none
        abandoned := false, result := none }⟩ } := by
  have started : ¬ (s.withSbQueue [.host e]).sideband.engine.phase ≠ .idle := not_not_intro idle
  rw [sbJoin, empty, List.nil_append, serve, if_neg started]
  rfl

/-- R38: the checks of SIDEBAND after that of its selector. -/
theorem sidebandFaults_eq {h : BlockHead} (zero : h.zero = 0) {i : SlotId} (number : h.selector.toNat = i.val)
    (p : SidebandParams) : firstFault (sidebandFaults h p) =
      if 1 < p.direction.toNat then some (4, 0)
      else if p.count = 0 ∨ 8 < p.count.toNat ∨ 256 < p.offset.toNat + p.count.toNat then some (10, 0)
      else none := by
  have inRange : decide (12 ≤ h.selector.toNat) = false := decide_eq_false (by omega)
  rw [sidebandFaults, zeroFault_eq zero, selectorFault, inRange, firstFault_passing, firstFault_passing]
  by_cases direction : 1 < p.direction.toNat
  · rw [decide_eq_true direction, firstFault_failing, if_pos direction]
  · rw [decide_eq_false direction, firstFault_passing, if_neg direction]
    have joined : (decide (p.count = 0) || decide (8 < p.count.toNat) ||
        decide (256 < p.offset.toNat + p.count.toNat)) = decide (p.count = 0 ∨ 8 < p.count.toNat ∨
          256 < p.offset.toNat + p.count.toNat) := by
      simp only [Bool.decide_or, Bool.or_assoc]
    by_cases length : p.count = 0 ∨ 8 < p.count.toNat ∨ 256 < p.offset.toNat + p.count.toNat
    · rw [if_pos length, joined, decide_eq_true length]
      rfl
    · rw [if_neg length, joined, decide_eq_false length]
      rfl

/-- R22: a command that passes its checks and is answered by a later event. -/
theorem takeExamined_deferred {n : BlockId} {h : BlockHead} {s t : State} (r : ready s n h)
    {faults : State → List (Bool × Nat × Nat)} {act : State → State × Option Answer}
    (passes : firstFault (faults (countTaken s)) = none) (acted : act (countTaken s) = (t, none)) :
    takeCandidate n h.tag (fun s => examine n h.tag (faults s) act s) s = settle t := by
  rw [takeCandidate_ready r, examine, passes, acted]

/-- R38, R41: a SIDEBAND has been counted, and its block is outstanding. -/
def outstandingJoined (n : BlockId) (h : BlockHead) (s : State) : State := { countTaken s with
  decoder := { (countTaken s).decoder with outstanding := s.decoder.outstanding ++ [(n, h.tag)] } }

/-- Settles O29: the checks of SIDEBAND, its slot's state and the outstanding set, and the entry that joins. -/
theorem sidebandQueuesAHostEntry : Obligations.SidebandQueuesAHostEntry := by
  intro n h p s r refused badCount
  refine ⟨fun large => ?_, fun i number => ?_⟩
  · refine congrArg _ (takeExamined_refused (extra := 0) r ?_)
    simp [sidebandFaults, zeroFault_eq r.2.2, selectorFault, large]
  have faults := sidebandFaults_eq r.2.2 number p
  refine ⟨fun direction => ?_, fun direction length => ?_, fun direction length => ?_⟩
  · refine congrArg _ (takeExamined_refused (extra := 0) r ?_)
    rw [faults, if_pos direction]
  · refine congrArg _ (takeExamined_refused (extra := 0) r ?_)
    rw [faults, if_neg (not_lt.2 direction), if_pos length]
  · intro free direction' e txn speed begun accepted
    have passes : firstFault (sidebandFaults h p) = none := by
      rw [faults, if_neg (not_lt.2 direction), if_neg length]
    have isFree : free ↔ ((countTaken s).slot i).state.sidebandFree = true :=
      SlotState.sidebandFree_iff.symm
    have entry : hostEntryOf n h p = e := by
      rw [hostEntryOf, sel12_eq number, clamp_eq (by decide), Nat.zero_max]
    have transaction : e.txn = txn := by
      by_cases read : p.direction = 0
      · simp [e, txn, direction', HostEntry.txn, read]
      · simp only [e, txn, direction', HostEntry.txn, if_neg read]
    refine ⟨fun busy => ?_, fun ready full => ?_, fun ready room => ?_⟩
    · have acted : actSideband n h p (countTaken s) = (countTaken s, some (slotConflict i [i])) := by
        rw [isFree, Bool.not_eq_true] at busy
        simp only [actSideband, sel12_eq number, busy]
        rfl
      refine (congrArg _ (takeExamined_answered r passes acted)).trans ?_
      simp [refused, slotConflict, maskOf]
    · have acted : actSideband n h p (countTaken s) = (countTaken s, some ⟨.refusedBusy, 0, 4⟩) := by
        simp only [actSideband, sel12_eq number, isFree.1 ready]
        exact if_pos full
      exact congrArg _ (takeExamined_answered r passes acted)
    · have acted : actSideband n h p (countTaken s) =
          (sbJoin (.host e) (outstandingJoined n h s), none) := by
        simp only [actSideband, sel12_eq number, isFree.1 ready, entry]
        exact if_neg (not_le.2 room)
      have taken := takeExamined_deferred r (faults := fun _ => sidebandFaults h p) passes acted
      refine ⟨fun working => ?_, fun idle empty => ?_⟩
      · rw [sbJoin_busy (s := outstandingJoined n h s) working] at taken
        exact congrArg _ taken
      · rw [sbJoin_host_idle (s := outstandingJoined n h s) idle empty, transaction] at taken
        exact congrArg _ taken

end Sys2Proof.Machine
end

section
/-! PROOF. START (R35, R54, R91, R92): the claims on patterns, the withdrawals that find nothing to withdraw,
and the slots that begin their tests. -/

namespace Sys2Proof.Machine

open Sys2Proof Sys2Proof.Safety

/-! ### Claims on patterns (R54) -/

/-- R54: the patterns with `n` claims more on the one that the payload names. -/
def claimsAdded (pats : Vector Pattern 4) (pl : Payload) (n : Nat) : Vector Pattern 4 :=
  Vector.ofFn fun q : Fin 4 => { pats[q.val] with
    inUse := (pats[q.val]).inUse + if pl = .pattern q then n else 0 }

/-- The patterns with the in-use count of the one that the payload names changed by `f`. -/
theorem modNamed_eq {pl : Payload} {f : Nat → Nat} {g : Pattern → Fin 4 → Nat} (pats : Vector Pattern 4)
    (named : ∀ q, pl = .pattern q → g pats[q.val] q = f (pats[q.val]).inUse)
    (other : ∀ q, pl ≠ .pattern q → g pats[q.val] q = (pats[q.val]).inUse) :
    (pl.pattern?.elim pats fun n => pats.set n.val { pats[n.val] with inUse := f (pats[n.val]).inUse }) =
      Vector.ofFn fun q : Fin 4 => { pats[q.val] with inUse := g pats[q.val] q } := by
  apply Vector.ext
  intro b hb
  rw [Vector.getElem_ofFn]
  cases e : pl.pattern? with
  | none =>
    rw [other ⟨b, hb⟩ fun same => by rw [Payload.pattern?_eq_some.2 same] at e; cases e]
    rfl
  | some n =>
    have names := Payload.pattern?_eq_some.1 e
    by_cases same : n = ⟨b, hb⟩
    · subst same
      rw [named _ names]
      simp
    · rw [other ⟨b, hb⟩ fun also => same (by rw [names] at also; injection also)]
      have apart : n.val ≠ b := fun e => same (Fin.ext e)
      simp [Vector.getElem_set_ne, apart]

/-- R54: the claim that slot `i` takes. -/
theorem takeClaim_eq (i : SlotId) (s : State) :
    takeClaim i s = { s with patterns := claimsAdded s.patterns (s.slot i).profile.payload 1 } := by
  have added := modNamed_eq (pl := (s.slot i).profile.payload) (f := (· + 1))
    (g := fun p q => p.inUse + if (s.slot i).profile.payload = .pattern q then 1 else 0) s.patterns
    (fun q e => by rw [if_pos e]) (fun q e => by rw [if_neg e]; rfl)
  refine Eq.trans ?_ (congrArg (fun p => { s with patterns := p }) added)
  unfold takeClaim
  cases (s.slot i).profile.payload.pattern? <;> rfl

/-- R54: the claim that slot `i` releases. -/
theorem releaseClaim_eq (i : SlotId) (s : State) :
    releaseClaim i s = { s with patterns := claimReleased s i } := by
  have released := modNamed_eq (pl := (s.slot i).profile.payload) (f := (· - 1))
    (g := fun p q => p.inUse - if (s.slot i).profile.payload = .pattern q then 1 else 0) s.patterns
    (fun q e => by rw [if_pos e]) (fun q e => by rw [if_neg e]; rfl)
  refine Eq.trans ?_ (congrArg (fun p => { s with patterns := p }) released)
  unfold releaseClaim
  cases (s.slot i).profile.payload.pattern? <;> rfl

theorem claimsAdded_add (pats : Vector Pattern 4) (pl : Payload) (m n : Nat) :
    claimsAdded (claimsAdded pats pl m) pl n = claimsAdded pats pl (m + n) := by
  apply Vector.ext
  intro b hb
  by_cases e : pl = .pattern ⟨b, hb⟩ <;> simp [claimsAdded, e, Nat.add_assoc]

theorem claimsAdded_zero (pats : Vector Pattern 4) (pl : Payload) : claimsAdded pats pl 0 = pats := by
  apply Vector.ext
  intro b hb
  simp [claimsAdded]

/-! ### The withdrawals of a slot that is in neither queue (R88, R158) -/

/-- R88, R89, R109: the discovery entry of a slot withdrawn. -/
theorem withdrawDiscovery_eq (i : SlotId) (s : State) :
    withdrawDiscovery i s = { s with sideband := sidebandWithout s (SbEntry.isDiscoveryOf i) } := by
  have held : (headInService s && s.sideband.queue.head?.any (SbEntry.isDiscoveryOf i)) = true ↔
      s.sideband.engine.phase ≠ .idle ∧ s.sideband.engine.abandoned = false ∧
        s.sideband.queue.head?.any (SbEntry.isDiscoveryOf i) = true := by
    simp [headInService, and_assoc]
  simp only [withdrawDiscovery, sidebandWithout, held]
  split
  · rw [dropService_eq]
    rfl
  · rfl

theorem SbEntry.isDiscoveryOf_iff {i : SlotId} {e : SbEntry} : e.isDiscoveryOf i = true ↔ e = .discovery i := by
  cases e <;> simp [SbEntry.isDiscoveryOf]

theorem withdrawDiscovery_of_absent {i : SlotId} {s : State} (absent : .discovery i ∉ s.sideband.queue) :
    withdrawDiscovery i s = s := by
  have others (e : SbEntry) (h : e ∈ s.sideband.queue) : e.isDiscoveryOf i = false := by
    rw [← Bool.not_eq_true, SbEntry.isDiscoveryOf_iff]
    exact fun same => absent (same ▸ h)
  have kept : s.sideband.queue.filter (fun e => !e.isDiscoveryOf i) = s.sideband.queue :=
    List.filter_eq_self.2 fun e h => by rw [others e h]; rfl
  have notHead : ¬ s.sideband.queue.head?.any (SbEntry.isDiscoveryOf i) = true := by
    rw [Option.any_eq_true]
    rintro ⟨e, head, own⟩
    rw [others e (List.mem_of_mem_head? head)] at own
    cases own
  rw [withdrawDiscovery_eq, sidebandWithout, kept, if_neg fun held => notHead held.2.2]

theorem withdrawScan_of_absent {i : SlotId} {s : State} (absent : i ∉ s.scanner.queue) :
    withdrawScan i s = s := if_neg absent

/-- R107, R148: a slot is in the Scan Queue where it is in SCAN, and has a discovery entry only in DISCOVER. -/
def Placed (s : State) (i : SlotId) : Prop :=
  (i ∈ s.scanner.queue ↔ (s.slot i).state = .scan) ∧
    (.discovery i ∈ s.sideband.queue → (s.slot i).state = .discover)

theorem SlotsOk.placed {s : State} (ok : SlotsOk s) (i : SlotId) : Placed s i := by
  obtain ⟨-, inQueue, -, inSideband, -⟩ := ok
  exact ⟨inQueue i, inSideband i⟩

theorem modSlot_modSlot (i : SlotId) (f g : Slot → Slot) (s : State) :
    (s.modSlot i f).modSlot i g = s.modSlot i fun x => g (f x) := by
  unfold State.modSlot State.withSlot
  simp [State.slot]

/-! ### The slots that begin their tests (R88, R91, R92) -/

/-- R58, R88: the slot as it enters WATCH. -/
def Slot.watched (x : Slot) : Slot := { x.park with state := .watch, stateTimer := none }

theorem toWatch_of_absent {i : SlotId} {s : State} (unqueued : i ∉ s.scanner.queue)
    (absent : .discovery i ∉ s.sideband.queue) : toWatch i s = s.modSlot i Slot.watched := by
  have discovery : withdrawDiscovery i (s.modSlot i Slot.watched) = s.modSlot i Slot.watched :=
    withdrawDiscovery_of_absent absent
  have scan : withdrawScan i (s.modSlot i Slot.watched) = s.modSlot i Slot.watched :=
    withdrawScan_of_absent unqueued
  exact (congrArg _ discovery).trans scan

/-- R80: the raw presence input of a slot. -/
theorem rawPresence_eq (s : State) (i : SlotId) :
    rawPresence s i = rawInput s i (s.slot i).profile.presenceSource := by
  unfold rawPresence rawInput
  cases (s.slot i).profile.presenceSource <;> rfl

/-- R92: presence tracking begun anew. -/
def Slot.presenceBegun (s : State) (i : SlotId) (x : Slot) : Slot := { x with
  tracking := true, present := false
  debounceTimer := restartedTimer s x.profile (rawInput s i x.profile.presenceSource) }

theorem restartPresence_eq (i : SlotId) (s : State) :
    restartPresence i s = s.modSlot i (Slot.presenceBegun s i) := by
  rw [restartPresence, rawPresence_eq]
  rfl

/-- R91, R92: the slot `x` begun with profile `k`, with the inputs of `s` for slot `i`. -/
def startedSlot (s : State) (k : Fin 4) (i : SlotId) (x : Slot) : Slot := { x with
  state := .watch, profile := s.profiles[k.val], profileNumber := k, attempts := 0, tracking := true
  present := false, stateTimer := none, abortedMark := false, outcome := none, findings := []
  debounceTimer := restartedTimer s s.profiles[k.val] (rawInput s i (s.profiles[k.val]).presenceSource)
  identity := none, flags := 0, lanes := parkedCleared x
  confirm := parkedConfirm x, wiring := Vector.replicate 4 .cleared, scan := .empty }

/-- R74, R91: what START makes of slot `x` of the profile `k`, before it begins the presence tracking. -/
def Slot.beginRun (s : State) (k : Fin 4) (x : Slot) : Slot :=
  { (Slot.watched { x with profile := s.profiles[k.val], profileNumber := k }).freshRun.clearWiring with
    flags := 0, identity := none }

theorem Slot.beginRun_presenceBegun (s : State) (k : Fin 4) (i : SlotId) (x : Slot) :
    (x.beginRun s k).presenceBegun s i = startedSlot s k i x := rfl

/-- R54, R91: START of a slot that is in neither queue. -/
theorem startSlot_eq {k : Fin 4} {i : SlotId} {s : State} (unqueued : i ∉ s.scanner.queue)
    (absent : .discovery i ∉ s.sideband.queue) : startSlot k i s =
      { s.modSlot i (startedSlot s k i) with
        patterns := claimsAdded s.patterns (s.profiles[k.val]).payload 1 } := by
  have begun : startSlot k i s = restartPresence i (takeClaim i (s.modSlot i (Slot.beginRun s k))) := by
    unfold startSlot
    simp only
    rw [toWatch_of_absent (s := s.modSlot i _) unqueued absent, modSlot_modSlot, modSlot_modSlot]
    rfl
  have names : ((s.modSlot i (Slot.beginRun s k)).slot i).profile = s.profiles[k.val] := by
    rw [State.modSlot_slot, if_pos rfl]
    rfl
  have tracked : (s.modSlot i (Slot.beginRun s k)).modSlot i (Slot.presenceBegun s i) =
      s.modSlot i (startedSlot s k i) := by
    simp only [modSlot_modSlot, Slot.beginRun_presenceBegun]
  rw [begun, restartPresence_eq, takeClaim_eq, names, ← tracked]
  rfl

/-- R54, R91: START of slots that are in neither queue, each once. -/
theorem foldl_startSlot (k : Fin 4) (slots : List SlotId) (once : slots.Nodup) (s : State)
    (absent : ∀ i ∈ slots, i ∉ s.scanner.queue ∧ .discovery i ∉ s.sideband.queue) :
    slots.foldl (fun s i => startSlot k i s) s = { s with
      slots := Vector.ofFn fun i => if i ∈ slots then startedSlot s k i (s.slot i) else s.slot i
      patterns := claimsAdded s.patterns (s.profiles[k.val]).payload slots.length } := by
  induction slots generalizing s with
  | nil =>
    have same : (Vector.ofFn fun i : SlotId => s.slot i) = s.slots := by
      ext k hk
      simp [State.slot]
    simp [same, claimsAdded_zero]
  | cons a slots ih =>
    obtain ⟨fresh, once⟩ := List.nodup_cons.1 once
    obtain ⟨unqueued, notDiscovery⟩ := absent a List.mem_cons_self
    rw [List.foldl_cons, startSlot_eq unqueued notDiscovery]
    refine (ih once _ ?_).trans ?_
    · exact fun i hi => absent i (List.mem_cons_of_mem a hi)
    have each (i : SlotId) : (if i ∈ slots then startedSlot s k i ((s.modSlot a (startedSlot s k a)).slot i)
        else (s.modSlot a (startedSlot s k a)).slot i) =
          if i ∈ a :: slots then startedSlot s k i (s.slot i) else s.slot i := by
      by_cases e : i = a
      · subst e; simp [fresh]
      · simp [e]
    have counted : claimsAdded (claimsAdded s.patterns (s.profiles[k.val]).payload 1)
        (s.profiles[k.val]).payload slots.length =
          claimsAdded s.patterns (s.profiles[k.val]).payload (a :: slots).length := by
      rw [claimsAdded_add, Nat.add_comm]
      rfl
    simp only [← each, ← counted]
    rfl

/-- Settles O23: no named slot is in a queue, and each is begun once. -/
theorem startBeginsTheTests : Obligations.StartBeginsTheTests := by
  intro n h s k ok r number legal profile usable accepts started claimed
  have passes := (startFaults_eq (s := countTaken s) r.2.2 number).2.1 (badMask_eq_false_iff.2 legal) usable
  have free : slotsNot SlotState.offOrDone h.slotMask (countTaken s) = [] :=
    slotsNot_eq_nil fun i named => SlotState.offOrDone_iff.2 (accepts i named)
  have absent : ∀ i ∈ slotsOf h.slotMask, i ∉ s.scanner.queue ∧ .discovery i ∉ s.sideband.queue := by
    intro i hi
    obtain ⟨inScan, inDiscover⟩ := SlotsOk.placed ok i
    have state := accepts i (mem_slotsOf.1 hi)
    refine ⟨fun queued => ?_, fun queued => ?_⟩
    · rw [inScan.1 queued] at state
      simp at state
    · rw [inDiscover queued] at state
      simp at state
  have acted : actStart h (countTaken s) = (countTaken { s with
      slots := Vector.ofFn fun i => if h.slotMask.getLsbD i.val then started i else s.slot i
      patterns := Vector.ofFn claimed }, some ⟨.done, 0, h.slotMask.setWidth 32⟩) := by
    have slots := foldl_startSlot k _ (slotsOf_nodup h.slotMask) (countTaken s) absent
    simp only [mem_slotsOf] at slots
    simp only [actStart, free, conflictAnswer, sel4_eq number, slots]
    rfl
  exact congrArg _ (takeExamined_answered r (faults := (startFaults · h)) passes acted)

end Sys2Proof.Machine
end

section
/-! PROOF. The claims that several slots take and release in one event, and what the withdrawals from the Scan
Queue and the sweeps that follow them change (R54, R149 to R158). -/

namespace Sys2Proof.Machine

open Sys2Proof Sys2Proof.Safety

/-! ### Claims that move (R54) -/

/-- R54: a slot as it stands holds a claim on pattern `q`. -/
def Slot.claimsPattern (x : Slot) (q : Fin 4) : Bool :=
  x.state.abortable && decide (x.profile.payload = .pattern q)

theorem claims_eq (s : State) (q : Fin 4) (i : SlotId) : claims s q i = (s.slot i).claimsPattern q := rfl

/-- Slots that are disjointly of two sorts, counted. -/
theorem length_filter_or {f g : SlotId → Bool} (disjoint : ∀ i, f i = true → g i = false) (slots : List SlotId) :
    (slots.filter fun i => f i || g i).length = (slots.filter f).length + (slots.filter g).length := by
  simp only [← List.countP_eq_length_filter]
  induction slots with
  | nil => rfl
  | cons a slots ih =>
    simp only [List.countP_cons, ih]
    cases hf : f a
    · simp only [Bool.false_or, Bool.false_eq_true, if_false]
      omega
    · simp [disjoint a hf]; omega

/-- At most one slot, counted. -/
theorem length_filter_single {f : SlotId → Bool} {i : SlotId} (only : ∀ j, j ≠ i → f j = false) :
    (allSlots.filter f).length = if f i then 1 else 0 := by
  have all (b : Bool) (h : f i = b) : allSlots.filter f = allSlots.filter fun j => decide (j = i) && b := by
    refine List.filter_congr fun j _ => ?_
    by_cases e : j = i
    · simp [e, h]
    · simp [e, only j e]
  rw [all _ rfl]
  cases f i
  · simp
  · fin_cases i <;> rfl

/-- A flag that moves twice, and neither leaves to return nor comes to leave. -/
theorem no_return {a b c : Bool} (left : a = true → b = false → c = false)
    (joined : a = false → b = true → c = true) : (c && !a) = ((b && !a) || (c && !b)) ∧
      (a && !c) = ((a && !b) || (b && !c)) := by
  revert a b c
  decide

/-- Claims as they move twice: `t` between `s` and `v`. -/
theorem claimsMoved_trans {s t v : State} (first : t.patterns = claimsMoved s t)
    (second : v.patterns = claimsMoved t v)
    (path : ∀ q i, (claims s q i = true → claims t q i = false → claims v q i = false) ∧
      (claims s q i = false → claims t q i = true → claims v q i = true))
    (order : (∀ q i, claims v q i = true → claims t q i = true) ∨
      (∀ q i, claims s q i = true → claims t q i = true)) : v.patterns = claimsMoved s v := by
  have moves (q : Fin 4) (i : SlotId) := no_return (path q i).1 (path q i).2
  have gains (q : Fin 4) (i : SlotId) := (moves q i).1
  have losses (q : Fin 4) (i : SlotId) := (moves q i).2
  have gained (q : Fin 4) : (allSlots.filter fun i => claims v q i && !claims s q i).length =
      (allSlots.filter fun i => claims t q i && !claims s q i).length +
        (allSlots.filter fun i => claims v q i && !claims t q i).length := by
    simp only [gains, length_filter_or (f := fun i => claims t q i && !claims s q i)
      (g := fun i => claims v q i && !claims t q i) fun i h => by simp_all]
  have lost (q : Fin 4) : (allSlots.filter fun i => claims s q i && !claims v q i).length =
      (allSlots.filter fun i => claims s q i && !claims t q i).length +
        (allSlots.filter fun i => claims t q i && !claims v q i).length := by
    simp only [losses, length_filter_or (f := fun i => claims s q i && !claims t q i)
      (g := fun i => claims t q i && !claims v q i) fun i h => by simp_all]
  have oneWay (q : Fin 4) : (allSlots.filter fun i => claims v q i && !claims t q i).length = 0 ∨
      (allSlots.filter fun i => claims s q i && !claims t q i).length = 0 := by
    simp only [List.length_eq_zero_iff, List.filter_eq_nil_iff]
    exact order.imp (fun kept i _ => by have := kept q i; simp_all)
      (fun kept i _ => by have := kept q i; simp_all)
  rw [second]
  simp only [claimsMoved, gained, lost, first]
  refine congrArg Vector.ofFn (funext fun q => ?_)
  simp only [Vector.getElem_ofFn, Pattern.mk.injEq, true_and, Fin.eta]
  have := oneWay q
  omega

/-- R54: the claims of one slot that changes. -/
theorem claimsMoved_single {s t : State} {i : SlotId} (others : ∀ q j, j ≠ i → claims t q j = claims s q j) :
    claimsMoved s t = Vector.ofFn fun q : Fin 4 => { s.patterns[q.val] with
      inUse := (s.patterns[q.val]).inUse + (if claims t q i && !claims s q i then 1 else 0) -
        (if claims s q i && !claims t q i then 1 else 0) } := by
  have single (q : Fin 4) : (allSlots.filter fun j => claims t q j && !claims s q j).length =
      if claims t q i && !claims s q i then 1 else 0 :=
    length_filter_single fun j hj => by simp [others q j hj]
  have single' (q : Fin 4) : (allSlots.filter fun j => claims s q j && !claims t q j).length =
      if claims s q i && !claims t q i then 1 else 0 :=
    length_filter_single fun j hj => by simp [others q j hj]
  simp only [claimsMoved, single, single']

theorem claimsMoved_of_same {s t : State} (same : ∀ q i, claims t q i = claims s q i) :
    claimsMoved s t = s.patterns := by
  apply Vector.ext
  intro b hb
  simp [claimsMoved, same]

/-- R54, R89: the claim of a slot that leaves its test. -/
theorem claimReleased_eq {s t : State} {i : SlotId} (others : ∀ j, j ≠ i → ∀ q, claims t q j = claims s q j)
    (held : (s.slot i).state.abortable = true) (dropped : (t.slot i).state.abortable = false) :
    claimReleased s i = claimsMoved s t := by
  rw [claimsMoved_single fun q j other => others j other q]
  simp [claimReleased, claims_eq, Slot.claimsPattern, held, dropped]

/-- R54, R91, R95: the claim of a slot that begins its test anew. -/
theorem claimsAdded_eq {s t : State} {i : SlotId} (others : ∀ j, j ≠ i → ∀ q, claims t q j = claims s q j)
    (free : (s.slot i).state.abortable = false) (taken : (t.slot i).state.abortable = true)
    (profile : (t.slot i).profile = (s.slot i).profile) :
    claimsAdded s.patterns (s.slot i).profile.payload 1 = claimsMoved s t := by
  rw [claimsMoved_single fun q j other => others j other q]
  simp [claimsAdded, claims_eq, Slot.claimsPattern, free, taken, profile]

/-! ### The next sweep, and a slot withdrawn from the Scan Queue (R149, R151, R158) -/

/-- What the begin of a sweep can change: the sweep, and the scan result of a slot in the Scan Queue. -/
structure Rescanned (s t : State) : Prop where
  rest : t = { s with slots := t.slots, scanner := { s.scanner with sweep := t.scanner.sweep } }
  scans : ∀ i, t.slot i = { s.slot i with scan := (t.slot i).scan }
  outside : ∀ i, i ∉ s.scanner.queue → t.slot i = s.slot i

theorem modSlot_rescanned {i : SlotId} {s : State} {f : Slot → Slot} (queued : i ∈ s.scanner.queue)
    (scans : ∀ x, f x = { x with scan := (f x).scan }) (sweep : Option Sweep) :
    Rescanned s { s.modSlot i f with scanner := { s.scanner with sweep := sweep } } where
  rest := rfl
  scans j := by
    show (s.modSlot i f).slot j = { s.slot j with scan := ((s.modSlot i f).slot j).scan }
    rw [State.modSlot_slot]
    split
    · rename_i e
      rw [e]
      exact scans _
    · rfl
  outside j free := (State.modSlot_slot s i j f).trans (if_neg fun e => free (by rw [e]; exact queued))

/-- R149, R151: the sweep of a slot in the queue begins. -/
theorem sweepStart_rescanned {i : SlotId} {s : State} (queued : i ∈ s.scanner.queue) :
    Rescanned s (sweepStart i s) := by
  simp only [sweepStart, takeSteps, modSlot_modSlot]
  exact modSlot_rescanned queued (fun x => rfl) _

theorem sweepNext_rescanned (s : State) : Rescanned s (sweepNext s) := by
  unfold sweepNext
  split
  · exact ⟨rfl, fun i => rfl, fun i _ => rfl⟩
  · rename_i i rest queue
    exact sweepStart_rescanned (by rw [queue]; exact List.mem_cons_self)

/-- R158: what the withdrawal of slot `i` from the Scan Queue changes. -/
structure ScanWithdrawn (i : SlotId) (s t : State) : Prop where
  rest : t = { s with slots := t.slots, scanner := t.scanner }
  queue : t.scanner.queue = s.scanner.queue.filter (· ≠ i)
  own : t.slot i = { s.slot i with scan := if i ∈ s.scanner.queue then .empty else (s.slot i).scan }
  others : ∀ j, j ≠ i → t.slot j = { s.slot j with scan := (t.slot j).scan }
  outside : ∀ j, j ≠ i → j ∉ s.scanner.queue → t.slot j = s.slot j

/-- R158: the slot withdrawn, before the next sweep begins. -/
def unqueued (i : SlotId) (s : State) : State := { s.modSlot i fun x => { x with scan := .empty } with
  scanner := { s.scanner with queue := s.scanner.queue.filter (· ≠ i) } }

theorem unqueued_slot (i j : SlotId) (s : State) :
    (unqueued i s).slot j = if j = i then { s.slot i with scan := .empty } else s.slot j :=
  State.modSlot_slot s i j fun x => { x with scan := .empty }

theorem withdrawScan_spec (i : SlotId) (s : State) : ScanWithdrawn i s (withdrawScan i s) := by
  by_cases queued : i ∈ s.scanner.queue
  · have begun : withdrawScan i s = if s.scanner.queue.head? = some i then sweepNext (unqueued i s)
        else unqueued i s := if_pos queued
    have rescanned : Rescanned (unqueued i s) (withdrawScan i s) := by
      rw [begun]
      split
      · exact sweepNext_rescanned _
      · exact ⟨rfl, fun i => rfl, fun i _ => rfl⟩
    obtain ⟨rest, scans, outside⟩ := rescanned
    have queue : (withdrawScan i s).scanner.queue = s.scanner.queue.filter (· ≠ i) := by rw [rest]; rfl
    refine ⟨by rw [rest]; rfl, queue, ?_, fun j other => ?_, fun j other free => ?_⟩
    · rw [outside i (by simp [unqueued]), unqueued_slot, if_pos rfl, if_pos queued]
    · have same := scans j
      rwa [unqueued_slot, if_neg other] at same
    · rw [outside j (by simp [unqueued, free]), unqueued_slot, if_neg other]
  · rw [withdrawScan_of_absent queued]
    refine ⟨rfl, ?_, by rw [if_neg queued], fun _ _ => rfl, fun _ _ _ => rfl⟩
    exact (List.filter_eq_self.2 fun j hj => by
      rw [decide_eq_true_eq]
      exact fun e => queued (e ▸ hj)).symm

/-! ### The sweeps of one event (R154, R155) -/

/-- What the sweeps of one event can change: the slots in the Scan Queue, which leave it in order, and with it
the state SCAN and their claims. -/
structure Swept (s t : State) : Prop where
  rest : t = { s with patterns := t.patterns, slots := t.slots, scanner := t.scanner }
  queue : t.scanner.queue <:+ s.scanner.queue
  outside : ∀ i, i ∉ s.scanner.queue → t.slot i = s.slot i
  waiting : ∀ i, i ∈ t.scanner.queue → (t.slot i).state = (s.slot i).state
  claims : ∀ q i, claims t q i = true → claims s q i = true
  patterns : t.patterns = claimsMoved s t

theorem Swept.refl (s : State) : Swept s s :=
  ⟨rfl, List.suffix_refl _, fun _ _ => rfl, fun _ _ => rfl, fun _ _ h => h,
    (claimsMoved_of_same fun _ _ => rfl).symm⟩

theorem Swept.trans {s t v : State} (first : Swept s t) (second : Swept t v) : Swept s v where
  rest := by
    refine second.rest.trans ?_
    rw [first.rest]
  queue := second.queue.trans first.queue
  outside i free := (second.outside i fun h => free (first.queue.subset h)).trans (first.outside i free)
  waiting i queued := (second.waiting i queued).trans (first.waiting i (second.queue.subset queued))
  claims q i h := first.claims q i (second.claims q i h)
  patterns := by
    refine claimsMoved_trans first.patterns second.patterns (fun q i => ⟨fun _ left => ?_, fun free came => ?_⟩)
      (.inl second.claims)
    · rw [← Bool.not_eq_true] at left ⊢
      exact fun h => left (second.claims q i h)
    · exact absurd (first.claims q i came) (by simp [free])

theorem Rescanned.swept {s t : State} (h : Rescanned s t) : Swept s t := by
  obtain ⟨rest, scans, outside⟩ := h
  have same (q : Fin 4) (i : SlotId) : claims t q i = claims s q i := by
    rw [claims_eq, scans i]
    rfl
  refine ⟨by rw [rest], by rw [rest], outside, fun i _ => by rw [scans i], fun q i h => same q i ▸ h, ?_⟩
  rw [claimsMoved_of_same same, rest]

theorem modSlot_swept {i : SlotId} {s : State} {f : Slot → Slot} (queued : i ∈ s.scanner.queue)
    (state : ∀ x, (f x).state = x.state) (profile : ∀ x, (f x).profile = x.profile) (sweep : Option Sweep) :
    Swept s { s.modSlot i f with scanner := { s.scanner with sweep := sweep } } := by
  have slot (j : SlotId) : (s.modSlot i f).slot j = if j = i then f (s.slot i) else s.slot j :=
    State.modSlot_slot s i j f
  have states (j : SlotId) : ((s.modSlot i f).slot j).state = (s.slot j).state := by
    rw [slot j]
    split
    · rename_i e; rw [state, e]
    · rfl
  have same (q : Fin 4) (j : SlotId) : claims (s.modSlot i f) q j = claims s q j := by
    rw [claims_eq, slot j]
    split
    · rename_i e; rw [e, claims_eq, Slot.claimsPattern, Slot.claimsPattern, state, profile]
    · rfl
  exact ⟨rfl, List.suffix_refl _, fun j free => (slot j).trans (if_neg fun e => free (by rw [e]; exact queued)),
    fun j _ => states j, fun q j h => (same q j).symm.trans h, (claimsMoved_of_same same).symm⟩

/-- R154: the position advances. -/
theorem sweepAdvance_swept {i : SlotId} {s : State} (queued : i ∈ s.scanner.queue) (sw : Sweep) :
    Swept s (sweepAdvance i sw s) := by
  simp only [sweepAdvance, takeSteps, modSlot_modSlot]
  refine modSlot_swept queued ?_ ?_ _
  · exact fun _ => rfl
  · exact fun _ => rfl

/-- R58, R89, R161: the slot as it enters VERDICT. -/
def Slot.judged (x : Slot) : Slot := { x.park with
  state := .verdict, stateTimer := none, finals := x.finalLanes
  outcome := some (composeOutcome x.abortedMark x.findings), verdictPending := true }

theorem claimReleased_of_same {s t : State} {i : SlotId} (patterns : t.patterns = s.patterns)
    (profile : (t.slot i).profile = (s.slot i).profile) : claimReleased t i = claimReleased s i := by
  simp only [claimReleased, patterns, profile]

/-- R54, R89: the entry to VERDICT before the withdrawals. -/
theorem verdictCore_eq (i : SlotId) (s : State) :
    verdictCore i s = { s.modSlot i Slot.judged with patterns := claimReleased s i } := by
  have released : claimReleased (s.modSlot i Slot.judged) i = claimReleased s i :=
    claimReleased_of_same rfl (by rw [State.modSlot_slot, if_pos rfl]; rfl)
  rw [← released]
  exact releaseClaim_eq i (s.modSlot i Slot.judged)

/-- R155: the head of the queue leaves it for VERDICT. -/
theorem leaveQueue_swept {i : SlotId} {rest : List SlotId} {s : State} (queue : s.scanner.queue = i :: rest)
    (inScan : (s.slot i).state = .scan) (once : s.scanner.queue.Nodup) {f : Slot → Slot}
    (verdict : (f (s.slot i)).state = .verdict) : Swept s { s.modSlot i f with
      scanner := ⟨rest, none⟩, patterns := claimReleased s i } := by
  have own : ((s.modSlot i f).slot i).state = .verdict := by rw [State.modSlot_slot, if_pos rfl, verdict]
  have others (j : SlotId) (other : j ≠ i) : (s.modSlot i f).slot j = s.slot j := by
    rw [State.modSlot_slot, if_neg other]
  rw [queue] at once
  have gone : i ∉ rest := (List.nodup_cons.1 once).1
  refine ⟨rfl, ?_, fun j free => others j fun e => free ?_, fun j queued => ?_, fun q j h => ?_,
    claimReleased_eq (t := s.modSlot i f) (fun j other q => ?_) ?_ ?_⟩
  · rw [queue]
    exact List.suffix_cons i rest
  · rw [queue, e]
    exact List.mem_cons_self
  · exact congrArg _ (others j fun e => gone (e ▸ queued))
  · by_cases e : j = i
    · have none : claims (s.modSlot i f) q j = false := by
        rw [e, claims_eq, Slot.claimsPattern, own]
        rfl
      exact absurd (none.symm.trans h) Bool.false_ne_true
    · rw [claims_eq, ← others j e]
      exact h
  · rw [claims_eq, others j other]
    rfl
  · rw [inScan]; rfl
  · rw [own]; rfl

/-- R155: the slot `i` changed by `f` and out of the queue, whose head it was, enters VERDICT. -/
theorem verdictCore_swept {i : SlotId} {rest : List SlotId} {s : State} (queue : s.scanner.queue = i :: rest)
    (inScan : (s.slot i).state = .scan) (once : s.scanner.queue.Nodup) {f : Slot → Slot}
    (profile : ∀ x, (f x).profile = x.profile) : Swept s (verdictCore i { s.modSlot i f with
      scanner := ⟨s.scanner.queue.tail, none⟩ }) := by
  have tail : s.scanner.queue.tail = rest := by rw [queue]; rfl
  have released : claimReleased (s.modSlot i f) i = claimReleased s i :=
    claimReleased_of_same rfl (by rw [State.modSlot_slot, if_pos rfl, profile])
  have left : verdictCore i { s.modSlot i f with scanner := ⟨rest, none⟩ } =
      { s.modSlot i (fun x => (f x).judged) with
        scanner := ⟨rest, none⟩, patterns := claimReleased s i } := by
    rw [verdictCore_eq, ← modSlot_modSlot i f Slot.judged, ← released]
    rfl
  rw [tail, left]
  exact leaveQueue_swept queue inScan once rfl

/-- R155: a sweep completes, and the next begins. -/
theorem sweepComplete_swept {i : SlotId} {rest : List SlotId} {s : State} (queue : s.scanner.queue = i :: rest)
    (inScan : (s.slot i).state = .scan) (once : s.scanner.queue.Nodup) : Swept s (sweepComplete i s) := by
  refine Swept.trans ?_ (sweepNext_rescanned _).swept
  refine verdictCore_swept queue inScan once ?_
  exact fun _ => rfl

/-- R154, R155: the sweeps of one event, from a queue of slots in SCAN. -/
theorem sweepRun_swept (n : Nat) {s : State} (once : s.scanner.queue.Nodup)
    (inScan : ∀ i ∈ s.scanner.queue, (s.slot i).state = .scan) : Swept s (sweepRun n s) := by
  induction n generalizing s with
  | zero => exact .refl s
  | succ n ih =>
    have goesOn {t : State} (step : Swept s t) : Swept s (sweepRun n t) :=
      step.trans (ih (once.sublist step.queue.sublist) fun i queued =>
        (step.waiting i queued).trans (inScan i (step.queue.subset queued)))
    unfold sweepRun
    split
    · rename_i i rest sw queue sweep
      have queued : i ∈ s.scanner.queue := by rw [queue]; exact List.mem_cons_self
      split
      · exact .refl s
      · split
        · exact goesOn (sweepAdvance_swept queued sw)
        · exact goesOn (sweepComplete_swept queue (inScan i queued) once)
    · exact .refl s

end Sys2Proof.Machine
end

section
/-! PROOF. ABORT and RETEST (R36, R37, R93 to R96): slots that leave their tests, and with them both queues, in
one event, and the sweeps that follow (R158). -/

namespace Sys2Proof.Machine

open Sys2Proof Sys2Proof.Safety

/-! ### Slots withdrawn from both queues (R88, R89, R109, R158) -/

/-- What the withdrawal of the slots `xs` from the Sideband Queue and the Scan Queue leaves of everything but
these slots. -/
structure Withdrawn (xs : List SlotId) (s t : State) : Prop where
  rest : SameOutsideTest s t
  others : ∀ j, j ∉ xs → t.slot j = { s.slot j with scan := (t.slot j).scan }
  unqueued : ∀ j, j ∉ xs → j ∉ s.scanner.queue → t.slot j = s.slot j
  queue : t.scanner.queue = s.scanner.queue.filter fun j => decide (j ∉ xs)
  sideband : ∀ e, e ∈ t.sideband.queue ↔ e ∈ s.sideband.queue ∧ ∀ j ∈ xs, e ≠ .discovery j

theorem mem_sidebandWithout {s : State} {i : SlotId} {e : SbEntry} :
    e ∈ (sidebandWithout s (SbEntry.isDiscoveryOf i)).queue ↔
      e ∈ s.sideband.queue ∧ e ≠ .discovery i := by
  rw [Ne, ← SbEntry.isDiscoveryOf_iff, Bool.not_eq_true, ← Bool.not_eq_true']
  exact List.mem_filter

/-- R88, R89: the two withdrawals of one slot. -/
def withdraw (i : SlotId) (s : State) : State := withdrawScan i (withdrawDiscovery i s)

theorem withdraw_spec (i : SlotId) (s : State) :
    ScanWithdrawn i { s with sideband := sidebandWithout s (SbEntry.isDiscoveryOf i) } (withdraw i s) := by
  rw [withdraw, withdrawDiscovery_eq]
  exact withdrawScan_spec i _

theorem withdraw_withdrawn (i : SlotId) (s : State) : Withdrawn [i] s (withdraw i s) := by
  obtain ⟨rest, queue, -, others, outside⟩ := withdraw_spec i s
  refine ⟨?_, fun j other => others j (by simpa using other), fun j other => outside j (by simpa using other),
    ?_, fun e => ?_⟩
  · rw [rest]
    rfl
  · simpa using queue
  · rw [rest]
    simpa using mem_sidebandWithout

theorem withdraw_slot (i : SlotId) (s : State) : (withdraw i s).slot i =
    { s.slot i with scan := if i ∈ s.scanner.queue then .empty else (s.slot i).scan } :=
  (withdraw_spec i s).own

theorem withdraw_patterns (i : SlotId) (s : State) : (withdraw i s).patterns = s.patterns := by
  rw [(withdraw_spec i s).rest]

theorem withdraw_freeCount (i : SlotId) (s : State) : (withdraw i s).freeCount = s.freeCount := by
  rw [(withdraw_spec i s).rest]

/-- What is done to the slot before it is withdrawn. -/
theorem Withdrawn.before {i : SlotId} {s w t : State} (h : Withdrawn [i] w t) (f : Slot → Slot)
    (patterns : Vector Pattern 4) (n : Nat)
    (e : w = { s.modSlot i f with patterns := patterns, freeCount := n }) : Withdrawn [i] s t := by
  have slot (j : SlotId) (other : j ∉ [i]) : w.slot j = s.slot j := by
    rw [e]
    exact (State.modSlot_slot s i j f).trans (if_neg (by simpa using other))
  refine ⟨?_, fun j other => slot j other ▸ h.others j other,
    fun j other free => (h.unqueued j other ?_).trans (slot j other), ?_, ?_⟩
  · refine SameOutsideTest.trans ?_ h.rest
    rw [e]
    rfl
  · rw [e]; exact free
  · rw [h.queue, e]; rfl
  · have := h.sideband
    rw [e] at this
    exact this

/-- What is done to the slot after it is withdrawn. -/
theorem Withdrawn.after {i : SlotId} {s t : State} (h : Withdrawn [i] s t) (f : Slot → Slot)
    (patterns : Vector Pattern 4) : Withdrawn [i] s { t.modSlot i f with patterns := patterns } := by
  have slot (j : SlotId) (other : j ∉ [i]) : (t.modSlot i f).slot j = t.slot j :=
    (State.modSlot_slot t i j f).trans (if_neg (by simpa using other))
  refine ⟨h.rest.trans rfl, fun j other => ?_, fun j other free => (slot j other).trans (h.unqueued j other free),
    h.queue, h.sideband⟩
  have := h.others j other
  rw [← slot j other] at this
  exact this

/-! ### Slots that enter a state, one after another -/

/-- The slots `xs` withdrawn, each from what it was to what `R` allows, and the claims moved. -/
structure Entered (R : State → SlotId → Slot → Slot → Prop) (xs : List SlotId) (s t : State) : Prop
    extends Withdrawn xs s t where
  entered : ∀ i ∈ xs, R s i (s.slot i) (t.slot i)
  patterns : t.patterns = claimsMoved s t

/-- The effect of a command on one slot: what it makes of it, from a state it accepts. -/
structure SlotEntry (op : SlotId → State → State) (R : State → SlotId → Slot → Slot → Prop)
    (accepts : SlotState → Prop) : Prop where
  single : ∀ i s, Placed s i → accepts (s.slot i).state → Entered R [i] s (op i s)
  stable : ∀ s t i x c y, SameOutsideTest s t → (x.state ≠ .scan → c = x.scan) →
    R t i { x with scan := c } y → R s i x y
  oneWay : (∀ s i x y q, R s i x y → y.claimsPattern q = true → x.claimsPattern q = true) ∨
    (∀ s i x y q, R s i x y → x.claimsPattern q = true → y.claimsPattern q = true)

theorem Withdrawn.claims_eq {xs : List SlotId} {s t : State} (h : Withdrawn xs s t) {j : SlotId} (other : j ∉ xs)
    (q : Fin 4) : claims t q j = claims s q j := by
  rw [Machine.claims_eq, h.others j other]
  rfl

theorem Withdrawn.state_eq {xs : List SlotId} {s t : State} (h : Withdrawn xs s t) {j : SlotId} (other : j ∉ xs) :
    (t.slot j).state = (s.slot j).state := by
  rw [h.others j other]

theorem Withdrawn.placed {xs : List SlotId} {s t : State} (h : Withdrawn xs s t) {j : SlotId} (other : j ∉ xs)
    (placed : Placed s j) : Placed t j := by
  obtain ⟨inScan, inDiscover⟩ := placed
  rw [Placed, h.state_eq other, h.queue, ← inScan]
  exact ⟨by simp [other], fun queued => inDiscover ((h.sideband _).1 queued).1⟩

theorem Withdrawn.nil (s : State) : Withdrawn [] s s :=
  ⟨.refl s, fun _ _ => rfl, fun _ _ _ => rfl, by simp, by simp⟩

theorem Withdrawn.cons {a : SlotId} {xs : List SlotId} {s t v : State} (first : Withdrawn [a] s t)
    (later : Withdrawn xs t v) : Withdrawn (a :: xs) s v := by
  have apart {j : SlotId} (other : j ∉ a :: xs) : j ∉ [a] ∧ j ∉ xs := by simpa using other
  refine ⟨first.rest.trans later.rest, fun j other => ?_, fun j other free => ?_, ?_, fun e => ?_⟩
  · have second := later.others j (apart other).2
    rw [first.others j (apart other).1] at second
    exact second
  · refine (later.unqueued j (apart other).2 fun h => free ?_).trans (first.unqueued j (apart other).1 free)
    rw [first.queue] at h
    exact (List.mem_filter.1 h).1
  · rw [later.queue, first.queue, List.filter_filter]
    refine List.filter_congr fun j _ => ?_
    simp [Bool.and_comm]
  · rw [later.sideband, first.sideband]
    simp [and_assoc]

/-- One slot after another, each once. -/
theorem SlotEntry.foldl {op : SlotId → State → State} {R : State → SlotId → Slot → Slot → Prop}
    {accepts : SlotState → Prop} (h : SlotEntry op R accepts) (xs : List SlotId) (once : xs.Nodup) {s : State}
    (placed : ∀ i ∈ xs, Placed s i) (accepted : ∀ i ∈ xs, accepts (s.slot i).state) :
    Entered R xs s (xs.foldl (fun s i => op i s) s) := by
  induction xs generalizing s with
  | nil => exact ⟨.nil s, by simp, (claimsMoved_of_same fun _ _ => rfl).symm⟩
  | cons a xs ih =>
    obtain ⟨fresh, once⟩ := List.nodup_cons.1 once
    have first := h.single a s (placed a List.mem_cons_self) (accepted a List.mem_cons_self)
    have other {j : SlotId} (later : j ∈ xs) : j ∉ [a] := by
      rw [List.mem_singleton]
      exact fun e => fresh (e ▸ later)
    have second := ih once (s := op a s)
      (fun j later => first.placed (other later) (placed j (List.mem_cons_of_mem a later)))
      (fun j later => by
        rw [first.state_eq (other later)]
        exact accepted j (List.mem_cons_of_mem a later))
    rw [List.foldl_cons]
    have own : (xs.foldl (fun s i => op i s) (op a s)).slot a = (op a s).slot a :=
      second.unqueued a fresh (by rw [first.queue]; simp)
    refine ⟨first.toWithdrawn.cons second.toWithdrawn, fun j among => ?_,
      claimsMoved_trans first.patterns second.patterns (fun q j => ?_) ?_⟩
    · rcases List.mem_cons.1 among with rfl | later
      · rw [own]
        exact first.entered j (List.mem_singleton.2 rfl)
      · have entered := second.entered j later
        rw [first.others j (other later)] at entered
        refine h.stable _ _ _ _ _ _ first.rest (fun notScan => ?_) entered
        rw [first.unqueued j (other later) fun queued => notScan ((placed j among).1.1 queued)]
    · by_cases e : j = a
      · have same : claims (xs.foldl (fun s i => op i s) (op a s)) q j = claims (op a s) q j := by
          rw [e, claims_eq, own]
          rfl
        exact ⟨fun _ left => same.trans left, fun _ came => same.trans came⟩
      · have same := first.claims_eq (j := j) (by simpa using e) q
        exact ⟨fun held left => absurd (held.symm.trans (same.symm.trans left)) (by decide),
          fun free came => absurd (free.symm.trans (same.symm.trans came)) (by decide)⟩
    · refine h.oneWay.imp (fun loses q j held => ?_) (fun gains q j held => ?_)
      · by_cases later : j ∈ xs
        · exact loses _ _ _ _ q (second.entered j later) held
        · rwa [← second.claims_eq later]
      · by_cases e : j = a
        · rw [e] at held ⊢
          exact gains _ _ _ _ q (first.entered a (List.mem_singleton.2 rfl)) held
        · rwa [first.claims_eq (by simpa using e)]

/-- R155, R158: the sweeps that follow a withdrawal, and the claims of both. -/
theorem Entered.swept_patterns {R : State → SlotId → Slot → Slot → Prop} {xs : List SlotId} {s t v : State}
    (first : Entered R xs s t) (later : Swept t v) : v.patterns = claimsMoved s v := by
  refine claimsMoved_trans first.patterns later.patterns (fun q j => ⟨fun _ left => ?_, fun free came => ?_⟩)
    (.inl later.claims)
  · rw [← Bool.not_eq_true] at left ⊢
    exact fun held => left (later.claims q j held)
  · have among : j ∈ xs := by
      by_contra other
      exact absurd (free.symm.trans ((first.claims_eq other q).symm.trans came)) (by decide)
    rw [claims_eq, later.outside j (by rw [first.queue]; simp [among])]
    exact came

theorem Withdrawn.sweeps {xs : List SlotId} {s t : State} (h : Withdrawn xs s t) (ok : SlotsOk s) :
    Swept t (sweepSettle t) := by
  obtain ⟨once, inScan, -⟩ := ok
  refine sweepRun_swept _ (by rw [h.queue]; exact once.filter _) fun j queued => ?_
  rw [h.queue, List.mem_filter, decide_eq_true_eq] at queued
  rw [h.state_eq queued.2]
  exact (inScan j).1 queued.1

/-- A sweep that has nothing to do. -/
theorem sweepSettle_of_sweepOk {s : State} (ok : SweepOk s) : sweepSettle s = s := by
  obtain ⟨-, busy, -⟩ := ok
  unfold sweepSettle sweepBound sweepRun
  split
  · rename_i i rest sw queue sweep
    rw [if_pos (busy sw sweep)]
  · rfl

/-! ### The end of the take -/

/-- R22, R42: a taken command leaves the decoder to its answer. -/
theorem countTaken_restored {s v : State} (h : SameOutsideTest (countTaken s) v) :
    countTaken { v with decoder := s.decoder } = v := by
  rw [h]
  rfl

/-- R22, R24: a command of several slots, from its effect `v` on them. -/
theorem takeExamined_slots {n : BlockId} {h : BlockHead} {s v : State} (r : ready s n h) (legal : maskLegal h)
    {act : State → State × Option Answer} {a : Answer} (same : SameOutsideTest (countTaken s) v)
    (acted : act (countTaken s) = (v, some a)) :
    takeCandidate n h.tag (fun s => examine n h.tag [zeroFault h, maskFault h] act s) s =
      settle { v with decoder := answered s n h.tag a } := by
  have passes : firstFault [zeroFault h, maskFault h] = none := by
    rw [maskFaults_eq r.2.2, badMask_eq_false_iff.2 legal]
    rfl
  have answer : answered { v with decoder := s.decoder } n h.tag a = answered s n h.tag a := by
    rw [same]
    rfl
  rw [takeExamined_answered (t := { v with decoder := s.decoder }) r passes
    (by rw [countTaken_restored same, acted]), answer]

theorem claimsMoved_of_slots {s t u : State} (slots : t.slots = u.slots) : claimsMoved s t = claimsMoved s u := by
  unfold claimsMoved claims State.slot
  rw [slots]

/-- What of the part is as it was, once the effect `v` of a command of several slots is settled. -/
theorem settle_slots_frame {s v u : State} (same : SameOutsideTest (countTaken s) v)
    (patterns : v.patterns = claimsMoved s v) {d : Decoder} (taken : u = settle { v with decoder := d }) :
    u = { s with
      patterns := claimsMoved s u, slots := u.slots, sideband := u.sideband, scanner := u.scanner
      freeCount := u.freeCount, decoder := u.decoder
      writer := { s.writer with selection := u.writer.selection, lastSource := u.writer.lastSource }
      attention := { s.attention with
        condition := u.attention.condition, count := u.attention.count
        waiting := u.attention.waiting } } := by
  have moved : claimsMoved s u = v.patterns := by
    rw [taken]
    exact (claimsMoved_of_slots (settle_slots _)).trans patterns.symm
  have slots : u.slots = v.slots := by rw [taken, settle_slots]
  have sideband : u.sideband = v.sideband := by rw [taken, settle_sideband]
  have scanner : u.scanner = v.scanner := by rw [taken, settle_scanner]
  have freeCount : u.freeCount = v.freeCount := by rw [taken, settle_freeCount]
  have decoder : u.decoder = d := by rw [taken, settle_decoder]
  have settled : SameButSettled { v with decoder := d } u := taken ▸ settle_settled _
  refine Eq.trans settled ?_
  rw [moved, slots, sideband, scanner, freeCount, decoder, same]
  rfl

/-- R158: the state once the sweeps that follow the withdrawals of one event are run and settled. -/
def sweptState (t : State) (d : Decoder) : State := settle { sweepSettle t with decoder := d }

theorem sweptState_decoder (t : State) (d : Decoder) : (sweptState t d).decoder = d := settle_decoder _

section
variable {R : State → SlotId → Slot → Slot → Prop} {xs : List SlotId} {s t : State}
  (entered : Entered R xs (countTaken s) t) (ok : SlotsOk s) (d : Decoder)
include entered ok

theorem sweptState_slot {j : SlotId} (out : j ∉ t.scanner.queue) : (sweptState t d).slot j = t.slot j :=
  (settle_slot _ j).trans ((entered.sweeps (s := countTaken s) ok).outside j out)

theorem sweptState_entered {j : SlotId} (among : j ∈ xs) :
    R (countTaken s) j (s.slot j) ((sweptState t d).slot j) := by
  rw [sweptState_slot entered ok d (by rw [entered.queue]; simp [among])]
  exact entered.entered j among

theorem sweptState_other {j : SlotId} (other : j ∉ xs) (notScan : (s.slot j).state ≠ .scan) :
    (sweptState t d).slot j = s.slot j := by
  have out : j ∉ s.scanner.queue := fun queued => notScan ((SlotsOk.placed ok j).1.1 queued)
  rw [sweptState_slot entered ok d (by rw [entered.queue]; exact fun h => out (List.mem_filter.1 h).1)]
  exact entered.unqueued j other out

theorem sweptState_queue {j : SlotId} (among : j ∈ xs) : j ∉ (sweptState t d).scanner.queue := by
  rw [sweptState, settle_scanner]
  intro queued
  have waits := (entered.sweeps (s := countTaken s) ok).queue.subset queued
  rw [entered.queue, List.mem_filter, decide_eq_true_eq] at waits
  exact waits.2 among

theorem sweptState_sideband (e : SbEntry) : e ∈ (sweptState t d).sideband.queue ↔
    e ∈ s.sideband.queue ∧ ∀ j ∈ xs, e ≠ .discovery j := by
  rw [sweptState, settle_sideband]
  show e ∈ (sweepSettle t).sideband.queue ↔ _
  rw [(entered.sweeps (s := countTaken s) ok).rest]
  exact entered.sideband e

theorem sweptState_freeCount : (sweptState t d).freeCount = t.freeCount := by
  rw [sweptState, settle_freeCount]
  show (sweepSettle t).freeCount = t.freeCount
  rw [(entered.sweeps (s := countTaken s) ok).rest]

theorem sweptState_frame : sweptState t d = { s with
    patterns := claimsMoved s (sweptState t d), slots := (sweptState t d).slots
    sideband := (sweptState t d).sideband, scanner := (sweptState t d).scanner
    freeCount := (sweptState t d).freeCount, decoder := (sweptState t d).decoder
    writer := { s.writer with
      selection := (sweptState t d).writer.selection, lastSource := (sweptState t d).writer.lastSource }
    attention := { s.attention with
      condition := (sweptState t d).attention.condition, count := (sweptState t d).attention.count
      waiting := (sweptState t d).attention.waiting } } :=
  settle_slots_frame (entered.rest.trans (sweepSettle_test t))
    (entered.swept_patterns (entered.sweeps (s := countTaken s) ok)) rfl

end

/-! ### ABORT (R36, R93) -/

/-- R89, R93: the slot `x` as an ABORT leaves it. -/
def Aborted (_ : State) (_ : SlotId) (x y : Slot) : Prop := ∃ value, y = { x with
  state := .verdict, stateTimer := none, abortedMark := true, outcome := some .aborted
  findings := addFinding x.findings ⟨.aborted, none, true, value⟩
  finals := x.finalLanes, lanes := parkedLanes x
  confirm := parkedConfirm x, verdictPending := true
  scan := if x.state = .scan then .empty else x.scan }

/-- R93: the slot with the mark and the finding of an ABORT. -/
def Slot.marked (f : Finding) (x : Slot) : Slot := { x with abortedMark := true }.find f

/-- R93: the finding that the next ABORT adds; its value is a free value (log 8). -/
def abortFinding (s : State) : Finding := ⟨.aborted, none, true, (Config.findingValue s.freeCount).toNat⟩

/-- R89, R93: slot `i` judged after an ABORT, before it is withdrawn. -/
def abortJudged (i : SlotId) (s : State) : State :=
  { s.modSlot i (fun x => (x.marked (abortFinding s)).judged) with
    patterns := claimReleased s i, freeCount := s.freeCount + 1 }

theorem abortSlot_eq (i : SlotId) (s : State) : abortSlot i s = withdraw i (abortJudged i s) := by
  have released : claimReleased (s.modSlot i (Slot.marked (abortFinding s))) i = claimReleased s i :=
    claimReleased_of_same rfl (by rw [State.modSlot_slot, if_pos rfl]; rfl)
  have judged : verdictCore i { s.modSlot i (Slot.marked (abortFinding s)) with
      freeCount := s.freeCount + 1 } = abortJudged i s := by
    rw [verdictCore_eq, abortJudged, ← released, ← modSlot_modSlot i (Slot.marked (abortFinding s)) Slot.judged]
    rfl
  exact congrArg (withdraw i) judged

theorem abortJudged_slot (i : SlotId) (s : State) :
    (abortJudged i s).slot i = ((s.slot i).marked (abortFinding s)).judged :=
  (State.modSlot_slot s i i fun x => (x.marked (abortFinding s)).judged).trans (if_pos rfl)

theorem aborted_of_judged {s : State} {i : SlotId} (x : Slot) (f : Finding) {queued : Prop} [Decidable queued]
    (h : queued ↔ x.state = .scan) (shape : ∃ value, f = ⟨.aborted, none, true, value⟩) :
    Aborted s i x { (x.marked f).judged with scan := if queued then .empty else x.scan } := by
  obtain ⟨value, rfl⟩ := shape
  refine ⟨value, ?_⟩
  simp only [h]
  rfl

theorem abortSlot_entered (i : SlotId) (s : State) (placed : Placed s i)
    (accepted : (s.slot i).state.abortable = true) : Entered Aborted [i] s (abortSlot i s) := by
  have withdrawn := (withdraw_withdrawn i (abortJudged i s)).before _ _ _ rfl
  have own := withdraw_slot i (abortJudged i s)
  rw [← abortSlot_eq] at withdrawn own
  rw [abortJudged_slot] at own
  have patterns : (abortSlot i s).patterns = claimReleased s i := by
    rw [abortSlot_eq, withdraw_patterns]
    rfl
  refine ⟨withdrawn, fun j one => ?_, patterns.trans (claimReleased_eq (fun j other q =>
    withdrawn.claims_eq (by simpa using other) q) accepted ?_)⟩
  · rw [List.mem_singleton.1 one, own]
    exact aborted_of_judged _ _ placed.1 ⟨_, rfl⟩
  · rw [own]
    rfl

theorem abort_slotEntry : SlotEntry abortSlot Aborted (·.abortable = true) where
  single := abortSlot_entered
  stable s t i x c y _ kept := by
    rintro ⟨value, rfl⟩
    refine ⟨value, ?_⟩
    by_cases scan : x.state = .scan
    · simp only [if_pos scan]
      rfl
    · simp only [if_neg scan, kept scan]
  oneWay := by
    refine .inl fun s i x y q => ?_
    rintro ⟨value, rfl⟩ held
    cases held

/-- Settles O25: the slots hit leave their tests one after another, and the sweeps follow. -/
theorem abortEndsTheTests : Obligations.AbortEndsTheTests := by
  intro n h s m ok sweepOk r legal hit maskHit
  let slots := (slotsOf h.slotMask).filter fun i => (s.slot i).state.abortable
  have member (i : SlotId) : i ∈ slots ↔ hit i := by
    rw [List.mem_filter, mem_slotsOf, SlotState.abortable_iff]
  let t := slots.foldl (fun s i => abortSlot i s) (countTaken s)
  have acted : actAbort h (countTaken s) = (sweepSettle t, some (affectedAnswer slots)) := rfl
  refine ⟨fun none => ?_, fun ⟨i, isHit⟩ => ?_⟩
  · have empty : slots = [] := List.eq_nil_iff_forall_not_mem.2 fun i => by simp [member, none]
    have idle : sweepSettle (countTaken s) = countTaken s := sweepSettle_of_sweepOk sweepOk
    simp only [t, empty, List.foldl_nil, idle] at acted
    exact congrArg _ (takeExamined_slots r legal (.refl _) acted)
  · have entered : Entered Aborted slots (countTaken s) t :=
      abort_slotEntry.foldl slots ((slotsOf_nodup _).filter _) (fun i _ => SlotsOk.placed ok i)
        fun i hi => (List.mem_filter.1 hi).2
    have taken := takeExamined_slots r legal (entered.rest.trans (sweepSettle_test t)) acted
    rw [affectedAnswer_of_mem ((member i).2 isHit), maskOf_eq (m := m) fun j hj => by
      simp only [maskHit j hj, member]] at taken
    simp only [← member]
    exact ⟨_, congrArg Host.Outcome.next taken, fun j among => sweptState_entered entered ok _ among,
      fun j other notScan => sweptState_other entered ok _ other notScan,
      fun j among => sweptState_queue entered ok _ among, sweptState_sideband entered ok _,
      sweptState_decoder _ _, sweptState_frame entered ok _⟩

end Sys2Proof.Machine
end

section
/-! PROOF. RETEST (R37, R88, R92, R94 to R96): the named slots begin their tests again under their own profile
copies. -/

namespace Sys2Proof.Machine

open Sys2Proof Sys2Proof.Safety

/-! ### One slot (R94 to R96) -/

/-- R92, R94, R95: the slot `x` begun again, with the inputs of `s` for slot `i`. -/
def retestedSlot (s : State) (i : SlotId) (x : Slot) : Slot := { x with
  state := .watch, attempts := 0, tracking := true, present := false, stateTimer := none
  debounceTimer := restartedTimer s x.profile (rawInput s i x.profile.presenceSource)
  abortedMark := false, outcome := none, findings := []
  lanes := parkedCleared x, confirm := parkedConfirm x, scan := .empty }

/-- R94 to R96: what a RETEST makes of the slot `x`. -/
def Retested (s : State) (i : SlotId) (x y : Slot) : Prop :=
  (x.state = .watch → y = { x with attempts := 0 }) ∧ (x.state ≠ .watch → y = retestedSlot s i x)

/-- R88: the slot in WATCH, once it is withdrawn. -/
theorem toWatch_slot (i : SlotId) (s : State) : (toWatch i s).slot i = { (s.slot i).watched with
    scan := if i ∈ s.scanner.queue then .empty else (s.slot i).scan } := by
  have own := withdraw_slot i (s.modSlot i Slot.watched)
  rw [State.modSlot_slot, if_pos rfl] at own
  exact own

theorem toWatch_withdrawn (i : SlotId) (s : State) : Withdrawn [i] s (toWatch i s) :=
  (withdraw_withdrawn i (s.modSlot i Slot.watched)).before Slot.watched s.patterns s.freeCount rfl

theorem toWatch_patterns (i : SlotId) (s : State) : (toWatch i s).patterns = s.patterns :=
  withdraw_patterns i (s.modSlot i Slot.watched)

theorem toWatch_freeCount (i : SlotId) (s : State) : (toWatch i s).freeCount = s.freeCount :=
  withdraw_freeCount i (s.modSlot i Slot.watched)

theorem retestSlot_watch {i : SlotId} {s : State} (watch : (s.slot i).state = .watch) :
    retestSlot i s = s.modSlot i fun x => { x with attempts := 0 } := if_pos watch

/-- R54, R95: the patterns after a RETEST of slot `i`, which takes a claim out of DONE. -/
def retestClaims (i : SlotId) (s : State) : Vector Pattern 4 :=
  if (s.slot i).state = .done then claimsAdded s.patterns (s.slot i).profile.payload 1 else s.patterns

theorem presenceBegun_same {s t : State} (same : SameOutsideTest s t) :
    Slot.presenceBegun t = Slot.presenceBegun s := by
  rw [same]
  rfl

/-- R92, R95: a RETEST of a slot that is not in WATCH. -/
theorem retestSlot_eq {i : SlotId} {s : State} (notWatch : (s.slot i).state ≠ .watch) :
    retestSlot i s = { (toWatch i s).modSlot i (fun x => x.freshRun.presenceBegun s i) with
      patterns := retestClaims i s } := by
  let fresh := (toWatch i s).modSlot i Slot.freshRun
  have profile : (fresh.slot i).profile = (s.slot i).profile := by
    rw [State.modSlot_slot, if_pos rfl, toWatch_slot]
    rfl
  have claimed : (if (s.slot i).state = .done then takeClaim i fresh else fresh) =
      { fresh with patterns := retestClaims i s } := by
    have kept : fresh.patterns = s.patterns := toWatch_patterns i s
    by_cases done : (s.slot i).state = .done
    · rw [retestClaims, if_pos done, if_pos done, takeClaim_eq, profile, kept]
    · rw [retestClaims, if_neg done, if_neg done, ← kept]
  have same : SameOutsideTest s { fresh with patterns := retestClaims i s } :=
    (toWatch_withdrawn i s).rest.trans rfl
  have begun : retestSlot i s = restartPresence i
      (if (s.slot i).state = .done then takeClaim i fresh else fresh) := if_neg notWatch
  rw [begun, claimed, restartPresence_eq, presenceBegun_same same,
    ← modSlot_modSlot i Slot.freshRun (Slot.presenceBegun s i)]
  rfl

theorem retestSlot_freeCount (i : SlotId) (s : State) : (retestSlot i s).freeCount = s.freeCount := by
  by_cases watch : (s.slot i).state = .watch
  · rw [retestSlot_watch watch]
    rfl
  · rw [retestSlot_eq watch]
    exact toWatch_freeCount i s

theorem withdraw_of_absent {i : SlotId} {s : State} (unqueued : i ∉ s.scanner.queue)
    (absent : .discovery i ∉ s.sideband.queue) : withdraw i s = s := by
  rw [withdraw, withdrawDiscovery_of_absent absent, withdrawScan_of_absent unqueued]

theorem SlotState.abortable_of_retestable {st : SlotState} (h : st.retestable = true) (notDone : st ≠ .done) :
    st.abortable = true := by
  obtain ⟨notOff, notVerdict⟩ := SlotState.retestable_iff.1 h
  exact SlotState.abortable_iff.2 ⟨notOff, notVerdict, notDone⟩

/-- The claims where only slot `i` has changed, and its claim has not. -/
theorem Withdrawn.claims_kept {i : SlotId} {s t : State} (h : Withdrawn [i] s t)
    (own : ∀ q, (t.slot i).claimsPattern q = (s.slot i).claimsPattern q) : s.patterns = claimsMoved s t := by
  refine (claimsMoved_of_same fun q j => ?_).symm
  by_cases e : j = i
  · rw [e]
    exact own q
  · exact h.claims_eq (by simpa using e) q

theorem retestSlot_entered_watch {i : SlotId} {s : State} (placed : Placed s i)
    (watch : (s.slot i).state = .watch) : Entered Retested [i] s (retestSlot i s) := by
  obtain ⟨inScan, inDiscover⟩ := placed
  rw [watch] at inScan inDiscover
  have kept : Withdrawn [i] s s := by
    have stays := withdraw_withdrawn i s
    rwa [withdraw_of_absent (fun h => by cases inScan.1 h) (fun h => by cases inDiscover h)] at stays
  have withdrawn := kept.after (fun x => { x with attempts := 0 }) s.patterns
  have own : (s.modSlot i fun x => { x with attempts := 0 }).slot i = { s.slot i with attempts := 0 } :=
    (State.modSlot_slot s i i fun x => { x with attempts := 0 }).trans (if_pos rfl)
  rw [retestSlot_watch watch]
  refine ⟨withdrawn, fun j one => ?_, withdrawn.claims_kept fun q => ?_⟩
  · rw [List.mem_singleton.1 one, own]
    exact ⟨fun _ => rfl, fun h => absurd watch h⟩
  · exact (congrArg (Slot.claimsPattern · q) own).trans rfl

theorem retestSlot_entered (i : SlotId) (s : State) (placed : Placed s i)
    (accepted : (s.slot i).state.retestable = true) : Entered Retested [i] s (retestSlot i s) := by
  by_cases watch : (s.slot i).state = .watch
  · exact retestSlot_entered_watch placed watch
  · have withdrawn := (toWatch_withdrawn i s).after (fun x => x.freshRun.presenceBegun s i) (retestClaims i s)
    have own : ((toWatch i s).modSlot i (fun x => x.freshRun.presenceBegun s i)).slot i =
        retestedSlot s i (s.slot i) := by
      rw [State.modSlot_slot, if_pos rfl, toWatch_slot]
      rfl
    rw [retestSlot_eq watch]
    refine ⟨withdrawn, fun j one => ?_, ?_⟩
    · rw [List.mem_singleton.1 one]
      exact ⟨fun h => absurd h watch, fun _ => own⟩
    · by_cases done : (s.slot i).state = .done
      · rw [retestClaims, if_pos done] at withdrawn ⊢
        refine claimsAdded_eq (fun j other q => withdrawn.claims_eq (by simpa using other) q) ?_ ?_ ?_
        · rw [done]; rfl
        · exact congrArg (·.state.abortable) own
        · exact congrArg (·.profile) own
      · rw [retestClaims, if_neg done] at withdrawn ⊢
        refine withdrawn.claims_kept fun q => (congrArg (Slot.claimsPattern · q) own).trans ?_
        simp only [Slot.claimsPattern, SlotState.abortable_of_retestable accepted done]
        rfl

theorem retestedSlot_same {s t : State} (same : SameOutsideTest s t) (i : SlotId) (x : Slot) (c : ScanResult) :
    retestedSlot t i { x with scan := c } = retestedSlot s i x := by
  rw [same]
  rfl

theorem retest_slotEntry : SlotEntry retestSlot Retested (·.retestable = true) where
  single := retestSlot_entered
  stable s t i x c y same kept := by
    rintro ⟨inWatch, notWatch⟩
    refine ⟨fun watch => ?_, fun other => ?_⟩
    · rw [inWatch watch, kept (by rw [watch]; decide)]
    · rw [notWatch other, retestedSlot_same same]
  oneWay := by
    refine .inr fun s i x y q => ?_
    rintro ⟨inWatch, notWatch⟩ held
    by_cases watch : x.state = .watch
    · rw [inWatch watch]
      exact held
    · rw [notWatch watch]
      exact (Bool.and_eq_true _ _ ▸ held).2

/-! ### The command (R37) -/

theorem foldl_retestSlot_freeCount (xs : List SlotId) (s : State) :
    (xs.foldl (fun s i => retestSlot i s) s).freeCount = s.freeCount := by
  induction xs generalizing s with
  | nil => rfl
  | cons i xs ih => rw [List.foldl_cons, ih, retestSlot_freeCount]

/-- R54, R95: of the named slots, those out of DONE take a claim, and none loses one. -/
theorem Retested.claims {s : State} {i : SlotId} {x y : Slot} (h : Retested s i x y)
    (accepted : x.state.retestable = true) (q : Fin 4) :
    (y.claimsPattern q && !x.claimsPattern q) = decide (x.state = .done ∧ x.profile.payload = .pattern q) ∧
      (x.claimsPattern q && !y.claimsPattern q) = false := by
  obtain ⟨inWatch, notWatch⟩ := h
  by_cases watch : x.state = .watch
  · have same : y.claimsPattern q = x.claimsPattern q := by
      rw [inWatch watch]
      rfl
    simp [same, watch]
  · have begun : y.claimsPattern q = decide (x.profile.payload = .pattern q) := by
      rw [notWatch watch]
      rfl
    by_cases done : x.state = .done
    · have free : x.claimsPattern q = false := by
        rw [Slot.claimsPattern, done]
        rfl
      simp [begun, free, done]
    · have held : x.claimsPattern q = decide (x.profile.payload = .pattern q) := by
        rw [Slot.claimsPattern, SlotState.abortable_of_retestable accepted done, Bool.true_and]
      simp [begun, held, done]

/-- R54, R95: the claims that a RETEST moves where no sweep follows. -/
theorem claimsMoved_retested {mask : BitVec 16} {s u : State}
    (named : ∀ i : SlotId, mask.getLsbD i.val = true →
      Retested s i (s.slot i) (u.slot i) ∧ (s.slot i).state.retestable = true)
    (others : ∀ i : SlotId, mask.getLsbD i.val = false → u.slot i = s.slot i) (q : Fin 4) :
    (claimsMoved s u)[q.val] = { s.patterns[q.val] with inUse := (s.patterns[q.val]).inUse +
      ((slotsOf mask).filter fun i =>
        decide ((s.slot i).state = .done ∧ (s.slot i).profile.payload = .pattern q)).length } := by
  have gained : (allSlots.filter fun i => claims u q i && !claims s q i) =
      (slotsOf mask).filter fun i =>
        decide ((s.slot i).state = .done ∧ (s.slot i).profile.payload = .pattern q) := by
    rw [slotsOf_filter]
    refine List.filter_congr fun i _ => ?_
    cases bit : mask.getLsbD i.val with
    | true =>
      obtain ⟨retested, accepted⟩ := named i bit
      rw [Bool.and_true]
      exact (retested.claims accepted q).1
    | false =>
      rw [Bool.and_false, claims_eq, claims_eq, others i bit]
      exact Bool.and_not_self _
  have lost : (allSlots.filter fun i => claims s q i && !claims u q i) = [] := by
    refine List.filter_eq_nil_iff.2 fun i _ => ?_
    rw [Bool.not_eq_true]
    cases bit : mask.getLsbD i.val with
    | true =>
      obtain ⟨retested, accepted⟩ := named i bit
      exact (retested.claims accepted q).2
    | false =>
      rw [claims_eq, claims_eq, others i bit]
      exact Bool.and_not_self _
  simp [claimsMoved, gained, lost]

/-- Settles O26: the named slots begin again one after another, and the sweeps follow. -/
theorem retestRepeatsTheTests : Obligations.RetestRepeatsTheTests := by
  intro n h s ok sweepOk r legal accepts
  let slots := slotsOf h.slotMask
  let t := slots.foldl (fun s i => retestSlot i s) (countTaken s)
  have accepted (i : SlotId) (named : h.slotMask.getLsbD i.val = true) : (s.slot i).state.retestable = true :=
    SlotState.retestable_iff.2 (accepts i named)
  have acted : actRetest h (countTaken s) = (sweepSettle t, some ⟨.done, 0, h.slotMask.setWidth 32⟩) := by
    have free : slotsNot SlotState.retestable h.slotMask (countTaken s) = [] := slotsNot_eq_nil accepted
    simp only [actRetest, free, conflictAnswer]
    rfl
  have entered : Entered Retested slots (countTaken s) t :=
    retest_slotEntry.foldl slots (slotsOf_nodup _) (fun i _ => SlotsOk.placed ok i)
      fun i among => accepted i (mem_slotsOf.1 among)
  have taken := takeExamined_slots r legal (entered.rest.trans (sweepSettle_test t)) acted
  have named (j : SlotId) (named : h.slotMask.getLsbD j.val = true) := sweptState_entered entered ok
    (answered s n h.tag ⟨.done, 0, h.slotMask.setWidth 32⟩) (mem_slotsOf.2 named)
  have others (j : SlotId) (unnamed : h.slotMask.getLsbD j.val = false) := sweptState_other entered ok
    (answered s n h.tag ⟨.done, 0, h.slotMask.setWidth 32⟩) (j := j) (by simp [slots, mem_slotsOf, unnamed])
  have frame := sweptState_frame entered ok (answered s n h.tag ⟨.done, 0, h.slotMask.setWidth 32⟩)
  refine ⟨_, congrArg Host.Outcome.next taken, named, others, fun noScan q => ?_, fun e => ?_,
    sweptState_decoder _ _, ?_⟩
  · exact (congrArg (fun u => u.patterns[q.val]) frame).trans (claimsMoved_retested
      (fun i bit => ⟨named i bit, accepted i bit⟩) (fun i bit => others i bit (noScan i)) q)
  · simp only [← mem_slotsOf]
    exact sweptState_sideband entered ok _ e
  · rwa [sweptState_freeCount entered ok, show t.freeCount = s.freeCount from
      foldl_retestSlot_freeCount slots (countTaken s)] at frame

end Sys2Proof.Machine
end

section
/-! PROOF. How the slots' states go with the queues, the sweep, the Record Writer and the claims (R54, R78, R85,
R90, R107, R148, R149, R154, R164, R165), clause by clause and slot by slot, and the changes of the state that
keep it. -/

namespace Sys2Proof.Machine

open Sys2Proof Sys2Proof.Safety

/-! ### The clauses -/

/-- R78, R85, R90, R107, R148, R164: slot `i` agrees with the queues and the Record Writer. -/
structure SlotAgrees (s : State) (i : SlotId) : Prop where
  scan     : i ∈ s.scanner.queue ↔ (s.slot i).state = .scan
  once     : s.sideband.queue.count (.discovery i) ≤ 1
  discover : .discovery i ∈ s.sideband.queue → (s.slot i).state = .discover
  pending  : (s.slot i).verdictPending = true → (s.slot i).state = .verdict ∧ ¬ verdictInFlight s i
  inFlight : verdictInFlight s i → (s.slot i).state = .verdict
  attempts : (s.slot i).attempts ≤ 3
  third    : (s.slot i).attempts = 3 → (s.slot i).state = .verdict ∨ (s.slot i).state = .done
  position : ∀ l, ((s.slot i).lane l).position ≠ 0 →
    s.scanner.queue.head? = some i ∧ ((s.slot i).lane l).power = .active
  soaked   : ∀ l, ((s.slot i).lane l).soakRole = true → ((s.slot i).lane l).power = .active

/-- R149, R151: where slot `i` is being swept, its lanes that take part are ACTIVE. -/
def StepsActive (s : State) (i : SlotId) : Prop :=
  s.scanner.queue.head? = some i → ∀ sw, s.scanner.sweep = some sw →
    ∀ l : LaneId, (sw.steps[l.val]).takesPart = true → ((s.slot i).lane l).power = .active

/-- The agreement of every slot, but for the sweep. -/
structure Agree (s : State) : Prop where
  once   : s.scanner.queue.Nodup
  slot   : ∀ i, SlotAgrees s i
  claims : ClaimsOk s

/-- The agreement of every slot and of the sweep, which may still go on within the event. -/
structure Agrees (s : State) : Prop extends Agree s where
  sweep  : s.scanner.sweep = none ↔ s.scanner.queue = []
  active : ∀ i, StepsActive s i

/-- R154: no sweep can go on. -/
def SweepRests (s : State) : Prop := ∀ sw, s.scanner.sweep = some sw → sw.busy = true

/-- R165: a selection's kind is pending. -/
def Selected (s : State) : Prop := ∀ sel, s.writer.selection = some sel → sel.kind ∈ pendingKinds s sel.source

/-- The agreement as it stands before the end of an event. -/
structure Steady (s : State) : Prop extends Agrees s where
  rests : SweepRests s

/-- The agreement between events. -/
structure InStep (s : State) : Prop extends Steady s where
  selected : Selected s

theorem inStep_iff (s : State) : InStep s ↔ SlotsOk s ∧ SweepOk s ∧ ClaimsOk s := by
  constructor
  · intro ok
    have slot := ok.slot
    refine ⟨⟨ok.once, fun i => (slot i).scan, fun i => (slot i).once, fun i => (slot i).discover,
      fun i => (slot i).pending, fun i => (slot i).inFlight, ok.selected,
      fun i => ⟨(slot i).attempts, (slot i).third⟩⟩, ⟨ok.sweep, ok.rests,
      fun i l => ⟨(slot i).position l, (slot i).soaked l⟩, fun i sw head sweep l => ?_⟩, ok.claims⟩
    exact ok.active i head sw sweep l
  · rintro ⟨⟨once, scan, single, discover, pending, inFlight, selected, attempts⟩,
      ⟨sweep, rests, lanes, active⟩, claims⟩
    exact {
      once := once, claims := claims, sweep := sweep, rests := rests, selected := selected
      active := fun i head sw sweep l => active i sw head sweep l
      slot := fun i => ⟨scan i, single i, discover i, pending i, inFlight i, (attempts i).1, (attempts i).2,
        fun l => (lanes i l).1, fun l => (lanes i l).2⟩ }

/-! ### Changes that keep it -/

/-- What of a lane may change where it stands. -/
structure LaneKept (x y : Lane) : Prop where
  position : y.position ≠ 0 → x.position ≠ 0
  soaked   : (x.soakRole = true → x.power = .active) → y.soakRole = true → y.power = .active
  power    : x.power = .active → y.power = .active

theorem LaneKept.refl (x : Lane) : LaneKept x x := ⟨id, id, id⟩

/-- What of a slot may change where it stands, its state and its payload apart. -/
structure BodyKept (x y : Slot) : Prop where
  attempts : y.attempts ≤ x.attempts
  pending  : y.verdictPending = true → x.verdictPending = true
  lanes    : ∀ l, LaneKept (x.lane l) (y.lane l)

/-- What of a slot may change where it stands. -/
structure SlotKept (x y : Slot) : Prop extends BodyKept x y where
  state   : y.state = x.state
  payload : y.profile.payload = x.profile.payload

theorem BodyKept.of_eq {x y : Slot} (attempts : y.attempts = x.attempts)
    (pending : y.verdictPending = x.verdictPending) (lanes : y.lanes = x.lanes) : BodyKept x y where
  attempts := attempts.le
  pending h := pending ▸ h
  lanes l := by
    rw [show y.lane l = x.lane l by simp only [Slot.lane, lanes]]
    exact .refl _

theorem SlotKept.of_eq {x y : Slot} (state : y.state = x.state)
    (payload : y.profile.payload = x.profile.payload) (attempts : y.attempts = x.attempts)
    (pending : y.verdictPending = x.verdictPending) (lanes : y.lanes = x.lanes) : SlotKept x y :=
  ⟨.of_eq attempts pending lanes, state, payload⟩

theorem SlotKept.refl (x : Slot) : SlotKept x x := .of_eq rfl rfl rfl rfl rfl

/-- Slot `i` of `t` has of the queues and the Record Writer no more than it had in `s`. -/
structure PlaceKept (s t : State) (i : SlotId) : Prop where
  scan     : i ∈ t.scanner.queue ↔ i ∈ s.scanner.queue
  head     : s.scanner.queue.head? = some i → t.scanner.queue.head? = some i
  sideband : t.sideband.queue.count (.discovery i) ≤ s.sideband.queue.count (.discovery i)
  inFlight : verdictInFlight t i → verdictInFlight s i

theorem PlaceKept.discovery {s t : State} {i : SlotId} (kept : PlaceKept s t i)
    (h : .discovery i ∈ t.sideband.queue) : .discovery i ∈ s.sideband.queue :=
  List.count_pos_iff.1 ((List.count_pos_iff.2 h).trans_le kept.sideband)

/-- A slot that stands where it stood agrees where its lanes do. -/
theorem SlotAgrees.stays {s t : State} {i : SlotId} (ok : SlotAgrees s i) (place : PlaceKept s t i)
    (state : (t.slot i).state = (s.slot i).state) (attempts : (t.slot i).attempts ≤ (s.slot i).attempts)
    (pending : (t.slot i).verdictPending = true → (s.slot i).verdictPending = true)
    (position : ∀ l, ((t.slot i).lane l).position ≠ 0 →
      t.scanner.queue.head? = some i ∧ ((t.slot i).lane l).power = .active)
    (soaked : ∀ l, ((t.slot i).lane l).soakRole = true → ((t.slot i).lane l).power = .active) :
    SlotAgrees t i where
  scan := by rw [place.scan, state]; exact ok.scan
  once := place.sideband.trans ok.once
  discover h := state.trans (ok.discover (place.discovery h))
  pending h := by
    obtain ⟨verdict, free⟩ := ok.pending (pending h)
    exact ⟨state.trans verdict, fun held => free (place.inFlight held)⟩
  inFlight h := state.trans (ok.inFlight (place.inFlight h))
  attempts := attempts.trans ok.attempts
  third h := by
    rw [state]
    exact ok.third (le_antisymm ok.attempts (h ▸ attempts))
  position := position
  soaked := soaked

theorem SlotAgrees.kept {s t : State} {i : SlotId} (ok : SlotAgrees s i) (place : PlaceKept s t i)
    (body : SlotKept (s.slot i) (t.slot i)) : SlotAgrees t i := by
  refine ok.stays place body.state body.attempts body.pending (fun l h => ?_)
    fun l => (body.lanes l).soaked (ok.soaked l)
  obtain ⟨head, power⟩ := ok.position l ((body.lanes l).position h)
  exact ⟨place.head head, (body.lanes l).power power⟩

/-- The queues and the Record Writer hold of every slot no more than they did, the sweep is the same and each
slot stands as it stood. -/
structure Keeps (s t : State) : Prop where
  scanner  : t.scanner = s.scanner
  sideband : ∀ i, t.sideband.queue.count (.discovery i) ≤ s.sideband.queue.count (.discovery i)
  inFlight : ∀ i, verdictInFlight t i → verdictInFlight s i
  inUse    : ∀ n : Fin 4, (t.patterns[n.val]).inUse = (s.patterns[n.val]).inUse
  slot     : ∀ i, SlotKept (s.slot i) (t.slot i)

theorem SlotKept.claims {s t : State} {i : SlotId} (kept : SlotKept (s.slot i) (t.slot i)) (n : Fin 4) :
    claims t n i = claims s n i := by
  rw [claims_eq, claims_eq, Slot.claimsPattern, Slot.claimsPattern, kept.state, kept.payload]

theorem Keeps.place {s t : State} (kept : Keeps s t) (i : SlotId) : PlaceKept s t i :=
  ⟨by rw [kept.scanner], by rw [kept.scanner]; exact id, kept.sideband i, kept.inFlight i⟩

theorem Agree.keeps {s t : State} (ok : Agree s) (kept : Keeps s t) : Agree t where
  once := by rw [kept.scanner]; exact ok.once
  slot i := (ok.slot i).kept (kept.place i) (kept.slot i)
  claims n := by
    have same : Safety.claims t n = Safety.claims s n := funext fun i => (kept.slot i).claims n
    rw [kept.inUse n, same]
    exact ok.claims n

theorem StepsActive.kept {s t : State} {i : SlotId} (ok : StepsActive s i) (scanner : t.scanner = s.scanner)
    (lanes : ∀ l, LaneKept ((s.slot i).lane l) ((t.slot i).lane l)) : StepsActive t i := by
  rw [StepsActive, scanner]
  exact fun head sw sweep l part => (lanes l).power (ok head sw sweep l part)

theorem Agrees.keeps {s t : State} (ok : Agrees s) (kept : Keeps s t) : Agrees t where
  toAgree := ok.toAgree.keeps kept
  sweep := by rw [kept.scanner]; exact ok.sweep
  active i := (ok.active i).kept kept.scanner (kept.slot i).lanes

theorem SweepRests.of_scanner {s t : State} (ok : SweepRests s) (scanner : t.scanner = s.scanner) :
    SweepRests t := by
  rw [SweepRests, scanner]
  exact ok

theorem Steady.keeps {s t : State} (ok : Steady s) (kept : Keeps s t) : Steady t :=
  ⟨ok.toAgrees.keeps kept, ok.rests.of_scanner kept.scanner⟩

/-- A change that keeps the agreement, the selection and what is pending. -/
structure Quiet (s t : State) : Prop extends Keeps s t where
  selection : t.writer.selection = s.writer.selection
  pending   : ∀ src, pendingKinds t src = pendingKinds s src

theorem InStep.quiet {s t : State} (ok : InStep s) (kept : Quiet s t) : InStep t where
  toSteady := ok.toSteady.keeps kept.toKeeps
  selected sel h := by
    rw [kept.pending]
    exact ok.selected sel (kept.selection ▸ h)

/-- A change outside the slots, the queues, the sweep, the record in flight and the claims. -/
structure Apart (s t : State) : Prop where
  scanner  : t.scanner = s.scanner
  sideband : t.sideband.queue = s.sideband.queue
  inFlight : t.writer.inFlight = s.writer.inFlight
  patterns : t.patterns = s.patterns
  slots    : t.slots = s.slots

theorem Apart.slot {s t : State} (h : Apart s t) (i : SlotId) : t.slot i = s.slot i := by
  simp only [State.slot, h.slots]

theorem Apart.keeps {s t : State} (h : Apart s t) : Keeps s t where
  scanner := h.scanner
  sideband i := by rw [h.sideband]
  inFlight i := by rw [verdictInFlight, h.inFlight]; exact id
  inUse n := by rw [h.patterns]
  slot i := by rw [h.slot i]; exact .refl _

theorem Apart.pendingKinds {s t : State} (h : Apart s t) (status : t.decoder.statusPending = s.decoder.statusPending)
    (src : RecSource) : pendingKinds t src = pendingKinds s src := by
  cases src with
  | slot i => exact congrArg Slot.pendingKinds (h.slot i)
  | status => simp only [Machine.pendingKinds, status]

theorem Apart.quiet {s t : State} (h : Apart s t) (selection : t.writer.selection = s.writer.selection)
    (status : t.decoder.statusPending = s.decoder.statusPending) : Quiet s t :=
  ⟨h.keeps, selection, h.pendingKinds status⟩

theorem modSlot_keeps {s : State} {i : SlotId} {f : Slot → Slot} (kept : SlotKept (s.slot i) (f (s.slot i))) :
    Keeps s (s.modSlot i f) where
  scanner := rfl
  sideband _ := le_rfl
  inFlight _ := id
  inUse _ := rfl
  slot j := by
    rw [State.modSlot_slot]
    split
    · rename_i e
      rw [e]
      exact kept
    · exact .refl _

/-- R54: the in-use counts after claims have moved. -/
theorem claimsOk_moved {s t : State} (ok : ClaimsOk s) (patterns : t.patterns = claimsMoved s t) :
    ClaimsOk t := by
  intro n
  have balance : (allSlots.filter (claims t n)).length +
        (allSlots.filter fun i => claims s n i && !claims t n i).length =
      (allSlots.filter (claims s n)).length + (allSlots.filter fun i => claims t n i && !claims s n i).length := by
    rw [← length_filter_or (fun i h => by simp [h]), ← length_filter_or (fun i h => by simp [h])]
    refine congrArg List.length (List.filter_congr fun i _ => ?_)
    cases claims s n i <;> cases claims t n i <;> rfl
  have counted : (t.patterns[n.val]).inUse = ((claimsMoved s t)[n.val]).inUse := by rw [← patterns]
  rw [counted]
  simp only [claimsMoved, Vector.getElem_ofFn, Fin.eta, ok n]
  omega

/-! ### The end of an event -/

theorem settle_keeps (s : State) : Keeps s (settle s) :=
  Apart.keeps ⟨settle_scanner s, by rw [settle_sideband], by rw [settle_settled s], settle_patterns s, settle_slots s⟩

theorem dropStale_selected (s : State) : Selected (dropStale s) := by
  unfold dropStale
  split
  · rename_i none
    exact fun sel held => by rw [none] at held; cases held
  · rename_i sel held
    split
    · rename_i pending
      exact fun other h => by rw [held] at h; cases h; exact pending
    · exact fun other h => by cases h

theorem select_selected {s : State} (ok : Selected s) : Selected (select s) := by
  unfold select
  split
  · split
    · exact ok
    · rename_i src kind chosen
      intro sel h
      cases h
      obtain ⟨at_, -, found⟩ := List.exists_of_findSome?_eq_some chosen
      obtain ⟨k, head, e⟩ := Option.map_eq_some_iff.1 found
      cases e
      exact List.mem_of_mem_head? head
  · exact ok

theorem evaluate_apart (s : State) : Apart s (evaluate s) := by
  rw [evaluate_frame]
  exact ⟨rfl, rfl, rfl, rfl, rfl⟩

theorem evaluate_quiet (s : State) : Quiet s (evaluate s) :=
  (evaluate_apart s).quiet (by rw [evaluate_frame]) (by rw [evaluate_frame])

theorem settle_selected (s : State) : Selected (settle s) := by
  have ok := select_selected (dropStale_selected s)
  intro sel h
  have kept := evaluate_quiet (select (dropStale s))
  rw [settle, kept.pending]
  exact ok sel (kept.selection ▸ h)

/-- The end of an event restores the agreement between events. -/
theorem Steady.settled {s : State} (ok : Steady s) : InStep (settle s) :=
  ⟨ok.keeps (settle_keeps s), settle_selected s⟩

end Sys2Proof.Machine
end

section
/-! PROOF. The agreement of the slots through the sweeps of one event and the withdrawals from both queues (R88,
R89, R148 to R158). -/

namespace Sys2Proof.Machine

open Sys2Proof Sys2Proof.Safety

/-! ### The next sweep (R149, R151) -/

theorem Agree.rescanned {s t : State} (ok : Agree s) (h : Rescanned s t) : Agree t := by
  obtain ⟨rest, scans, -⟩ := id h
  have queue : t.scanner.queue = s.scanner.queue := by rw [rest]
  refine ⟨by rw [queue]; exact ok.once, fun i => ?_, claimsOk_moved ok.claims h.swept.patterns⟩
  refine (ok.slot i).kept ⟨by rw [queue], by rw [queue]; exact id, by rw [rest], ?_⟩ ?_
  · rw [rest]
    exact id
  · rw [scans i]
    exact .of_eq rfl rfl rfl rfl rfl

theorem takesPart_stepOf {steps : Vector StepState 4} {x : LaneId → Lane} {l : LaneId}
    (h : ((byLane fun l => if (steps[l.val]).takesPart then stepOf (x l) else steps[l.val])[l.val]).takesPart
      = true) : (steps[l.val]).takesPart = true := by
  rw [byLane_getElem] at h
  split at h
  · assumption
  · exact h

/-- R149, R151: a lane that takes part in a sweep from its begin has the soak role. -/
theorem sweepStart_steps {i : SlotId} {s : State} {sw : Sweep} (sweep : (sweepStart i s).scanner.sweep = some sw)
    {l : LaneId} (part : (sw.steps[l.val]).takesPart = true) : ((s.slot i).lane l).soakRole = true := by
  cases sweep
  have scanned := takesPart_stepOf part
  rw [byLane_getElem] at scanned
  by_contra h
  rw [if_neg h] at scanned
  cases scanned

theorem sweepNext_of_nil {s : State} (queue : s.scanner.queue = []) :
    sweepNext s = { s with scanner := { s.scanner with sweep := none } } := by
  unfold sweepNext
  rw [queue]

theorem sweepNext_of_cons {s : State} {i : SlotId} {rest : List SlotId} (queue : s.scanner.queue = i :: rest) :
    sweepNext s = sweepStart i s := by
  unfold sweepNext
  rw [queue]

/-- R149: the begin of the next sweep restores the agreement of the sweep. -/
theorem Agree.sweepNext {s : State} (ok : Agree s) : Agrees (sweepNext s) := by
  refine ⟨ok.rescanned (sweepNext_rescanned s), ?_, fun j head sw sweep l part => ?_⟩
  · cases queue : s.scanner.queue with
    | nil =>
      rw [sweepNext_of_nil queue]
      exact iff_of_true rfl queue
    | cons i rest =>
      rw [sweepNext_of_cons queue]
      refine iff_of_false (fun none => by cases none) fun empty => ?_
      cases queue.symm.trans empty
  · cases queue : s.scanner.queue with
    | nil =>
      rw [sweepNext_of_nil queue] at sweep
      cases sweep
    | cons i rest =>
      rw [sweepNext_of_cons queue] at head sweep ⊢
      obtain rfl : i = j := by
        have front : s.scanner.queue.head? = some j := head
        simpa [queue] using front
      have queued : i ∈ s.scanner.queue := by rw [queue]; exact List.mem_cons_self
      rw [(sweepStart_rescanned queued).scans i]
      exact (ok.slot i).soaked l (sweepStart_steps sweep part)

/-! ### Slots that leave both queues (R88, R89) -/

/-- What of slot `i` agrees while it is withdrawn from the queues. -/
structure Leaving (s : State) (i : SlotId) : Prop where
  notScan  : (s.slot i).state ≠ .scan
  pending  : (s.slot i).verdictPending = true → (s.slot i).state = .verdict ∧ ¬ verdictInFlight s i
  inFlight : verdictInFlight s i → (s.slot i).state = .verdict
  attempts : (s.slot i).attempts ≤ 3
  third    : (s.slot i).attempts = 3 → (s.slot i).state = .verdict ∨ (s.slot i).state = .done
  position : ∀ l, ((s.slot i).lane l).position = 0
  soaked   : ∀ l, ((s.slot i).lane l).soakRole = true → ((s.slot i).lane l).power = .active

theorem Leaving.agrees {s : State} {i : SlotId} (ok : Leaving s i) (unqueued : i ∉ s.scanner.queue)
    (absent : .discovery i ∉ s.sideband.queue) : SlotAgrees s i where
  scan := iff_of_false unqueued ok.notScan
  once := by rw [List.count_eq_zero.2 absent]; exact Nat.zero_le 1
  discover h := absurd h absent
  pending := ok.pending
  inFlight := ok.inFlight
  attempts := ok.attempts
  third := ok.third
  position l h := absurd (ok.position l) h
  soaked := ok.soaked

/-- The agreement of every slot but `i`, which is about to be withdrawn from the queues. -/
structure AgreeBut (s : State) (i : SlotId) : Prop where
  once    : s.scanner.queue.Nodup
  others  : ∀ j, j ≠ i → SlotAgrees s j
  leaving : Leaving s i
  claims  : ClaimsOk s
  sweep   : s.scanner.sweep = none ↔ s.scanner.queue = []
  active  : ∀ j, j ≠ i → StepsActive s j

theorem count_sidebandWithout (s : State) (gone : SbEntry → Bool) (e : SbEntry) :
    (sidebandWithout s gone).queue.count e ≤ s.sideband.queue.count e :=
  List.filter_sublist.count_le e

theorem AgreeBut.withdrawDiscovery {s : State} {i : SlotId} (ok : AgreeBut s i) :
    AgreeBut { s with sideband := sidebandWithout s (SbEntry.isDiscoveryOf i) } i where
  once := ok.once
  others j other := (ok.others j other).kept ⟨.rfl, id, count_sidebandWithout s _ _, id⟩ (.refl _)
  leaving := ⟨ok.leaving.notScan, ok.leaving.pending, ok.leaving.inFlight, ok.leaving.attempts,
    ok.leaving.third, ok.leaving.position, ok.leaving.soaked⟩
  claims := ok.claims
  sweep := ok.sweep
  active := ok.active

theorem unqueued_slot_of_ne {i j : SlotId} (other : j ≠ i) (s : State) : (unqueued i s).slot j = s.slot j :=
  (unqueued_slot i j s).trans (if_neg other)

theorem mem_unqueued {i j : SlotId} {s : State} :
    j ∈ (unqueued i s).scanner.queue ↔ j ∈ s.scanner.queue ∧ j ≠ i := by
  simp [unqueued]

theorem AgreeBut.unqueued {s : State} {i : SlotId} (ok : AgreeBut s i)
    (absent : .discovery i ∉ s.sideband.queue) : Agree (unqueued i s) where
  once := ok.once.filter _
  slot j := by
    by_cases other : j = i
    · subst other
      have own := unqueued_slot j j s
      rw [if_pos rfl] at own
      refine Leaving.agrees ?_ (fun h => (mem_unqueued.1 h).2 rfl) absent
      refine ⟨?_, ?_, ?_, ?_, ?_, ?_, ?_⟩
      all_goals rw [own]
      exacts [ok.leaving.notScan, ok.leaving.pending, ok.leaving.inFlight, ok.leaving.attempts,
        ok.leaving.third, ok.leaving.position, ok.leaving.soaked]
    · refine (ok.others j other).kept ⟨?_, fun head => ?_, le_rfl, id⟩ ?_
      · rw [mem_unqueued, and_iff_left other]
      · obtain ⟨rest, queue⟩ := List.head?_eq_some_iff.1 head
        simp [Machine.unqueued, queue, other]
      · rw [unqueued_slot_of_ne other]
        exact .refl _
  claims n := by
    refine (ok.claims n).trans (congrArg List.length (List.filter_congr fun j _ => ?_))
    rw [claims_eq, claims_eq, unqueued_slot]
    split
    · rename_i e
      rw [e]
      rfl
    · rfl

/-- R158: a slot behind the head leaves the Scan Queue, and the sweep goes on. -/
theorem AgreeBut.unqueued_behind {s : State} {i a : SlotId} {rest : List SlotId} (ok : AgreeBut s i)
    (absent : .discovery i ∉ s.sideband.queue) (queue : s.scanner.queue = a :: rest) (other : a ≠ i) :
    Agrees (Machine.unqueued i s) := by
  have left : (Machine.unqueued i s).scanner.queue = a :: rest.filter (· ≠ i) := by
    simp [Machine.unqueued, queue, other]
  refine ⟨ok.unqueued absent, iff_of_false (fun none => ?_) (by rw [left]; exact List.cons_ne_nil _ _),
    fun j head sw sweep l part => ?_⟩
  · exact List.cons_ne_nil a rest (queue.symm.trans (ok.sweep.1 none))
  · obtain rfl : a = j := by simpa [left] using head
    rw [unqueued_slot_of_ne other]
    exact ok.active a other (by rw [queue]; rfl) sw sweep l part

/-- R158: a slot withdrawn from the Scan Queue, and the next sweep begun where it was the head. -/
theorem AgreeBut.withdrawScan {s : State} {i : SlotId} (ok : AgreeBut s i)
    (absent : .discovery i ∉ s.sideband.queue) : Agrees (withdrawScan i s) := by
  by_cases queued : i ∈ s.scanner.queue
  · have begun : Machine.withdrawScan i s = if s.scanner.queue.head? = some i then
        sweepNext (Machine.unqueued i s) else Machine.unqueued i s := if_pos queued
    rw [begun]
    split
    · exact (ok.unqueued absent).sweepNext
    · rename_i behind
      cases queue : s.scanner.queue with
      | nil => rw [queue] at queued; cases queued
      | cons a rest =>
        refine ok.unqueued_behind absent queue fun e => behind ?_
        rw [queue, e]
        rfl
  · rw [withdrawScan_of_absent queued]
    refine ⟨⟨ok.once, fun j => ?_, ok.claims⟩, ok.sweep, fun j => ?_⟩
    · by_cases e : j = i
      · rw [e]
        exact ok.leaving.agrees queued absent
      · exact ok.others j e
    · by_cases e : j = i
      · rw [e]
        exact fun head => absurd (List.mem_of_mem_head? head) queued
      · exact ok.active j e

/-- R88, R89: a slot withdrawn from both queues. -/
theorem AgreeBut.withdraw {s : State} {i : SlotId} (ok : AgreeBut s i) : Agrees (withdraw i s) := by
  rw [Machine.withdraw, withdrawDiscovery_eq]
  exact ok.withdrawDiscovery.withdrawScan fun h => (mem_sidebandWithout.1 h).2 rfl

/-! ### Entry to VERDICT and to WATCH (R58, R88, R89) -/

theorem park_position {x : Lane} (active : x.position ≠ 0 → x.power = .active) : x.park.position = 0 := by
  unfold Lane.park
  split
  · rename_i parked
    by_contra moved
    cases parked.symm.trans (active moved)
  · rfl

theorem park_soakRole {x : Lane} (active : x.soakRole = true → x.power = .active) : x.park.soakRole = false := by
  unfold Lane.park
  split
  · rename_i parked
    by_contra soaked
    cases parked.symm.trans (active (by simpa using soaked))
  · rfl

theorem Slot.park_lane (x : Slot) (l : LaneId) : x.park.lane l = (x.lane l).park :=
  byLane_getElem (fun l => (x.lane l).park) l

/-- R58: slot `i` agrees, its lanes parked. -/
theorem leaving_of_parked {s t : State} {i : SlotId} (ok : SlotAgrees s i)
    (lanes : ∀ l, ∃ x : Lane, LaneKept ((s.slot i).lane l) x ∧ (t.slot i).lane l = x.park)
    (notScan : (t.slot i).state ≠ .scan)
    (pending : (t.slot i).verdictPending = true → (t.slot i).state = .verdict ∧ ¬ verdictInFlight t i)
    (inFlight : verdictInFlight t i → (t.slot i).state = .verdict) (attempts : (t.slot i).attempts ≤ 3)
    (third : (t.slot i).attempts = 3 → (t.slot i).state = .verdict ∨ (t.slot i).state = .done) : Leaving t i := by
  refine ⟨notScan, pending, inFlight, attempts, third, fun l => ?_, fun l soaked => ?_⟩
  · obtain ⟨x, kept, parked⟩ := lanes l
    rw [parked]
    exact park_position fun h => kept.power (ok.position l (kept.position h)).2
  · obtain ⟨x, kept, parked⟩ := lanes l
    rw [parked, park_soakRole (kept.soaked (ok.soaked l))] at soaked
    cases soaked

/-- A change of slot `i` alone, which is about to be withdrawn. -/
theorem agreeBut_of_slot {s t : State} {i : SlotId} (ok : Agrees s) (others : ∀ j, j ≠ i → t.slot j = s.slot j)
    (leaving : Leaving t i) (claims : ClaimsOk t) (scanner : t.scanner = s.scanner)
    (sideband : t.sideband = s.sideband) (inFlight : t.writer.inFlight = s.writer.inFlight) : AgreeBut t i where
  once := by rw [scanner]; exact ok.once
  others j other := by
    refine (ok.slot j).kept ⟨by rw [scanner], by rw [scanner]; exact id, by rw [sideband], ?_⟩ ?_
    · rw [verdictInFlight, inFlight]
      exact id
    · rw [others j other]
      exact .refl _
  leaving := leaving
  claims := claims
  sweep := by rw [scanner]; exact ok.sweep
  active j other := (ok.active j).kept scanner fun l => by rw [others j other]; exact .refl _

/-- R54, R89: slot `i`, changed by `f`, in VERDICT, before it is withdrawn. -/
def verdictOf (i : SlotId) (f : Slot → Slot) (s : State) : State :=
  { s.modSlot i (fun x => (f x).judged) with patterns := claimReleased s i }

theorem toVerdict_modSlot {i : SlotId} {f : Slot → Slot} {s : State}
    (profile : (f (s.slot i)).profile = (s.slot i).profile) :
    toVerdict i (s.modSlot i f) = withdraw i (verdictOf i f s) := by
  have released : claimReleased (s.modSlot i f) i = claimReleased s i :=
    claimReleased_of_same rfl (by rw [State.modSlot_slot, if_pos rfl, profile])
  have entered : verdictCore i (s.modSlot i f) = verdictOf i f s := by
    rw [verdictCore_eq, modSlot_modSlot, released]
    rfl
  exact congrArg (withdraw i) entered

theorem verdictOf_slot (i : SlotId) (f : Slot → Slot) (s : State) :
    (verdictOf i f s).slot i = (f (s.slot i)).judged :=
  (State.modSlot_slot s i i fun x => (f x).judged).trans (if_pos rfl)

theorem verdictOf_slot_of_ne {i j : SlotId} (other : j ≠ i) (f : Slot → Slot) (s : State) :
    (verdictOf i f s).slot j = s.slot j :=
  (State.modSlot_slot s i j fun x => (f x).judged).trans (if_neg other)

/-- R54, R89: the claim that an entry to VERDICT releases. -/
theorem verdictOf_patterns {i : SlotId} {f : Slot → Slot} {s : State} (held : (s.slot i).state.abortable = true) :
    (verdictOf i f s).patterns = claimsMoved s (verdictOf i f s) := by
  refine claimReleased_eq (fun j other q => ?_) held ?_
  · rw [claims_eq, verdictOf_slot_of_ne other]
    rfl
  · rw [verdictOf_slot]
    rfl

theorem verdictOf_leaving {i : SlotId} {f : Slot → Slot} {s t : State} (ok : SlotAgrees s i)
    (own : t.slot i = (f (s.slot i)).judged) (inFlight : t.writer.inFlight = s.writer.inFlight)
    (held : (s.slot i).state.abortable = true) (attempts : (f (s.slot i)).attempts ≤ 3)
    (lanes : ∀ l, LaneKept ((s.slot i).lane l) ((f (s.slot i)).lane l)) : Leaving t i := by
  have state : (t.slot i).state = .verdict := by rw [own]; rfl
  have free : ¬ verdictInFlight t i := by
    rw [verdictInFlight, inFlight]
    intro h
    rw [ok.inFlight h] at held
    cases held
  refine leaving_of_parked ok (fun l => ⟨_, lanes l, ?_⟩) (by rw [state]; decide) (fun _ => ⟨state, free⟩)
    (fun _ => state) ?_ fun _ => .inl state
  · rw [own]
    exact Slot.park_lane _ l
  · rw [own]
    exact attempts

/-- R89: slot `i`, in a test and changed by `f`, enters VERDICT. -/
theorem Agrees.toVerdict {s : State} {i : SlotId} {f : Slot → Slot} (ok : Agrees s)
    (held : (s.slot i).state.abortable = true) (profile : (f (s.slot i)).profile = (s.slot i).profile)
    (attempts : (f (s.slot i)).attempts ≤ 3)
    (lanes : ∀ l, LaneKept ((s.slot i).lane l) ((f (s.slot i)).lane l)) :
    Agrees (toVerdict i (s.modSlot i f)) := by
  rw [toVerdict_modSlot profile]
  refine (agreeBut_of_slot ok (fun j other => verdictOf_slot_of_ne other f s) ?_ ?_ rfl rfl rfl).withdraw
  · exact verdictOf_leaving (ok.slot i) (verdictOf_slot i f s) rfl held attempts lanes
  · exact claimsOk_moved ok.claims (verdictOf_patterns held)

/-- R54: a slot that stays in its test keeps its claim. -/
theorem claimsPattern_of_held {x y : Slot} (before : x.state.abortable = true) (after : y.state.abortable = true)
    (payload : y.profile.payload = x.profile.payload) (q : Fin 4) : y.claimsPattern q = x.claimsPattern q := by
  rw [Slot.claimsPattern, Slot.claimsPattern, before, after, payload]

/-- R88: slot `i`, in a test and changed by `f`, enters WATCH. -/
theorem Agrees.toWatch {s : State} {i : SlotId} {f : Slot → Slot} (ok : Agrees s)
    (held : (s.slot i).state.abortable = true) (profile : (f (s.slot i)).profile = (s.slot i).profile)
    (attempts : (f (s.slot i)).attempts < 3)
    (pending : (f (s.slot i)).verdictPending = (s.slot i).verdictPending)
    (lanes : ∀ l, LaneKept ((s.slot i).lane l) ((f (s.slot i)).lane l)) :
    Agrees (toWatch i (s.modSlot i f)) := by
  have begun : Machine.toWatch i (s.modSlot i f) = Machine.withdraw i (s.modSlot i fun x => (f x).watched) :=
    congrArg (Machine.withdraw i) (modSlot_modSlot i f Slot.watched s)
  have own : (s.modSlot i fun x => (f x).watched).slot i = (f (s.slot i)).watched :=
    (State.modSlot_slot s i i _).trans (if_pos rfl)
  have others (j : SlotId) (other : j ≠ i) : (s.modSlot i fun x => (f x).watched).slot j = s.slot j :=
    (State.modSlot_slot s i j _).trans (if_neg other)
  have notVerdict : (s.slot i).state ≠ .verdict := fun e => by rw [e] at held; cases held
  rw [begun]
  refine (agreeBut_of_slot ok others (leaving_of_parked (ok.slot i) (fun l => ⟨_, lanes l, ?_⟩)
    ?_ (fun h => ?_) (fun h => ?_) ?_ fun h => ?_) ?_ rfl rfl rfl).withdraw
  · rw [own]
    exact Slot.park_lane _ l
  · rw [own]
    exact SlotState.noConfusion
  · rw [own] at h
    exact absurd ((ok.slot i).pending (pending ▸ h)).1 notVerdict
  · exact absurd ((ok.slot i).inFlight h) notVerdict
  · rw [own]
    exact attempts.le
  · rw [own] at h
    exact absurd h attempts.ne
  · have same (q : Fin 4) (j : SlotId) : claims (s.modSlot i fun x => (f x).watched) q j = claims s q j := by
      by_cases e : j = i
      · rw [e, claims_eq, own, claims_eq]
        have after : (f (s.slot i)).watched.state.abortable = true := rfl
        exact claimsPattern_of_held held after (congrArg Profile.payload profile) q
      · rw [claims_eq, others j e]
        rfl
    exact claimsOk_moved ok.claims (claimsMoved_of_same same).symm

end Sys2Proof.Machine
end

section
/-! PROOF. The agreement of the slots through the sweeps that go on within one event (R149 to R155). -/

namespace Sys2Proof.Machine

open Sys2Proof Sys2Proof.Safety

/-! ### The position advances (R68, R154) -/

theorem Lane.advance_power (now : BitVec 48) (timeout p : Nat) (x : Lane) :
    (x.advance now timeout p).power = x.power := by
  unfold Lane.advance
  split <;> rfl

theorem Lane.advance_soakRole (now : BitVec 48) (timeout p : Nat) (x : Lane) :
    (x.advance now timeout p).soakRole = x.soakRole := by
  unfold Lane.advance
  split <;> rfl

/-- R151, R154: the slot with its lanes that take part moved on to position `p`. -/
def Slot.moved (now : BitVec 48) (p : Nat) (steps : Vector StepState 4) (x : Slot) : Slot :=
  x.mapLanes fun l y => if (steps[l.val]).takesPart then y.advance now x.profile.relockTimeout p else y

/-- R151, R153: the slot with the results of the lanes that take part as they take their step states. -/
def Slot.resulted (p : Nat) (steps : Vector StepState 4) (x : Slot) : Slot :=
  { x with scan := { status := x.scan.status, lanes := byLane (x.stepResult p steps) } }

/-- R151: the step states that the lanes of a slot take. -/
def Slot.stepsTaken (steps : Vector StepState 4) (x : Slot) : Vector StepState 4 :=
  byLane fun l => if (steps[l.val]).takesPart then stepOf (x.lane l) else steps[l.val]

theorem Slot.moved_lane (now : BitVec 48) (p : Nat) (steps : Vector StepState 4) (x : Slot) (l : LaneId) :
    (x.moved now p steps).lane l =
      if (steps[l.val]).takesPart then (x.lane l).advance now x.profile.relockTimeout p else x.lane l :=
  byLane_getElem _ l

theorem Slot.moved_power (now : BitVec 48) (p : Nat) (steps : Vector StepState 4) (x : Slot) (l : LaneId) :
    ((x.moved now p steps).lane l).power = (x.lane l).power := by
  rw [Slot.moved_lane]
  split
  · rw [Lane.advance_power]
  · rfl

theorem Slot.moved_soakRole (now : BitVec 48) (p : Nat) (steps : Vector StepState 4) (x : Slot) (l : LaneId) :
    ((x.moved now p steps).lane l).soakRole = (x.lane l).soakRole := by
  rw [Slot.moved_lane]
  split
  · rw [Lane.advance_soakRole]
  · rfl

theorem Slot.resulted_lane (p : Nat) (steps : Vector StepState 4) (x : Slot) (l : LaneId) :
    (x.resulted p steps).lane l = x.lane l := rfl

/-- R154: the sweep after the advance of its position. -/
def advancedSweep (i : SlotId) (sw : Sweep) (s : State) : Sweep where
  position := sw.position + 1
  steps := ((s.slot i).moved s.us (sw.position + 1) sw.steps).stepsTaken sw.steps

theorem sweepAdvance_eq (i : SlotId) (sw : Sweep) (s : State) : sweepAdvance i sw s =
    { s.modSlot i (fun x => (x.moved s.us (sw.position + 1) sw.steps).resulted (sw.position + 1) sw.steps) with
      scanner := ⟨s.scanner.queue, some (advancedSweep i sw s)⟩ } := by
  have own : (s.modSlot i (Slot.moved s.us (sw.position + 1) sw.steps)).slot i =
      (s.slot i).moved s.us (sw.position + 1) sw.steps :=
    (State.modSlot_slot s i i _).trans (if_pos rfl)
  rw [advancedSweep, ← modSlot_modSlot i (Slot.moved s.us (sw.position + 1) sw.steps), ← own]
  rfl

theorem sweepAdvance_slot (i j : SlotId) (sw : Sweep) (s : State) : (sweepAdvance i sw s).slot j =
    if j = i then ((s.slot i).moved s.us (sw.position + 1) sw.steps).resulted (sw.position + 1) sw.steps
    else s.slot j := by
  rw [sweepAdvance_eq]
  exact State.modSlot_slot s i j fun x =>
    (x.moved s.us (sw.position + 1) sw.steps).resulted (sw.position + 1) sw.steps

/-- R78, R154: the lanes that take part in the head's sweep move their position. -/
theorem Agrees.sweepAdvance {s : State} {i : SlotId} {rest : List SlotId} {sw : Sweep} (ok : Agrees s)
    (queue : s.scanner.queue = i :: rest) (sweep : s.scanner.sweep = some sw) : Agrees (sweepAdvance i sw s) := by
  have head : s.scanner.queue.head? = some i := by rw [queue]; rfl
  have queued : i ∈ s.scanner.queue := by rw [queue]; exact List.mem_cons_self
  have own := sweepAdvance_slot i i sw s
  rw [if_pos rfl] at own
  have power (l : LaneId) : (((Machine.sweepAdvance i sw s).slot i).lane l).power = ((s.slot i).lane l).power := by
    rw [own]
    exact Slot.moved_power _ _ _ _ l
  have place (j : SlotId) : PlaceKept s (Machine.sweepAdvance i sw s) j := ⟨.rfl, id, le_rfl, id⟩
  refine ⟨⟨ok.once, fun j => ?_, claimsOk_moved ok.claims (sweepAdvance_swept queued sw).patterns⟩,
    iff_of_false (fun none => by cases none) fun empty => ?_, fun j front sw' sweep' l part => ?_⟩
  · by_cases e : j = i
    · subst e
      refine (ok.slot j).stays (place j) (by rw [own]; rfl) (by rw [own]; rfl) (by rw [own]; exact id)
        (fun l moved => ⟨head, ?_⟩) fun l soaked => ?_
      · rw [power]
        by_cases part : (sw.steps[l.val]).takesPart = true
        · exact ok.active j head sw sweep l part
        · rw [own, Slot.resulted_lane, Slot.moved_lane, if_neg part] at moved
          exact ((ok.slot j).position l moved).2
      · rw [power]
        refine (ok.slot j).soaked l ?_
        rwa [own, Slot.resulted_lane, Slot.moved_soakRole] at soaked
    · refine (ok.slot j).kept (place j) ?_
      rw [sweepAdvance_slot, if_neg e]
      exact .refl _
  · cases queue.symm.trans empty
  · cases sweep'
    obtain rfl : i = j := by
      rw [sweepAdvance_queue, head] at front
      exact Option.some.inj front
    rw [power]
    exact ok.active i head sw sweep l (takesPart_stepOf part)

/-! ### The sweep completes (R89, R155) -/

/-- R155: the slot as its sweep completes: its lanes back at position 0, its eyes computed. -/
def Slot.scanned (now : BitVec 48) (x : Slot) : Slot :=
  { (x.mapLanes fun l y =>
      if (x.scan.lanes[l.val]).scanned then y.setPosition now x.profile.relockTimeout 0 else y).computeEyes with
    scanPending := true }

theorem Slot.scanned_lane (now : BitVec 48) (x : Slot) (l : LaneId) : (x.scanned now).lane l =
    if (x.scan.lanes[l.val]).scanned then (x.lane l).setPosition now x.profile.relockTimeout 0 else x.lane l :=
  byLane_getElem _ l

theorem Slot.scanned_kept (now : BitVec 48) (x : Slot) (l : LaneId) : LaneKept (x.lane l) ((x.scanned now).lane l) := by
  rw [Slot.scanned_lane]
  split
  · exact ⟨fun h => absurd rfl h, id, id⟩
  · exact .refl _

/-- R155: the slot `i` as its sweep has completed, before the next begins. -/
def sweepEnded (i : SlotId) (s : State) : State :=
  { verdictOf i (Slot.scanned s.us) s with scanner := ⟨s.scanner.queue.tail, none⟩ }

theorem sweepComplete_eq (i : SlotId) (s : State) : sweepComplete i s = sweepNext (sweepEnded i s) := by
  have released : claimReleased (s.modSlot i (Slot.scanned s.us)) i = claimReleased s i :=
    claimReleased_of_same rfl (by rw [State.modSlot_slot, if_pos rfl]; rfl)
  have ended : verdictCore i { s.modSlot i (Slot.scanned s.us) with scanner := ⟨s.scanner.queue.tail, none⟩ } =
      sweepEnded i s := by
    rw [verdictCore_eq, sweepEnded, verdictOf, ← modSlot_modSlot i (Slot.scanned s.us), ← released]
    rfl
  exact congrArg sweepNext ended

theorem sweepEnded_slot (i j : SlotId) (s : State) : (sweepEnded i s).slot j =
    if j = i then ((s.slot i).scanned s.us).judged else s.slot j :=
  State.modSlot_slot s i j fun x => (x.scanned s.us).judged

theorem Agrees.sweepComplete {s : State} {i : SlotId} {rest : List SlotId} (ok : Agrees s)
    (queue : s.scanner.queue = i :: rest) : Agrees (sweepComplete i s) := by
  have queued : i ∈ s.scanner.queue := by rw [queue]; exact List.mem_cons_self
  have inScan := (ok.slot i).scan.1 queued
  have held : (s.slot i).state.abortable = true := by rw [inScan]; rfl
  have once := ok.once
  rw [queue, List.nodup_cons] at once
  have left : (sweepEnded i s).scanner.queue = rest := by
    show s.scanner.queue.tail = rest
    rw [queue]
    rfl
  have own := sweepEnded_slot i i s
  rw [if_pos rfl] at own
  rw [sweepComplete_eq]
  refine Agree.sweepNext ⟨by rw [left]; exact once.2, fun j => ?_, ?_⟩
  · by_cases e : j = i
    · subst e
      refine Leaving.agrees ?_ (by rw [left]; exact once.1) fun h => ?_
      · exact verdictOf_leaving (ok.slot j) own rfl held (ok.slot j).attempts (Slot.scanned_kept s.us _)
      · cases inScan.symm.trans ((ok.slot j).discover h)
    · refine (ok.slot j).kept ⟨?_, fun front => ?_, le_rfl, id⟩ ?_
      · rw [left, queue, List.mem_cons, or_iff_right e]
      · rw [queue] at front
        exact absurd (Option.some.inj front).symm e
      · rw [sweepEnded_slot, if_neg e]
        exact .refl _
  · exact claimsOk_moved ok.claims (verdictOf_patterns held)

/-! ### As far as one event takes the sweep -/

theorem Agrees.sweepRun (n : Nat) {s : State} (ok : Agrees s) : Agrees (sweepRun n s) := by
  induction n generalizing s with
  | zero => exact ok
  | succ n ih =>
    unfold Machine.sweepRun
    split
    · rename_i i rest sw queue sweep
      split
      · exact ok
      · split
        · exact ih (ok.sweepAdvance queue sweep)
        · exact ih (ok.sweepComplete queue)
    · exact ok

/-- R154: a run of the sweep that is long enough leaves a lane that waits or dwells, or no sweep. -/
theorem Agrees.sweepRun_rests (n : Nat) {s : State} (ok : Agrees s) (enough : sweepLeft s ≤ n) :
    SweepRests (Machine.sweepRun n s) := by
  induction n generalizing s with
  | zero =>
    intro sw sweep
    have sweep : s.scanner.sweep = some sw := sweep
    cases queue : s.scanner.queue with
    | nil => cases (ok.sweep.2 queue).symm.trans sweep
    | cons i rest =>
      simp only [sweepLeft, queue, sweep] at enough
      omega
  | succ n ih =>
    unfold Machine.sweepRun
    split
    · rename_i i rest sw queue sweep
      simp only [sweepLeft, queue, sweep] at enough
      split
      · rename_i busy
        intro sw' sweep'
        cases sweep.symm.trans sweep'
        exact busy
      · split
        · refine ih (ok.sweepAdvance queue sweep) ?_
          obtain ⟨steps, next⟩ := sweepAdvance_sweep i sw s
          simp only [sweepLeft, sweepAdvance_queue, queue, next]
          omega
        · exact ih (ok.sweepComplete queue) ((sweepComplete_left i i rest s queue).trans (by omega))
    · rename_i none
      intro sw sweep
      cases queue : s.scanner.queue with
      | nil => cases (ok.sweep.2 queue).symm.trans sweep
      | cons i rest => exact absurd sweep (none i rest sw queue)

theorem sweepLeft_le {s : State} (once : s.scanner.queue.Nodup) : sweepLeft s ≤ sweepBound := by
  have short : s.scanner.queue.length ≤ 12 := once.length_le_card
  unfold sweepLeft sweepBound
  split
  · rename_i i rest sw queue sweep
    rw [queue, List.length_cons] at short
    omega
  · exact Nat.zero_le _

/-- R154, R155: the sweep gone on as far as one event takes it. -/
theorem Agrees.swept {s : State} (ok : Agrees s) : Steady (sweepSettle s) :=
  ⟨ok.sweepRun _, ok.sweepRun_rests _ (sweepLeft_le ok.once)⟩

end Sys2Proof.Machine
end

section
/-! PROOF. The agreement of the slots through the entries of a slot to its states (R57, R86 to R91, R94 to R97,
R122, R134, R148). -/

namespace Sys2Proof.Machine

open Sys2Proof Sys2Proof.Safety

/-! ### Lanes that stand where they stood -/

/-- The position, the soak role and the power of a lane are the same. -/
structure LaneStands (x y : Lane) : Prop where
  position : y.position = x.position
  soakRole : y.soakRole = x.soakRole
  power    : y.power = x.power

theorem LaneStands.kept {x y : Lane} (h : LaneStands x y) : LaneKept x y :=
  ⟨by rw [h.position]; exact id, by rw [h.soakRole, h.power]; exact id, by rw [h.power]; exact id⟩

theorem Lane.takeLock_stands (isPrbs : Bool) (pol : Polarity) (h : Header) (x : Lane) :
    LaneStands x (x.takeLock isPrbs pol h).1 := by
  simp only [Lane.takeLock]
  split <;> exact ⟨rfl, rfl, rfl⟩

theorem Lane.huntHeader_stands (isPrbs : Bool) (bits : BitVec 48) (x : Lane) :
    LaneStands x (x.huntHeader isPrbs bits).1 := by
  unfold Lane.huntHeader
  split
  · split
    · exact ⟨rfl, rfl, rfl⟩
    · split <;> exact ⟨rfl, rfl, rfl⟩
  · split
    · exact ⟨rfl, rfl, rfl⟩
    · split
      · split
        · exact ⟨rfl, rfl, rfl⟩
        · exact x.takeLock_stands ..
      · exact ⟨rfl, rfl, rfl⟩

theorem Lane.lockHeader_stands (isPrbs inSoak : Bool) (relockAt : Timer) (bits : BitVec 48) (x : Lane) :
    LaneStands x (x.lockHeader isPrbs inSoak relockAt bits).1 := by
  unfold Lane.lockHeader
  split
  · simp only
    split
    · exact ⟨rfl, rfl, rfl⟩
    · split
      · exact ⟨rfl, rfl, rfl⟩
      · split <;> exact ⟨rfl, rfl, rfl⟩
  · simp only
    split <;> exact ⟨rfl, rfl, rfl⟩

/-! ### Lanes and slots that are kept -/

theorem Lane.wake_kept (i : SlotId) (l : LaneId) (pl : Payload) (pats : Vector Pattern 4) (x : Lane) :
    LaneKept x (x.wake i l pl pats) := by
  unfold Lane.wake
  split
  · rename_i parked
    exact ⟨id, fun active soaked => (by cases parked.symm.trans (active soaked)),
      fun active => (by cases parked.symm.trans active)⟩
  · exact .refl x

theorem Lane.activate_kept (x : Lane) : LaneKept x x.activate := by
  unfold Lane.activate
  split
  · exact ⟨id, fun _ _ => rfl, fun _ => rfl⟩
  · exact .refl x

/-- R64: the lanes that take the soak role are ACTIVE. -/
theorem Lane.soakEntry_kept {soaked : Bool} {x : Lane} (active : soaked = true → x.power = .active) :
    LaneKept x (x.soakEntry soaked) := by
  unfold Lane.soakEntry
  split
  · rename_i h
    exact ⟨id, fun _ _ => active h, id⟩
  · exact ⟨id, id, id⟩

theorem BodyKept.mapLanes {x : Slot} {f : LaneId → Lane → Lane} (lanes : ∀ l, LaneKept (x.lane l) (f l (x.lane l))) :
    BodyKept x (x.mapLanes f) where
  attempts := le_rfl
  pending := id
  lanes l := by
    rw [show (x.mapLanes f).lane l = f l (x.lane l) from byLane_getElem _ l]
    exact lanes l

theorem SlotKept.withLane {x : Slot} {l : LaneId} {y : Lane} (kept : LaneKept (x.lane l) y) :
    SlotKept x (x.withLane l y) where
  attempts := le_rfl
  pending := id
  lanes m := by
    rw [Slot.withLane_lane]
    split
    · rename_i e
      rw [e]
      exact kept
    · exact .refl _
  state := rfl
  payload := rfl

theorem SlotKept.trans {x y z : Slot} (first : SlotKept x y) (second : SlotKept y z) : SlotKept x z where
  attempts := second.attempts.trans first.attempts
  pending h := first.pending (second.pending h)
  lanes l := ⟨fun h => (first.lanes l).position ((second.lanes l).position h),
    fun h => (second.lanes l).soaked ((first.lanes l).soaked h),
    fun h => (second.lanes l).power ((first.lanes l).power h)⟩
  state := second.state.trans first.state
  payload := second.payload.trans first.payload

theorem SlotKept.heed (l : LaneId) (es : List LaneEvent) (x : Slot) : SlotKept x (es.foldl (Slot.heed l) x) := by
  induction es generalizing x with
  | nil => exact .refl x
  | cons e es ih =>
    rw [List.foldl_cons]
    exact SlotKept.trans (y := x.heed l e) (.of_eq rfl rfl rfl rfl rfl) (ih (x.heed l e))

/-! ### A slot at rest -/

/-- Slot `i` is in neither queue, and has no VERDICT record pending or in flight. -/
structure AtRest (s : State) (i : SlotId) : Prop where
  scan     : i ∉ s.scanner.queue
  discover : .discovery i ∉ s.sideband.queue
  pending  : (s.slot i).verdictPending = false
  inFlight : ¬ verdictInFlight s i
  attempts : (s.slot i).attempts ≤ 3
  position : ∀ l, ((s.slot i).lane l).position = 0
  soaked   : ∀ l, ((s.slot i).lane l).soakRole = true → ((s.slot i).lane l).power = .active

theorem SlotAgrees.atRest {s : State} {i : SlotId} (ok : SlotAgrees s i) (notScan : (s.slot i).state ≠ .scan)
    (absent : .discovery i ∉ s.sideband.queue) (free : (s.slot i).verdictPending = false)
    (notInFlight : ¬ verdictInFlight s i) : AtRest s i where
  scan h := notScan (ok.scan.1 h)
  discover := absent
  pending := free
  inFlight := notInFlight
  attempts := ok.attempts
  position l := by
    by_contra moved
    exact notScan (ok.scan.1 (List.mem_of_mem_head? (ok.position l moved).1))
  soaked := ok.soaked

theorem SlotAgrees.atRest_of_state {s : State} {i : SlotId} (ok : SlotAgrees s i)
    (notScan : (s.slot i).state ≠ .scan) (notDiscover : (s.slot i).state ≠ .discover)
    (notVerdict : (s.slot i).state ≠ .verdict) : AtRest s i := by
  refine ok.atRest notScan (fun h => notDiscover (ok.discover h)) ?_ fun h => notVerdict (ok.inFlight h)
  rw [← Bool.not_eq_true]
  exact fun h => notVerdict (ok.pending h).1

theorem AtRest.agrees {s : State} {i : SlotId} (rest : AtRest s i) (notScan : (s.slot i).state ≠ .scan)
    (third : (s.slot i).attempts = 3 → (s.slot i).state = .verdict ∨ (s.slot i).state = .done) :
    SlotAgrees s i where
  scan := iff_of_false rest.scan notScan
  once := by rw [List.count_eq_zero.2 rest.discover]; exact Nat.zero_le 1
  discover h := absurd h rest.discover
  pending h := absurd (rest.pending.symm.trans h) Bool.false_ne_true
  inFlight h := absurd h rest.inFlight
  attempts := rest.attempts
  third := third
  position l h := absurd (rest.position l) h
  soaked := rest.soaked

/-- Slot `i` changed by `f`, with the patterns `patterns`. -/
def entered (i : SlotId) (f : Slot → Slot) (patterns : Vector Pattern 4) (s : State) : State :=
  { s.modSlot i f with patterns := patterns }

theorem entered_slot (i j : SlotId) (f : Slot → Slot) (patterns : Vector Pattern 4) (s : State) :
    (entered i f patterns s).slot j = if j = i then f (s.slot i) else s.slot j :=
  State.modSlot_slot s i j f

theorem entered_own (i : SlotId) (f : Slot → Slot) (patterns : Vector Pattern 4) (s : State) :
    (entered i f patterns s).slot i = f (s.slot i) := (entered_slot i i f patterns s).trans (if_pos rfl)

theorem entered_other {i j : SlotId} (other : j ≠ i) (f : Slot → Slot) (patterns : Vector Pattern 4) (s : State) :
    (entered i f patterns s).slot j = s.slot j := (entered_slot i j f patterns s).trans (if_neg other)

theorem AtRest.entered {s : State} {i : SlotId} {f : Slot → Slot} (rest : AtRest s i)
    (body : BodyKept (s.slot i) (f (s.slot i))) (patterns : Vector Pattern 4) :
    AtRest (entered i f patterns s) i := by
  have own := entered_own i f patterns s
  refine ⟨rest.scan, rest.discover, ?_, rest.inFlight, ?_, fun l => ?_, fun l => ?_⟩
  all_goals rw [own]
  · rw [← Bool.not_eq_true]
    exact fun h => Bool.false_ne_true (rest.pending.symm.trans (body.pending h))
  · exact body.attempts.trans rest.attempts
  · by_contra moved
    exact (body.lanes l).position moved (rest.position l)
  · exact (body.lanes l).soaked (rest.soaked l)

/-- R58: a slot at rest whose lanes park. -/
theorem AtRest.entered_parked {s : State} {i : SlotId} {f : Slot → Slot} (rest : AtRest s i)
    (attempts : (f (s.slot i)).attempts ≤ 3)
    (pending : (f (s.slot i)).verdictPending = (s.slot i).verdictPending)
    (position : ∀ l, ((f (s.slot i)).lane l).position = ((s.slot i).lane l).park.position)
    (soakRole : ∀ l, ((f (s.slot i)).lane l).soakRole = ((s.slot i).lane l).park.soakRole)
    (patterns : Vector Pattern 4) : AtRest (Machine.entered i f patterns s) i := by
  have own := entered_own i f patterns s
  refine ⟨rest.scan, rest.discover, ?_, rest.inFlight, ?_, fun l => ?_, fun l => ?_⟩
  all_goals rw [own]
  · rw [pending]
    exact rest.pending
  · exact attempts
  · rw [position]
    exact park_position fun moved => absurd (rest.position l) moved
  · rw [soakRole, park_soakRole (rest.soaked l)]
    exact fun h => absurd h Bool.false_ne_true

/-- A slot at rest enters a state other than SCAN. -/
theorem Agrees.enter {s : State} {i : SlotId} {f : Slot → Slot} {patterns : Vector Pattern 4} (ok : Agrees s)
    (after : AtRest (Machine.entered i f patterns s) i) (notScan : (f (s.slot i)).state ≠ .scan)
    (third : (f (s.slot i)).attempts = 3 → (f (s.slot i)).state = .verdict ∨ (f (s.slot i)).state = .done)
    (claims : patterns = claimsMoved s (Machine.entered i f patterns s)) :
    Agrees (Machine.entered i f patterns s) := by
  have own := entered_own i f patterns s
  refine ⟨⟨ok.once, fun j => ?_, claimsOk_moved ok.claims claims⟩, ok.sweep, fun j => ?_⟩
  · by_cases e : j = i
    · subst e
      refine after.agrees ?_ ?_
      all_goals rw [own]
      exacts [notScan, third]
    · refine (ok.slot j).kept ⟨.rfl, id, le_rfl, id⟩ ?_
      rw [entered_other e]
      exact .refl _
  · by_cases e : j = i
    · rw [e]
      exact fun head => absurd (List.mem_of_mem_head? head) after.scan
    · refine (ok.active j).kept rfl fun l => ?_
      rw [entered_other e]
      exact .refl _

theorem claimsMoved_entered {s : State} {i : SlotId} {f : Slot → Slot} (patterns : Vector Pattern 4)
    (same : ∀ q, (f (s.slot i)).claimsPattern q = (s.slot i).claimsPattern q) :
    claimsMoved s (entered i f patterns s) = s.patterns := by
  refine claimsMoved_of_same fun q j => ?_
  rw [claims_eq, entered_slot]
  split
  · rename_i e
    rw [same, e]
    rfl
  · rfl

/-- A slot at rest enters a state other than SCAN, its claim the same. -/
theorem Steady.move {s : State} {i : SlotId} {f : Slot → Slot} (ok : Steady s) (rest : AtRest s i)
    (body : BodyKept (s.slot i) (f (s.slot i))) (notScan : (f (s.slot i)).state ≠ .scan)
    (third : (f (s.slot i)).attempts = 3 → (f (s.slot i)).state = .verdict ∨ (f (s.slot i)).state = .done)
    (claims : ∀ q, (f (s.slot i)).claimsPattern q = (s.slot i).claimsPattern q) : Steady (s.modSlot i f) :=
  ⟨ok.toAgrees.enter (patterns := s.patterns) (rest.entered body _) notScan third
    (claimsMoved_entered _ claims).symm, ok.rests⟩

/-- The attempts of a slot in a test that stays in a test. -/
theorem SlotAgrees.third_of_held {s : State} {i : SlotId} {y : Slot} (ok : SlotAgrees s i)
    (held : (s.slot i).state.abortable = true) (fewer : y.attempts ≤ (s.slot i).attempts) :
    y.attempts = 3 → y.state = .verdict ∨ y.state = .done := by
  intro h
  rcases ok.third (le_antisymm ok.attempts (h ▸ fewer)) with e | e
  · rw [e] at held; cases held
  · rw [e] at held; cases held

theorem modSlot_id (i : SlotId) (s : State) : s.modSlot i id = s := by
  simp [State.modSlot, State.withSlot, State.slot]

/-- R107: the engine's start apart, an entry joins the tail of the queue. -/
theorem sbJoin_apart (e : SbEntry) (s : State) : Apart (s.withSbQueue (s.sideband.queue ++ [e])) (sbJoin e s) := by
  unfold sbJoin serve
  split
  · exact ⟨rfl, rfl, rfl, rfl, rfl⟩
  · split <;> exact ⟨rfl, rfl, rfl, rfl, rfl⟩

theorem sbJoin_host_keeps (e : HostEntry) (s : State) : Keeps s (sbJoin (.host e) s) := by
  obtain ⟨scanner, sideband, inFlight, patterns, slots⟩ := sbJoin_apart (.host e) s
  refine ⟨scanner, fun i => ?_, fun i h => ?_, fun n => by rw [patterns]; rfl, fun i => ?_⟩
  · rw [sideband]
    simp [State.withSbQueue]
  · rwa [verdictInFlight, inFlight] at h
  · simp only [State.slot, slots]
    exact .refl _

/-! ### Entries that take no slot out of a queue (R57, R86, R87) -/

section
variable {s : State} {i : SlotId} (ok : Steady s)
include ok

/-- R57, R86: entry to SETTLE. -/
theorem Steady.toSettle (watch : (s.slot i).state = .watch) : Steady (toSettle i s) := by
  have held : (s.slot i).state.abortable = true := by rw [watch]; rfl
  have body := BodyKept.mapLanes (x := s.slot i) (f := fun l x =>
      if (s.slot i).inMask l then x.wake i l (s.slot i).profile.payload s.patterns else x) fun l => by
    split
    · exact Lane.wake_kept _ _ _ _ _
    · exact .refl _
  refine ok.move ((ok.slot i).atRest_of_state ?_ ?_ ?_) ⟨body.attempts, body.pending, body.lanes⟩ nofun
    ((ok.slot i).third_of_held held le_rfl) (claimsPattern_of_held held rfl rfl)
  all_goals rw [watch]; decide

/-- R107: a discovery entry joins the queue. -/
theorem Steady.sbJoin_discovery (discover : (s.slot i).state = .discover)
    (absent : .discovery i ∉ s.sideband.queue) : Steady (sbJoin (.discovery i) s) := by
  have waits : Steady (s.withSbQueue (s.sideband.queue ++ [.discovery i])) → Steady (sbJoin (.discovery i) s) :=
    fun h => h.keeps (sbJoin_apart _ s).keeps
  refine waits ⟨⟨⟨ok.once, fun j => ?_, ok.claims⟩, ok.sweep, ok.active⟩, ok.rests⟩
  have agrees := ok.slot j
  by_cases e : j = i
  · subst e
    refine { agrees with once := ?_, discover := fun _ => discover }
    rw [State.withSbQueue_sideband, List.count_append, List.count_eq_zero.2 absent]
    simp
  · have other : SbEntry.discovery i ≠ .discovery j := fun h => e (by injection h with h; exact h.symm)
    refine { agrees with once := ?_, discover := fun h => agrees.discover ?_ }
    · rw [State.withSbQueue_sideband, List.count_append, List.count_singleton]
      simpa [other] using agrees.once
    · simpa [other.symm] using h

/-- R57, R87: entry to DISCOVER. -/
theorem Steady.toDiscover (settle : (s.slot i).state = .settle) : Steady (toDiscover i s) := by
  have held : (s.slot i).state.abortable = true := by rw [settle]; rfl
  have rest : AtRest s i := by
    refine (ok.slot i).atRest_of_state ?_ ?_ ?_
    all_goals rw [settle]; decide
  have body := BodyKept.mapLanes (x := s.slot i) (f := fun _ x => x.activate) fun l => Lane.activate_kept _
  refine Steady.sbJoin_discovery (ok.move rest ⟨body.attempts, body.pending, body.lanes⟩ nofun
    ((ok.slot i).third_of_held held le_rfl) (claimsPattern_of_held held rfl rfl)) ?_ rest.discover
  rw [State.modSlot_slot, if_pos rfl]

/-- R64, R134: entry to SOAK with soaked lanes that are ACTIVE. -/
theorem Steady.toSoak (train : (s.slot i).state = .train) (active : ∀ l : LaneId,
    ((s.slot i).wiring[l.val]).cls.usable = true → ((s.slot i).lane l).power = .active) :
    Steady (toSoak i s) := by
  have held : (s.slot i).state.abortable = true := by rw [train]; rfl
  have body := BodyKept.mapLanes (x := s.slot i)
    (f := fun l x => x.soakEntry ((s.slot i).wiring[l.val]).cls.usable) fun l => Lane.soakEntry_kept (active l)
  refine ok.move ((ok.slot i).atRest_of_state ?_ ?_ ?_) ⟨body.attempts, body.pending, body.lanes⟩ nofun
    ((ok.slot i).third_of_held held le_rfl) (claimsPattern_of_held held rfl rfl)
  all_goals rw [train]; decide

/-- R89: entry to VERDICT of a slot that is not being swept and does not wait for its sweep. -/
theorem Steady.toVerdict {f : Slot → Slot} (held : (s.slot i).state.abortable = true)
    (notScan : (s.slot i).state ≠ .scan) (profile : (f (s.slot i)).profile = (s.slot i).profile)
    (attempts : (f (s.slot i)).attempts ≤ 3)
    (lanes : ∀ l, LaneKept ((s.slot i).lane l) ((f (s.slot i)).lane l)) :
    Steady (toVerdict i (s.modSlot i f)) := by
  refine ⟨ok.toAgrees.toVerdict held profile attempts lanes, ok.rests.of_scanner ?_⟩
  rw [toVerdict_modSlot profile, withdraw, withdrawScan_of_absent]
  · rw [withdrawDiscovery_eq]
    rfl
  · rw [withdrawDiscovery_eq]
    exact fun queued => notScan ((ok.slot i).scan.1 queued)

theorem Steady.toVerdict_same (held : (s.slot i).state.abortable = true) (notScan : (s.slot i).state ≠ .scan) :
    Steady (Machine.toVerdict i s) := by
  have same := ok.toVerdict (f := id) held notScan rfl (ok.slot i).attempts fun l => .refl _
  rwa [modSlot_id] at same

end

theorem wireClass_usable {i : SlotId} {sl : Slot} {l : LaneId} (usable : (wireClass i sl l).usable = true) :
    (sl.lane l).isLocked = true := by
  by_contra h
  rw [Bool.not_eq_true] at h
  simp only [wireClass, h, Bool.not_false, if_true] at usable
  split at usable <;> cases usable

theorem Lane.isLocked_iff {x : Lane} : x.isLocked = true ↔ x.power = .active ∧ x.rx = .locked := by
  simp [Lane.isLocked]

/-- R122: training of a slot ends. -/
theorem Steady.endTraining {s : State} {i : SlotId} (ok : Steady s) (train : (s.slot i).state = .train) :
    Steady (endTraining i s) := by
  have held : (s.slot i).state.abortable = true := by rw [train]; rfl
  have notScan : (s.slot i).state ≠ .scan := by rw [train]; decide
  let mapped (x : Slot) : Slot := { x with
    wiring := wireMap i (s.slot i)
    findings := addFindings x.findings (wireFindings (s.slot i) (wireMap i (s.slot i))) }
  have verdict : Steady (Machine.toVerdict i (s.modSlot i mapped)) :=
    ok.toVerdict held notScan rfl (ok.slot i).attempts fun l => .refl _
  have own : (s.modSlot i mapped).slot i = mapped (s.slot i) := (State.modSlot_slot s i i mapped).trans (if_pos rfl)
  have soak : Steady (Machine.toSoak i (s.modSlot i mapped)) := by
    refine (ok.keeps (modSlot_keeps (.of_eq rfl rfl rfl rfl rfl))).toSoak (by rw [own]; exact train) fun l usable => ?_
    rw [own] at usable ⊢
    rw [show (mapped (s.slot i)).wiring[l.val] = _ from byLane_getElem _ l] at usable
    exact (Lane.isLocked_iff.1 (wireClass_usable usable)).1
  unfold Machine.endTraining
  simp only
  split
  · exact verdict
  · split
    · exact verdict
    · exact soak

end Sys2Proof.Machine
end

section
/-! PROOF. The agreement of the slots through the walk's end, the checkpoints and the commands that act on slots
(R91 to R97, R115, R132, R148). -/

namespace Sys2Proof.Machine

open Sys2Proof Sys2Proof.Safety

/-! ### The end of a walk (R115, R119 to R122) -/

/-- R119, R121: a slot as it enters TRAIN at time `now`. -/
def Slot.training (now : BitVec 48) (i : SlotId) (x : Slot) : Slot := { x with
  state := .train, stateTimer := timerAfter now (x.profile.trainTimeout * 1000)
  plugLanes := plugLaneCount x.identity
  expected := byLane fun l => expectLane i x.identity (plugLaneCount x.identity) l
  confirm := byLane fun _ => 0 }

/-- R119 to R122: entry to TRAIN of a slot whose discovery entry is gone. -/
theorem Steady.toTrain {s : State} {i : SlotId} (ok : Steady s) (discover : (s.slot i).state = .discover)
    (absent : .discovery i ∉ s.sideband.queue) : Steady (toTrain i s) := by
  have held : (s.slot i).state.abortable = true := by rw [discover]; rfl
  have agrees := ok.slot i
  have notVerdict : (s.slot i).state ≠ .verdict := by rw [discover]; decide
  have free : (s.slot i).verdictPending = false := by
    rw [← Bool.not_eq_true]
    exact fun h => notVerdict (agrees.pending h).1
  have rest : AtRest s i := agrees.atRest (by rw [discover]; decide) absent free fun h => notVerdict (agrees.inFlight h)
  have entered : Steady (s.modSlot i (Slot.training s.us i)) := ok.move rest (.of_eq rfl rfl rfl) nofun
    (agrees.third_of_held held le_rfl) (claimsPattern_of_held held rfl rfl)
  have own : (s.modSlot i (Slot.training s.us i)).slot i = (s.slot i).training s.us i :=
    (State.modSlot_slot s i i _).trans (if_pos rfl)
  have begun : Machine.toTrain i s = if ((s.modSlot i (Slot.training s.us i)).slot i).noneCounted then
      Machine.endTraining i (s.modSlot i (Slot.training s.us i)) else s.modSlot i (Slot.training s.us i) := rfl
  rw [begun]
  split
  · exact entered.endTraining (by rw [own]; rfl)
  · exact entered

/-- The engine passes on as entries leave the Sideband Queue. -/
theorem sideband_keeps {s : State} {q : List SbEntry} (shorter : q.Sublist s.sideband.queue) (e : Engine) :
    Keeps s { s with sideband := ⟨q, e⟩ } where
  scanner := rfl
  sideband _ := shorter.count_le _
  inFlight _ := id
  inUse _ := rfl
  slot _ := .refl _

theorem headEnds_keeps (s : State) : Keeps s (headEnds s) := by
  rw [headEnds_eq]
  exact sideband_keeps (List.tail_sublist _) _

/-- R115: the walk of the slot at the queue's head ends. -/
theorem Steady.walkEnd {s : State} {i : SlotId} {rest : List SbEntry} (ok : Steady s)
    (queue : s.sideband.queue = .discovery i :: rest) (intoTrain : Bool) (w : Walk) :
    Steady (walkEnd i intoTrain w s) := by
  have agrees := ok.slot i
  have discover := agrees.discover (by rw [queue]; exact List.mem_cons_self)
  have absent : .discovery i ∉ rest := by
    have once := agrees.once
    rw [queue, List.count_cons_self] at once
    exact List.count_eq_zero.1 (by omega)
  let told (x : Slot) : Slot :=
    { x with identity := some w.identity, findings := addFindings x.findings w.findings }
  have ended : Steady (headEnds (s.modSlot i told)) :=
    (ok.keeps (modSlot_keeps (.of_eq rfl rfl rfl rfl rfl))).keeps (headEnds_keeps _)
  have own : (headEnds (s.modSlot i told)).slot i = told (s.slot i) := by
    rw [headEnds_eq]
    exact (State.modSlot_slot s i i told).trans (if_pos rfl)
  have left : (headEnds (s.modSlot i told)).sideband.queue = rest := by
    rw [headEnds_eq]
    show s.sideband.queue.tail = rest
    rw [queue]
    rfl
  have discover : ((headEnds (s.modSlot i told)).slot i).state = .discover := by rw [own]; exact discover
  unfold Machine.walkEnd
  split
  · exact ended.toTrain discover (by rw [left]; exact absent)
  · exact ended.toVerdict_same (by rw [discover]; rfl) (by rw [discover]; decide)

/-! ### Checkpoints (R132, R135 to R143, R148) -/

/-- R148: a slot as it enters SCAN. -/
def Slot.scanning (x : Slot) : Slot := { x with state := .scan, stateTimer := none, scan := .empty }

/-- R148: slot `i` in SCAN, at the tail of the Scan Queue. -/
def scanJoined (i : SlotId) (s : State) : State :=
  { s.modSlot i Slot.scanning with scanner := ⟨s.scanner.queue ++ [i], s.scanner.sweep⟩ }

theorem scanJoined_slot (i j : SlotId) (s : State) :
    (scanJoined i s).slot j = if j = i then (s.slot i).scanning else s.slot j :=
  State.modSlot_slot s i j Slot.scanning

theorem toScan_eq (i : SlotId) (s : State) : toScan i s =
    if s.scanner.queue.isEmpty then sweepSettle (sweepNext (scanJoined i s)) else scanJoined i s := rfl

theorem Steady.scanJoined {s : State} {i : SlotId} (ok : Steady s) (soak : (s.slot i).state = .soak) :
    Agree (scanJoined i s) := by
  have held : (s.slot i).state.abortable = true := by rw [soak]; rfl
  have rest : AtRest s i := by
    refine (ok.slot i).atRest_of_state ?_ ?_ ?_
    all_goals rw [soak]; decide
  have own := scanJoined_slot i i s
  rw [if_pos rfl] at own
  refine ⟨List.nodup_append.2 ⟨ok.once, List.nodup_singleton i, fun a queued b one e => ?_⟩, fun j => ?_, ?_⟩
  · rw [List.mem_singleton.1 one] at e
    exact rest.scan (e ▸ queued)
  · by_cases e : j = i
    · subst e
      have third := (ok.slot j).third_of_held (y := (s.slot j).scanning) held le_rfl
      refine ⟨iff_of_true (by simp [Machine.scanJoined]) (by rw [own]; rfl), (ok.slot j).once,
        fun h => absurd h rest.discover, fun h => ?_, fun h => absurd h rest.inFlight, ?_, ?_, fun l h => ?_, ?_⟩
      all_goals rw [own] at *
      · exact absurd (rest.pending.symm.trans h) Bool.false_ne_true
      · exact rest.attempts
      · exact third
      · exact absurd (rest.position l) h
      · exact rest.soaked
    · refine (ok.slot j).kept ⟨by simp [Machine.scanJoined, e], fun head => ?_, le_rfl, id⟩ ?_
      · obtain ⟨later, queue⟩ := List.head?_eq_some_iff.1 head
        simp [Machine.scanJoined, queue]
      · rw [scanJoined_slot, if_neg e]
        exact .refl _
  · have same := claimsMoved_entered (s := s) (i := i) (f := Slot.scanning) s.patterns
      (claimsPattern_of_held held rfl rfl)
    exact claimsOk_moved ok.claims same.symm

/-- R148: entry to SCAN. -/
theorem Steady.toScan {s : State} {i : SlotId} (ok : Steady s) (soak : (s.slot i).state = .soak) :
    Steady (toScan i s) := by
  rw [toScan_eq]
  split
  · exact (ok.scanJoined soak).sweepNext.swept
  · rename_i waiting
    have waits : s.scanner.queue ≠ [] := by simpa using waiting
    refine ⟨⟨ok.scanJoined soak, iff_of_false (fun none => waits (ok.sweep.1 none)) (by simp [Machine.scanJoined]),
      fun j head => ?_⟩, ok.rests⟩
    obtain ⟨a, rest, queue⟩ := List.exists_cons_of_ne_nil waits
    have front : s.scanner.queue.head? = some j := by
      simpa [Machine.scanJoined, queue] using head
    have lanes (l : LaneId) : ((Machine.scanJoined i s).slot j).lane l = (s.slot j).lane l := by
      rw [scanJoined_slot]
      split
      · rename_i e
        rw [e]
        rfl
      · rfl
    intro sw sweep l part
    rw [lanes]
    exact ok.active j front sw sweep l part

/-- R142: the judgement of a soak. -/
def Slot.soakJudged (x : Slot) : Slot := { x with findings := addFindings x.findings (judgeFindings x) }

/-- R143: the soak of a slot ends in SCAN rather than in VERDICT. -/
def Slot.scans (byCeiling : Bool) (x : Slot) : Bool :=
  !byCeiling && match x.profile.marginMode with
    | .always => true
    | .onPass => !hasFailing x.findings
    | .off => false

theorem endSoak_eq (i : SlotId) (byCeiling : Bool) (s : State) : endSoak i byCeiling s =
    if (s.slot i).soakJudged.scans byCeiling then toScan i (s.modSlot i Slot.soakJudged)
    else toVerdict i (s.modSlot i Slot.soakJudged) := by
  have own : (s.modSlot i Slot.soakJudged).slot i = (s.slot i).soakJudged :=
    (State.modSlot_slot s i i _).trans (if_pos rfl)
  have unfolded : endSoak i byCeiling s = if byCeiling then toVerdict i (s.modSlot i Slot.soakJudged)
      else match ((s.modSlot i Slot.soakJudged).slot i).profile.marginMode with
        | .always => toScan i (s.modSlot i Slot.soakJudged)
        | .onPass => if hasFailing ((s.modSlot i Slot.soakJudged).slot i).findings then
            toVerdict i (s.modSlot i Slot.soakJudged) else toScan i (s.modSlot i Slot.soakJudged)
        | .off => toVerdict i (s.modSlot i Slot.soakJudged) := rfl
  rw [unfolded, own, Slot.scans]
  cases byCeiling
  · cases (s.slot i).soakJudged.profile.marginMode
    · rfl
    · cases hasFailing (s.slot i).soakJudged.findings <;> rfl
    · rfl
  · rfl

theorem Steady.endSoak {s : State} {i : SlotId} (ok : Steady s) (soak : (s.slot i).state = .soak)
    (byCeiling : Bool) : Steady (endSoak i byCeiling s) := by
  have own : (s.modSlot i Slot.soakJudged).slot i = (s.slot i).soakJudged :=
    (State.modSlot_slot s i i _).trans (if_pos rfl)
  have judged : Steady (s.modSlot i Slot.soakJudged) := ok.keeps (modSlot_keeps (.of_eq rfl rfl rfl rfl rfl))
  have soak : ((s.modSlot i Slot.soakJudged).slot i).state = .soak := by rw [own]; exact soak
  rw [endSoak_eq]
  split
  · exact judged.toScan soak
  · exact judged.toVerdict_same (by rw [soak]; rfl) (by rw [soak]; decide)

theorem Slot.meetCheckpoint_kept (x : Slot) : SlotKept x x.meetCheckpoint := by
  unfold Slot.meetCheckpoint
  simp only
  split <;> split <;> exact .of_eq rfl rfl rfl rfl rfl

theorem Steady.slotCheckpoint {s : State} (ok : Steady s) (i : SlotId) : Steady (slotCheckpoint i s) := by
  have met : Steady (s.withSlot i (s.slot i).meetCheckpoint) :=
    ok.keeps (modSlot_keeps (f := fun _ => (s.slot i).meetCheckpoint) (Slot.meetCheckpoint_kept _))
  have own : (s.withSlot i (s.slot i).meetCheckpoint).slot i = (s.slot i).meetCheckpoint :=
    (State.withSlot_slot s i i _).trans (if_pos rfl)
  unfold Machine.slotCheckpoint
  simp only
  split
  · exact ok
  · rename_i soak
    have soak : ((s.withSlot i (s.slot i).meetCheckpoint).slot i).state = .soak := by
      rw [own, (Slot.meetCheckpoint_kept _).state]
      exact not_not.1 soak
    split
    · exact met.endSoak soak true
    · split
      · exact met.endSoak soak false
      · exact met

theorem Steady.fold {α : Type} {f : State → α → State} (h : ∀ s a, Steady s → Steady (f s a)) (xs : List α)
    {s : State} (ok : Steady s) : Steady (xs.foldl f s) := by
  induction xs generalizing s with
  | nil => exact ok
  | cons a xs ih => exact ih (h s a ok)

theorem Steady.checkpointAll {s : State} (ok : Steady s) : Steady (checkpointAll s) :=
  .fold (fun _ i ok => ok.slotCheckpoint i) _ (ok.keeps (Apart.keeps ⟨rfl, rfl, rfl, rfl, rfl⟩))

theorem Steady.usTick {s : State} (ok : Steady s) : Steady (usTick s) := by
  have apart {s : State} (ok : Steady s) (us : BitVec 48) (tb : Timebase) :
      Steady { s with us := us, timebase := tb } := ok.keeps (Apart.keeps ⟨rfl, rfl, rfl, rfl, rfl⟩)
  unfold Machine.usTick prescalerTick
  split
  · unfold periodTick
    split
    · unfold intervalTick
      split
      · exact (apart ok _ _).checkpointAll
      · exact apart ok _ _
    · exact apart ok _ _
  · exact apart ok _ _

/-! ### START, ABORT, RETEST and CLEAR (R91 to R97) -/

theorem SlotState.abortable_of_offOrDone {st : SlotState} (h : st.offOrDone = true) : st.abortable = false := by
  rcases SlotState.offOrDone_iff.1 h with rfl | rfl <;> rfl

theorem SlotAgrees.atRest_of_offOrDone {s : State} {i : SlotId} (ok : SlotAgrees s i)
    (free : (s.slot i).state.offOrDone = true) : AtRest s i := by
  rcases SlotState.offOrDone_iff.1 free with e | e
  all_goals
    refine ok.atRest_of_state ?_ ?_ ?_
    all_goals rw [e]; decide

theorem claimsPattern_of_free {x : Slot} (free : x.state.abortable = false) (q : Fin 4) :
    x.claimsPattern q = false := by
  rw [Slot.claimsPattern, free]
  rfl

/-- An operation on slots whose states it accepts, one after another, each once. -/
theorem fold_slots {P : State → Prop} {op : SlotId → State → State} {accepts : SlotState → Prop}
    (each : ∀ s i, P s → accepts (s.slot i).state → P (op i s))
    (others : ∀ s i j, P s → accepts (s.slot i).state → j ≠ i → ((op i s).slot j).state = (s.slot j).state)
    (xs : List SlotId) (once : xs.Nodup) {s : State} (ok : P s) (accepted : ∀ i ∈ xs, accepts (s.slot i).state) :
    P (xs.foldl (fun s i => op i s) s) := by
  induction xs generalizing s with
  | nil => exact ok
  | cons a xs ih =>
    obtain ⟨fresh, once⟩ := List.nodup_cons.1 once
    have first := accepted a List.mem_cons_self
    refine ih once (each s a ok first) fun j later => ?_
    rw [others s a j ok first fun e => fresh (e ▸ later)]
    exact accepted j (List.mem_cons_of_mem a later)

theorem accepted_of_no_conflict {accepts : SlotState → Bool} {mask : BitVec 16} {s : State}
    (free : conflictAnswer (slotsNot accepts mask s) = none) :
    ∀ i ∈ slotsOf mask, accepts (s.slot i).state = true := by
  cases refused : slotsNot accepts mask s with
  | cons a rest => rw [refused] at free; cases free
  | nil =>
    intro i named
    have kept := List.filter_eq_nil_iff.1 refused i named
    simpa using kept

theorem SlotAgrees.placed {s : State} {i : SlotId} (ok : SlotAgrees s i) : Placed s i := ⟨ok.scan, ok.discover⟩

theorem parkedCleared_lane (x : Slot) (l : LaneId) :
    (parkedCleared x)[l.val] = { (x.lane l).park with counters := .cleared } := byLane_getElem _ l

/-- R91: a slot begins its test. -/
theorem Steady.startSlot {s : State} {i : SlotId} (ok : Steady s) (k : Fin 4)
    (free : (s.slot i).state.offOrDone = true) : Steady (startSlot k i s) := by
  have rest := (ok.slot i).atRest_of_offOrDone free
  have idle (q : Fin 4) : claims s q i = false := claimsPattern_of_free (SlotState.abortable_of_offOrDone free) q
  rw [startSlot_eq rest.scan rest.discover]
  refine ⟨ok.toAgrees.enter (rest.entered_parked (Nat.zero_le 3) rfl (fun l => ?_) (fun l => ?_) _) nofun nofun ?_,
    ok.rests⟩
  · exact (congrArg Lane.position (parkedCleared_lane (s.slot i) l) :)
  · exact (congrArg Lane.soakRole (parkedCleared_lane (s.slot i) l) :)
  · rw [claimsMoved_single fun q j other => by rw [claims_eq, entered_other other]; rfl]
    simp only [idle, claims_eq, entered_own]
    simp [claimsAdded, Slot.claimsPattern, startedSlot, SlotState.abortable]
    exact congrArg Vector.ofFn (funext fun q => by
      by_cases e : (s.profiles[k.val]).payload = .pattern q <;> simp [e])

theorem Steady.startSlots {s : State} (ok : Steady s) (k : Fin 4) (xs : List SlotId) (once : xs.Nodup)
    (free : ∀ i ∈ xs, (s.slot i).state.offOrDone = true) :
    Steady (xs.foldl (fun s i => Machine.startSlot k i s) s) := by
  refine fold_slots (accepts := (·.offOrDone = true)) (fun s i ok free => ok.startSlot k free)
    (fun s i j ok free other => ?_) xs once ok free
  have rest := (ok.slot i).atRest_of_offOrDone free
  rw [startSlot_eq rest.scan rest.discover]
  exact congrArg Slot.state (entered_other other _ _ s)

/-- R97: a slot is cleared. -/
theorem Steady.clearSlot {s : State} {i : SlotId} (ok : Steady s) (free : (s.slot i).state.offOrDone = true) :
    Steady (s.modSlot i Slot.clearSlot) := by
  have rest := (ok.slot i).atRest_of_offOrDone free
  refine ⟨ok.toAgrees.enter (patterns := s.patterns) (rest.entered_parked (Nat.zero_le 3) rfl (fun l => ?_)
    (fun l => ?_) _) nofun nofun (claimsMoved_entered _ fun q => ?_).symm, ok.rests⟩
  · exact congrArg Lane.position (Slot.park_lane (s.slot i) l)
  · exact congrArg Lane.soakRole (Slot.park_lane (s.slot i) l)
  · rw [claimsPattern_of_free rfl, claimsPattern_of_free (SlotState.abortable_of_offOrDone free)]

theorem Steady.clearSlots {s : State} (ok : Steady s) (xs : List SlotId) (once : xs.Nodup)
    (free : ∀ i ∈ xs, (s.slot i).state.offOrDone = true) :
    Steady (xs.foldl (fun s i => s.modSlot i Slot.clearSlot) s) := by
  refine fold_slots (op := fun i s => s.modSlot i Slot.clearSlot) (accepts := (·.offOrDone = true))
    (fun s i ok free => ok.clearSlot free)
    (fun s i j ok free other => ?_) xs once ok free
  rw [State.modSlot_slot, if_neg other]

/-- R93: an ABORT ends the test of a slot. -/
theorem Agrees.abortSlot {s : State} {i : SlotId} (ok : Agrees s) (held : (s.slot i).state.abortable = true) :
    Agrees (abortSlot i s) := by
  have counted : Agrees { s with freeCount := s.freeCount + 1 } := ok.keeps (Apart.keeps ⟨rfl, rfl, rfl, rfl, rfl⟩)
  exact counted.toVerdict (f := Slot.marked (abortFinding s)) held rfl (ok.slot i).attempts fun l => .refl _

theorem Agrees.abortSlots {s : State} (ok : Agrees s) (xs : List SlotId) (once : xs.Nodup)
    (held : ∀ i ∈ xs, (s.slot i).state.abortable = true) : Agrees (xs.foldl (fun s i => Machine.abortSlot i s) s) :=
  fold_slots (accepts := (·.abortable = true)) (fun s i ok held => ok.abortSlot held)
    (fun s i j ok held other => (abortSlot_entered i s (ok.slot i).placed held).state_eq (by simpa using other))
    xs once ok held

theorem freshRun_kept (x : Slot) : SlotKept x x.freshRun where
  attempts := Nat.zero_le _
  pending := id
  lanes l := by
    rw [show x.freshRun.lane l = _ from byLane_getElem _ l]
    exact ⟨id, id, id⟩
  state := rfl
  payload := rfl

/-- R95: a RETEST takes a slot out of DONE. -/
theorem Agrees.retestDone {s : State} {i : SlotId} (ok : Agrees s) (done : (s.slot i).state = .done) :
    Agrees (retestSlot i s) := by
  have rest := (ok.slot i).atRest_of_offOrDone (by rw [done]; rfl)
  have notWatch : (s.slot i).state ≠ .watch := by rw [done]; decide
  have lane (l : LaneId) : (Slot.presenceBegun s i (s.slot i).watched.freshRun).lane l =
      { ((s.slot i).lane l).park with counters := .cleared } := by
    rw [← Slot.park_lane]
    exact byLane_getElem _ l
  rw [retestSlot_eq notWatch, toWatch_of_absent rest.scan rest.discover, modSlot_modSlot]
  refine ok.enter (rest.entered_parked (Nat.zero_le 3) rfl (fun l => ?_) (fun l => ?_) _) nofun nofun ?_
  · exact (congrArg Lane.position (lane l) :)
  · exact (congrArg Lane.soakRole (lane l) :)
  · rw [retestClaims, if_pos done]
    refine claimsAdded_eq (fun j other q => ?_) (by rw [done]; rfl) ?_ ?_
    · rw [claims_eq, entered_other other]
      rfl
    · rw [entered_own]
      rfl
    · rw [entered_own]
      rfl

/-- R94, R96: a RETEST begins the test of a slot again. -/
theorem Agrees.retestSlot {s : State} {i : SlotId} (ok : Agrees s)
    (accepted : (s.slot i).state.retestable = true) : Agrees (retestSlot i s) := by
  by_cases done : (s.slot i).state = .done
  · exact ok.retestDone done
  have held := SlotState.abortable_of_retestable accepted done
  by_cases watch : (s.slot i).state = .watch
  · rw [retestSlot_watch watch]
    exact ok.keeps (modSlot_keeps ⟨⟨Nat.zero_le _, id, fun l => .refl _⟩, rfl, rfl⟩)
  · have fewer : (s.slot i).attempts < 3 := by
      refine lt_of_le_of_ne (ok.slot i).attempts fun three => ?_
      rcases (ok.slot i).third three with e | e <;> rw [e] at held <;> cases held
    have watched := ok.toWatch (f := id) held rfl fewer rfl fun l => .refl _
    rw [modSlot_id] at watched
    have same : retestClaims i s = (Machine.toWatch i s).patterns := by
      rw [retestClaims, if_neg done, toWatch_patterns]
    rw [retestSlot_eq watch, same]
    have kept (x : Slot) : SlotKept x (x.freshRun.presenceBegun s i) :=
      SlotKept.trans (freshRun_kept x) (.of_eq rfl rfl rfl rfl rfl)
    exact watched.keeps (modSlot_keeps (f := fun x => x.freshRun.presenceBegun s i) (kept _))

theorem Agrees.retestSlots {s : State} (ok : Agrees s) (xs : List SlotId) (once : xs.Nodup)
    (accepted : ∀ i ∈ xs, (s.slot i).state.retestable = true) :
    Agrees (xs.foldl (fun s i => Machine.retestSlot i s) s) :=
  fold_slots (accepts := (·.retestable = true)) (fun s i ok accepted => ok.retestSlot accepted)
    (fun s i j ok accepted other =>
      (retestSlot_entered i s (ok.slot i).placed accepted).state_eq (by simpa using other)) xs once ok accepted

end Sys2Proof.Machine
end

section
/-! PROOF. The agreement of the slots through what the Record Writer does (R90, R164 to R172). -/

namespace Sys2Proof.Machine

open Sys2Proof Sys2Proof.Safety

/-- A change of what is pending and in flight: no slot and no queue is touched otherwise, and the VERDICT
records are those of slots in VERDICT. -/
structure Reports (s t : State) : Prop where
  scanner  : t.scanner = s.scanner
  sideband : t.sideband = s.sideband
  patterns : t.patterns = s.patterns
  body     : ∀ i, (t.slot i).state = (s.slot i).state ∧ (t.slot i).profile = (s.slot i).profile ∧
    (t.slot i).attempts = (s.slot i).attempts ∧ (t.slot i).lanes = (s.slot i).lanes
  pending  : ∀ i, (t.slot i).verdictPending = true → (s.slot i).state = .verdict ∧ ¬ verdictInFlight t i
  inFlight : ∀ i, verdictInFlight t i → (s.slot i).state = .verdict

theorem Steady.reports {s t : State} (ok : Steady s) (h : Reports s t) : Steady t := by
  obtain ⟨scanner, sideband, patterns, body, pending, inFlight⟩ := h
  have lane (i : SlotId) (l : LaneId) : (t.slot i).lane l = (s.slot i).lane l := by
    simp only [Slot.lane, (body i).2.2.2]
  refine ⟨⟨⟨by rw [scanner]; exact ok.once, fun i => ?_, fun n => ?_⟩, by rw [scanner]; exact ok.sweep,
    fun i => (ok.active i).kept scanner fun l => by rw [lane]; exact .refl _⟩, ok.rests.of_scanner scanner⟩
  · obtain ⟨state, -, attempts, -⟩ := body i
    have agrees := ok.slot i
    constructor
    all_goals try rw [state]
    · rw [scanner]; exact agrees.scan
    · rw [sideband]; exact agrees.once
    · rw [sideband]; exact agrees.discover
    · exact pending i
    · exact inFlight i
    · rw [attempts]; exact agrees.attempts
    · rw [attempts]; exact agrees.third
    · simp only [lane, scanner]; exact agrees.position
    · simp only [lane]; exact agrees.soaked
  · have same : Safety.claims t n = Safety.claims s n := funext fun i => by
      rw [claims_eq, claims_eq, Slot.claimsPattern, Slot.claimsPattern, (body i).1, (body i).2.1]
    rw [patterns, same]
    exact ok.claims n

/-! ### The start of a write (R166, R169) -/

theorem mem_pendingKinds_verdict {x : Slot} : .verdict ∈ x.pendingKinds ↔ x.verdictPending = true := by
  simp [Slot.pendingKinds]

theorem verdictInFlight_of_none {s : State} (none : s.writer.inFlight = none) (i : SlotId) :
    ¬ verdictInFlight s i := by
  rintro ⟨f, held, -⟩
  rw [none] at held
  cases held

/-- R164: a slot whose pending indication of the kind is cleared. -/
def Slot.cleared (kind : RecordKind) (x : Slot) : Slot := { x with
  flags := if kind = .event then 0 else x.flags
  progressPending := x.progressPending && decide (kind ≠ .progress)
  scanPending := x.scanPending && decide (kind ≠ .scan)
  verdictPending := x.verdictPending && decide (kind ≠ .verdict) }

theorem clearPending_slot (src : RecSource) (kind : RecordKind) (s : State) (i : SlotId) :
    (clearPending src kind s).slot i = if src = .slot i then (s.slot i).cleared kind else s.slot i := by
  cases src with
  | status => cases kind <;> simp [clearPending]
  | slot k =>
    by_cases e : i = k
    · subst e; cases kind <;> simp [clearPending, Slot.cleared]
    · have away : k ≠ i := fun e' => e e'.symm
      cases kind <;> simp [clearPending, e, away]

theorem clearPending_apart (src : RecSource) (kind : RecordKind) (s : State) :
    (clearPending src kind s).scanner = s.scanner ∧ (clearPending src kind s).sideband = s.sideband ∧
      (clearPending src kind s).patterns = s.patterns ∧ (clearPending src kind s).writer = s.writer := by
  unfold clearPending
  split <;> exact ⟨rfl, rfl, rfl, rfl⟩

theorem Steady.startWrite {s : State} (ok : Steady s) (selected : Selected s) : Steady (startWrite s) := by
  obtain e | ⟨sel, r, -, -, -, -, e⟩ | ⟨sel, r, waits, -, -, -, e⟩ := startWrite_cases s <;> rw [e]
  · exact ok
  · refine ok.reports ⟨rfl, rfl, rfl, fun i => ⟨rfl, rfl, rfl, rfl⟩, fun i h => ⟨((ok.slot i).pending h).1, ?_⟩, ?_⟩
    · rintro ⟨f, held, -, kind⟩
      cases held
      cases kind
    · rintro i ⟨f, held, -, kind⟩
      cases held
      cases kind
  · obtain ⟨-, held⟩ := waitingSelection_eq_some waits
    have pending := selected sel held
    let begun := s.modWriter fun w => { w with inFlight := some (recordInFlight s r sel), selection := none }
    obtain ⟨scanner, sideband, patterns, writer⟩ := clearPending_apart sel.source sel.kind begun
    have flies (i : SlotId) (h : verdictInFlight (clearPending sel.source sel.kind begun) i) :
        sel.source = .slot i ∧ sel.kind = .verdict := by
      obtain ⟨f, held, source, kind⟩ := h
      rw [writer] at held
      cases held
      exact ⟨source, kind⟩
    refine ok.reports ⟨scanner, sideband, patterns, fun i => ?_, fun i h => ?_, fun i h => ?_⟩
    · rw [clearPending_slot]
      split <;> exact ⟨rfl, rfl, rfl, rfl⟩
    · rw [clearPending_slot] at h
      split at h
      · rename_i source
        obtain ⟨stands, other⟩ := Bool.and_eq_true_iff.1 h
        exact ⟨((ok.slot i).pending stands).1, fun h => of_decide_eq_true other (flies i h).2⟩
      · rename_i other
        exact ⟨((ok.slot i).pending h).1, fun h => other (flies i h).1⟩
    · obtain ⟨source, kind⟩ := flies i h
      rw [source, kind] at pending
      exact ((ok.slot i).pending (mem_pendingKinds_verdict.1 pending)).1

/-! ### A record that is not published (R164, R170, R171) -/

theorem Steady.unpublished {s t : State} {f : InFlight} (ok : Steady s) (held : s.writer.inFlight = some f)
    (scanner : t.scanner = s.scanner) (sideband : t.sideband = s.sideband) (patterns : t.patterns = s.patterns)
    (slots : t.slots = slotsRepended s f) (none : t.writer.inFlight = none) : Steady t := by
  have free := verdictInFlight_of_none none
  have slot (i : SlotId) : t.slot i = if f.source = .slot i then { s.slot i with
        flags := if f.kind = .event then (s.slot i).flags ||| f.flags else (s.slot i).flags
        progressPending := (s.slot i).progressPending || decide (f.kind = .progress)
        scanPending := (s.slot i).scanPending || decide (f.kind = .scan)
        verdictPending := (s.slot i).verdictPending || decide (f.kind = .verdict) } else s.slot i := by
    simp only [State.slot, slots, slotsRepended, Vector.getElem_ofFn]
  refine ok.reports ⟨scanner, sideband, patterns, fun i => ?_, fun i h => ⟨?_, free i⟩, fun i h => absurd h (free i)⟩
  · rw [slot]
    split <;> exact ⟨rfl, rfl, rfl, rfl⟩
  · rw [slot] at h
    split at h
    · rename_i source
      rcases Bool.or_eq_true_iff.1 h with stood | kind
      · exact ((ok.slot i).pending stood).1
      · exact (ok.slot i).inFlight ⟨f, held, source, of_decide_eq_true kind⟩
    · exact ((ok.slot i).pending h).1

/-- R171: a reset of the ring. -/
theorem Steady.ringReset {s : State} (ok : Steady s) (keep : Bool) : Steady (ringReset keep s) := by
  rw [ringReset_eq]
  cases held : s.writer.inFlight with
  | none =>
    have same : repended s = s := by simp only [repended, held]
    rw [same]
    exact ok.reports ⟨rfl, rfl, rfl, fun i => ⟨rfl, rfl, rfl, rfl⟩,
      fun i h => ⟨((ok.slot i).pending h).1, verdictInFlight_of_none rfl i⟩,
      fun i h => absurd h (verdictInFlight_of_none rfl i)⟩
  | some f =>
    have same : repended s = { s with
        slots := slotsRepended s f
        decoder := { s.decoder with statusPending := statusRepended s f } } := by simp only [repended, held]
    rw [same]
    exact ok.unpublished held rfl rfl rfl rfl rfl

theorem ringReset_selected (keep : Bool) (s : State) : Selected (ringReset keep s) := by
  rw [ringReset_eq]
  exact nofun

theorem InStep.failRecord {s : State} {f : InFlight} (ok : InStep s) (held : s.writer.inFlight = some f) :
    InStep (failRecord f s) := by
  rw [Machine.failRecord, repend_eq]
  refine Steady.settled ?_
  exact ok.toSteady.unpublished (f := f) held rfl rfl rfl rfl rfl

/-! ### Publication (R90, R169) -/

/-- The record in flight is the same but for its pieces and its place. -/
theorem sameFlight_quiet {s : State} {w : Writer} (inFlight : ∀ f', w.inFlight = some f' →
    ∃ f, s.writer.inFlight = some f ∧ f'.source = f.source ∧ f'.kind = f.kind)
    (selection : w.selection = s.writer.selection) : Quiet s { s with writer := w } where
  scanner := rfl
  sideband _ := le_rfl
  inUse _ := rfl
  slot _ := .refl _
  selection := selection
  pending src := by cases src <;> rfl
  inFlight i := by
    rintro ⟨f', held, source, kind⟩
    obtain ⟨f, held, source', kind'⟩ := inFlight f' held
    exact ⟨f, held, source'.symm.trans source, kind'.symm.trans kind⟩

theorem resetAge_quiet (s : State) : Quiet s (resetAge s) := Apart.quiet ⟨rfl, rfl, rfl, rfl, rfl⟩ rfl rfl

/-- The VERDICT record of a slot is published. -/
theorem InStep.enterDone {s t : State} {i : SlotId} (ok : InStep s) (flies : verdictInFlight s i)
    (t_eq : t = { s with writer := t.writer }) (selection : t.writer.selection = s.writer.selection)
    (landed : t.writer.inFlight = none) : InStep (enterDone i t) := by
  have agrees := ok.slot i
  have verdict := agrees.inFlight flies
  have slot (j : SlotId) : t.slot j = s.slot j := by rw [t_eq]; rfl
  have free := verdictInFlight_of_none landed
  have kept : Keeps s t := by
    rw [t_eq]
    exact ⟨rfl, fun _ => le_rfl, fun j h => absurd h (by rw [← t_eq]; exact free j), fun _ => rfl, fun _ => .refl _⟩
  have steady : Steady t := ok.toSteady.keeps kept
  have state : (t.slot i).state = .verdict := by rw [slot]; exact verdict
  have clear : (t.slot i).verdictPending = false := by
    rw [slot, ← Bool.not_eq_true]
    exact fun h => (agrees.pending h).2 flies
  have notDiscover : .discovery i ∉ t.sideband.queue := fun h => by cases state.symm.trans ((steady.slot i).discover h)
  have rest : AtRest t i := (steady.slot i).atRest (by rw [state]; decide) notDiscover clear (free i)
  refine ⟨steady.move rest (.of_eq rfl rfl rfl) nofun (fun _ => .inr rfl) fun q => ?_, fun sel held => ?_⟩
  · rw [claimsPattern_of_free rfl, claimsPattern_of_free (by rw [state]; rfl)]
  · have pending := ok.selected sel (selection.symm.trans held)
    have same : pendingKinds (Machine.enterDone i t) sel.source = pendingKinds s sel.source := by
      cases sel.source with
      | status => rw [t_eq]; rfl
      | slot j =>
        have own : ((Machine.enterDone i t).slot j).pendingKinds = (t.slot j).pendingKinds := by
          rw [Machine.enterDone, State.modSlot_slot]
          split
          · rename_i e; rw [e]; rfl
          · rfl
        exact own.trans (congrArg Slot.pendingKinds (slot j))
    rwa [same]

theorem InStep.publishedSlot {s : State} {f : InFlight} (ok : InStep s) (held : s.writer.inFlight = some f)
    (size : Nat) : InStep (publishedSlot f (s.modWriter (publishRing f size s.us))) := by
  unfold Machine.publishedSlot
  split
  · rename_i i source kind
    exact ok.enterDone ⟨f, held, source, kind⟩ rfl rfl rfl
  · exact ok.quiet (sameFlight_quiet nofun rfl)

theorem InStep.publish {s : State} {f : InFlight} (ok : InStep s) (held : s.writer.inFlight = some f) :
    InStep (publish f s) := by
  unfold Machine.publish
  split
  · exact ok
  · rename_i r _
    have published := ok.publishedSlot held r.size
    have aged : InStep (if (qualifying s).isEmpty then
        resetAge (Machine.publishedSlot f (s.modWriter (publishRing f r.size s.us)))
        else Machine.publishedSlot f (s.modWriter (publishRing f r.size s.us))) := by
      split
      · exact published.quiet (resetAge_quiet _)
      · exact published
    have evaluated := aged.quiet (evaluate_quiet _)
    exact (evaluated.toSteady.startWrite evaluated.selected).settled

/-! ### Acknowledgements and the insert queue (R13, R14, R166, R169, R170) -/

theorem InStep.pieceDone {s : State} {f : InFlight} (ok : InStep s) (held : s.writer.inFlight = some f) :
    InStep (pieceDone f s) := by
  unfold Machine.pieceDone
  split
  · exact ok.publish held
  · refine ok.quiet (sameFlight_quiet (fun f' e => ?_) rfl)
    cases e
    exact ⟨f, held, rfl, rfl⟩

theorem insertedFailed_quiet (s : State) : Quiet s (insertedFailed s) := Apart.quiet ⟨rfl, rfl, rfl, rfl, rfl⟩ rfl rfl

theorem InStep.recordAcked {s : State} (ok : InStep s) (k : Fin 8) (status : RespStatus) :
    InStep (recordAcked k status s) := by
  unfold Machine.recordAcked
  split
  · rename_i f held
    split
    · cases status with
      | ok => exact ok.pieceDone held
      | error => exact ok.failRecord held
    · exact ok
  · split
    · have dropped {t : State} (ok : InStep t) : 
          InStep (settle (t.modWriter fun w => { w with abandoned := none })) := by
        refine Steady.settled ?_
        exact ok.toSteady.keeps (Apart.keeps ⟨rfl, rfl, rfl, rfl, rfl⟩)
      cases status with
      | ok => exact dropped ok
      | error => exact dropped (ok.quiet (insertedFailed_quiet s))
    · exact ok

theorem InStep.producerAcked {s : State} (ok : InStep s) (prod : Producer) (k : Fin 8) (status : RespStatus) :
    InStep (producerAcked prod k status s) := by
  unfold Machine.producerAcked
  split
  · exact ok.recordAcked k status
  all_goals
    cases status with
    | ok => exact ok
    | error => exact ok.quiet (insertedFailed_quiet s)

theorem wordJoined_statusPending (d : Decoder) : d.wordJoined.statusPending = d.statusPending := by
  unfold Decoder.wordJoined
  split <;> rfl

theorem InStep.modPath {s : State} (ok : InStep s) (f : Path → Path) : InStep (s.modPath f) :=
  ok.quiet (Apart.quiet ⟨rfl, rfl, rfl, rfl, rfl⟩ rfl rfl)

theorem InStep.joinNext {s : State} (ok : InStep s) : InStep (joinNext s) := by
  unfold Machine.joinNext
  split
  · rename_i k prod w _ _
    have joined := ok.modPath (joinQueue k prod w)
    cases prod with
    | decoder =>
      exact joined.quiet (Apart.quiet ⟨rfl, rfl, rfl, rfl, rfl⟩ rfl (wordJoined_statusPending _))
    | record =>
      refine joined.quiet (sameFlight_quiet (fun f' e => ?_) rfl)
      obtain ⟨f, held, rfl⟩ := Option.map_eq_some_iff.1 e
      exact ⟨f, held, rfl, rfl⟩
    | attention => exact joined.quiet (Apart.quiet ⟨rfl, rfl, rfl, rfl, rfl⟩ rfl rfl)
  · exact ok

/-- The first words on offer join the insert queue. -/
theorem joinUntilAnswered_keeps {P : State → Prop} (joins : ∀ {s}, P s → P (joinNext s)) (n : BlockId) (k : Nat)
    {s : State} (ok : P s) : P (joinUntilAnswered n k s) := by
  induction k generalizing s with
  | zero => exact ok
  | succ k ih =>
    unfold joinUntilAnswered
    split
    · exact ih (joins ok)
    · exact ok

/-! ### Reads of the ring (R172) -/

theorem InStep.consumed {s : State} (ok : InStep s) (covered : Published → Bool) :
    InStep (s.modWriter (Writer.consume covered)) :=
  ok.quiet (sameFlight_quiet (fun f e => ⟨f, e, rfl, rfl⟩) rfl)

theorem InStep.consumeRead {s : State} (ok : InStep s) (a : Addr) (beats : Nat) : InStep (consumeRead a beats s) := by
  simp only [Machine.consumeRead]
  split
  · exact ok
  · rename_i r _
    split
    · have consumed := (ok.consumed fun p => headerCovered r.base p a beats).quiet (resetAge_quiet _)
      exact (consumed.toSteady.startWrite consumed.selected).settled
    · exact ok

end Sys2Proof.Machine
end

section
/-! PROOF. The agreement of the slots through the commands (R18 to R41), the hand-off of an answered request
(R48 to R50) and the resets (R16, R17). -/

namespace Sys2Proof.Machine

open Sys2Proof Sys2Proof.Safety

/-! ### The commands -/

theorem giveAnswer_keeps (n : BlockId) (tag : BitVec 16) (a : Answer) (s : State) :
    Keeps s (giveAnswer n tag a s) := by
  unfold giveAnswer
  split <;> exact Apart.keeps ⟨rfl, rfl, rfl, rfl, rfl⟩

theorem Steady.examine {n : BlockId} {tag : BitVec 16} {faults : List (Bool × Nat × Nat)}
    {act : State → State × Option Answer} {s : State} (ok : Steady s) (h : Steady (act s).1) :
    Steady (examine n tag faults act s) := by
  unfold Machine.examine
  split
  · exact ok.keeps (giveAnswer_keeps ..)
  · split
    · rename_i s' e; rwa [e] at h
    · rename_i s' a e; rw [e] at h; exact h.keeps (giveAnswer_keeps ..)

theorem InStep.takeCandidate {n : BlockId} {tag : BitVec 16} {body : State → State}
    (h : ∀ {s}, Steady s → Steady (body s)) {s : State} (ok : InStep s) : InStep (takeCandidate n tag body s) := by
  have counted : Steady (countTaken s) := ok.toSteady.keeps (Apart.keeps ⟨rfl, rfl, rfl, rfl, rfl⟩)
  unfold Machine.takeCandidate
  split
  · exact ok
  · refine Steady.settled ?_
    split
    · exact counted.keeps (giveAnswer_keeps ..)
    · exact h counted

/-- A command whose effect keeps the agreement. -/
theorem InStep.takeExamined {n : BlockId} {tag : BitVec 16} {faults : State → List (Bool × Nat × Nat)}
    {act : State → State × Option Answer} (h : ∀ {s}, Steady s → Steady (act s).1) {s : State} (ok : InStep s) :
    InStep (Machine.takeCandidate n tag (fun s => Machine.examine n tag (faults s) act s) s) :=
  .takeCandidate (fun ok => ok.examine (h ok)) ok

theorem modPattern_quiet {s : State} {k : Fin 4} {f : Pattern → Pattern}
    (inUse : ∀ p, (f p).inUse = p.inUse) : Quiet s (s.modPattern k f) where
  scanner := rfl
  sideband _ := le_rfl
  inFlight _ := id
  inUse n := by
    rw [State.modPattern_patterns]
    by_cases e : k.val = n.val
    · simp only [e, Vector.getElem_set_self, inUse]
    · rw [Vector.getElem_set_ne _ _ e]
  slot _ := .refl _
  selection := rfl
  pending src := by cases src <;> rfl

section
variable {s : State} (ok : Steady s)
include ok

theorem Steady.apart {t : State} (scanner : t.scanner = s.scanner) (sideband : t.sideband = s.sideband)
    (writer : t.writer = s.writer) (patterns : t.patterns = s.patterns) (slots : t.slots = s.slots) : Steady t :=
  ok.keeps (Apart.keeps ⟨scanner, by rw [sideband], by rw [writer], patterns, slots⟩)

theorem Steady.actSetWindow (h : BlockHead) (p : WindowParams) : Steady (actSetWindow h p s).1 := by
  have set (path : Path) : Steady { s with path := path } := ok.apart rfl rfl rfl rfl rfl
  simp only [Machine.actSetWindow]
  split
  · exact (set _).ringReset true
  · exact set _

theorem Steady.actDefinePattern (h : BlockHead) (length : Byte) : Steady (actDefinePattern h length s).1 := by
  simp only [Machine.actDefinePattern]
  split
  · exact ok
  · exact ok.keeps (Quiet.toKeeps (s := s) (modPattern_quiet (k := sel4 h.selector)
      (f := fun p => { p with length := clamp 1 32 length.toNat }) fun _ => rfl))

theorem Steady.actSetTimebase (p : TimebaseParams) : Steady (actSetTimebase p s).1 := by
  unfold Machine.actSetTimebase
  split
  · exact ok
  · exact ok.apart rfl rfl rfl rfl rfl

theorem Steady.actStart (h : BlockHead) : Steady (actStart h s).1 := by
  unfold Machine.actStart
  split
  · exact ok
  · rename_i passes
    exact ok.startSlots _ _ (slotsOf_nodup _) (accepted_of_no_conflict passes)

theorem Steady.actAbort (h : BlockHead) : Steady (actAbort h s).1 :=
  (ok.toAgrees.abortSlots _ ((slotsOf_nodup _).filter _) fun _ named => (List.mem_filter.1 named).2).swept

theorem Steady.actRetest (h : BlockHead) : Steady (actRetest h s).1 := by
  unfold Machine.actRetest
  split
  · exact ok
  · rename_i passes
    exact (ok.toAgrees.retestSlots _ (slotsOf_nodup _) (accepted_of_no_conflict passes)).swept

theorem Steady.actClear (h : BlockHead) : Steady (actClear h s).1 := by
  unfold Machine.actClear
  split
  · exact ok
  · rename_i passes
    exact ok.clearSlots _ (slotsOf_nodup _) (accepted_of_no_conflict passes)

theorem Steady.actSnapshot (h : BlockHead) : Steady (actSnapshot h s).1 :=
  .fold (fun _ _ ok => ok.keeps (modSlot_keeps (.of_eq rfl rfl rfl rfl rfl))) _ ok

theorem Steady.actSideband (n : BlockId) (h : BlockHead) (p : SidebandParams) :
    Steady (actSideband n h p s).1 := by
  simp only [Machine.actSideband]
  split
  · exact ok
  · split
    · exact ok
    · refine Steady.keeps ?_ (sbJoin_host_keeps _ _)
      exact ok.apart rfl rfl rfl rfl rfl

end

theorem InStep.takeBlock {s : State} (ok : InStep s) (c : Instr) : InStep (takeBlock c s) := by
  cases c with
  | unknownCode n code h =>
    unfold Machine.takeBlock takeUnknown
    exact ok.takeCandidate fun ok => ok.keeps (giveAnswer_keeps ..)
  | setWindow n h p =>
    unfold Machine.takeBlock takeSetWindow
    exact ok.takeExamined fun ok => ok.actSetWindow h p
  | setProfile n h p =>
    unfold Machine.takeBlock takeSetProfile
    exact ok.takeExamined fun ok => ok.apart rfl rfl rfl rfl rfl
  | definePattern n h l =>
    unfold Machine.takeBlock takeDefinePattern
    exact ok.takeExamined fun ok => ok.actDefinePattern h l
  | setTimebase n h p =>
    unfold Machine.takeBlock takeSetTimebase
    exact ok.takeExamined fun ok => ok.actSetTimebase p
  | setAttention n h p =>
    unfold Machine.takeBlock takeSetAttention
    exact ok.takeExamined fun ok => ok.apart rfl rfl rfl rfl rfl
  | start n h =>
    unfold Machine.takeBlock takeStart
    exact ok.takeExamined fun ok => ok.actStart h
  | abort n h =>
    unfold Machine.takeBlock takeAbort
    exact ok.takeExamined fun ok => ok.actAbort h
  | retest n h =>
    unfold Machine.takeBlock takeRetest
    exact ok.takeExamined fun ok => ok.actRetest h
  | clear n h =>
    unfold Machine.takeBlock takeClear
    exact ok.takeExamined fun ok => ok.actClear h
  | snapshot n h =>
    unfold Machine.takeBlock takeSnapshot
    exact ok.takeExamined fun ok => ok.actSnapshot h
  | sideband n h p =>
    unfold Machine.takeBlock takeSideband
    exact ok.takeExamined fun ok => ok.actSideband n h p
  | status n h =>
    unfold Machine.takeBlock takeStatus
    exact ok.takeExamined fun ok => ok.apart rfl rfl rfl rfl rfl
  | _ => exact ok

/-! ### The hand-off (R48 to R50, R172) -/

theorem InStep.modCounts {s : State} (ok : InStep s) (f : Counts → Counts) : InStep (s.modCounts f) :=
  ok.quiet (Apart.quiet ⟨rfl, rfl, rfl, rfl, rfl⟩ rfl rfl)

theorem InStep.accept {s : State} (ok : InStep s) (r : Request) : InStep (accept r s) := by
  simp only [Machine.accept, countAccepted]
  split
  · refine InStep.modCounts ?_ _
    split
    · exact (ok.modPath _).modCounts _
    · exact ok.modPath _
  · split
    · exact (ok.modPath _).modCounts _
    · exact ok.modPath _

theorem InStep.handCommand {s : State} (ok : InStep s) (cls : Class) (status : RespStatus) :
    InStep (handCommand cls status s) := by
  have counted : InStep (if cls.partly then countPartial s else s) := by
    split
    · exact ok.modCounts _
    · exact ok
  simp only [Machine.handCommand]
  cases status with
  | ok => exact List.foldlRecOn _ _ counted fun s ok b _ => ok.takeBlock (decodeBlock b.1 b.2)
  | error =>
    simp only
    split
    · exact counted
    · exact counted.modCounts _

theorem Pattern.handOff_inUse (bytes : List (Nat × Byte)) (status : RespStatus) (p : Pattern) :
    (p.handOff bytes status).inUse = p.inUse := by
  unfold Pattern.handOff
  split <;> rfl

theorem InStep.handOff {s : State} (ok : InStep s) (e : OutEntry) (status : RespStatus) :
    InStep (handOff e status s) := by
  unfold Machine.handOff
  split
  · exact ok.handCommand _ _
  · exact ok.quiet (modPattern_quiet (Pattern.handOff_inUse _ _))
  · exact ok.consumeRead _ _
  all_goals exact ok

/-! ### The resets (R16, R17) -/

theorem sidebandPortReset_keeps (s : State) : Keeps s (sidebandPortReset s) := by
  rw [sidebandPortReset_eq]
  exact sideband_keeps List.filter_sublist _

theorem InStep.portReset {s : State} (ok : InStep s) : InStep (portReset s) := by
  have cleared : Steady (sidebandPortReset (({ s with
      prst := true, path := s.path.portReset, decoder := s.decoder.portReset } : State).modAttention
        Attention.portReset)) := by
    refine Steady.keeps ?_ (sidebandPortReset_keeps _)
    exact ok.toSteady.apart rfl rfl rfl rfl rfl
  exact InStep.quiet ⟨cleared.ringReset false, ringReset_selected _ _⟩ (evaluate_quiet _)

theorem powerOnReset_inStep (s : State) : InStep (powerOnReset s) :=
  InStep.quiet ((inStep_iff .reset).2 ⟨reset_slotsOk, reset_sweepOk, reset_claimsOk⟩)
    (Apart.quiet ⟨rfl, rfl, rfl, rfl, rfl⟩ rfl rfl)

end Sys2Proof.Machine
end

section
/-! PROOF. The agreement of the slots through the lanes' events, presence, the sideband line and a step. -/

namespace Sys2Proof.Machine

open Sys2Proof Sys2Proof.Safety

/-! ### Lanes (R66 to R77, R152) -/

theorem Agrees.withStep {s : State} {i : SlotId} {l : LaneId} {sw : Sweep} {x : StepState × ScanLane}
    (ok : Agrees s) (head : s.scanner.queue.head? = some i) (sweep : s.scanner.sweep = some sw)
    (part : x.1.takesPart = true → (sw.steps[l.val]).takesPart = true) : Agrees (withStep i l sw x s) := by
  let measured := s.modSlot i fun y => { y with scan := { y.scan with lanes := y.scan.lanes.set l.val x.2 } }
  have kept : Agrees measured := ok.keeps (modSlot_keeps (.of_eq rfl rfl rfl rfl rfl))
  refine ⟨⟨kept.once, fun j => ?_, kept.claims⟩, iff_of_false nofun fun empty => ?_, fun j front => ?_⟩
  · exact (kept.slot j).kept ⟨.rfl, id, le_rfl, id⟩ (.refl _)
  · rw [show s.scanner.queue = [] from empty] at head
    cases head
  · rintro _ ⟨⟩ m parts
    have before : (sw.steps[m.val]).takesPart = true := by
      by_cases e : l.val = m.val
      · simp only [e, Vector.getElem_set_self] at parts
        have before := part parts
        simpa only [e] using before
      · simpa only [Vector.getElem_set_ne _ _ e] using parts
    exact kept.active j front sw sweep m before

/-- What is reported of a step brings no lane into it. -/
theorem Steady.scanReport {s : State} {i : SlotId} {l : LaneId}
    {f : Nat → StepState → ScanLane → StepState × ScanLane}
    (part : ∀ p st r, (f p st r).1.takesPart = true → st.takesPart = true) (ok : Steady s) :
    Steady (scanReport i l f s) := by
  unfold Machine.scanReport
  split
  · exact ok
  · rename_i sw sweep
    split
    · rename_i head
      exact (ok.toAgrees.withStep head sweep (part _ _ _)).swept
    · exact ok

theorem scanEvent_takesPart (p : Nat) (st : StepState) (r : ScanLane) (e : LaneEvent)
    (part : (scanEvent p st r e).1.takesPart = true) : st.takesPart = true := by
  cases st with
  | waitLock | dwell | finished => rfl
  | unscanned | broken => cases e <;> exact part

theorem scanEvents_takesPart (es : List LaneEvent) (p : Nat) (st : StepState) (r : ScanLane)
    (part : (scanEvents p st r es).1.takesPart = true) : st.takesPart = true := by
  induction es generalizing st r with
  | nil => exact part
  | cons e es ih => exact scanEvent_takesPart p st r e (ih _ _ part)

theorem scanTally_takesPart (dwell m p : Nat) (st : StepState) (r : ScanLane)
    (part : (scanTally dwell m p st r).1.takesPart = true) : st.takesPart = true := by
  cases st with
  | waitLock | dwell | finished => rfl
  | unscanned | broken => exact part

theorem Steady.trainingCheck {s : State} (ok : Steady s) (i : SlotId) : Steady (trainingCheck i s) := by
  simp only [Machine.trainingCheck]
  split
  · rename_i h
    exact ok.endTraining h.1
  · exact ok

theorem Steady.laneReports {s : State} {i : SlotId} {l : LaneId} {x : Lane} (ok : Steady s)
    (kept : LaneKept ((s.slot i).lane l) x) (es : List LaneEvent) : Steady (laneReports i l x es s) := by
  have told : Steady (s.modSlot i fun sl => es.foldl (Slot.heed l) (sl.withLane l x)) :=
    ok.keeps (modSlot_keeps (.trans (.withLane kept) (.heed l es _)))
  simp only [Machine.laneReports]
  split
  · exact told
  · exact (told.scanReport fun p st r => scanEvents_takesPart es p st r).trainingCheck i

/-! ### Presence (R80 to R88) -/

theorem SlotState.abortable_of_testing {st : SlotState} (h : st.testing = true) : st.abortable = true := by
  simp [SlotState.abortable, h]

theorem Agrees.removed {s : State} {i : SlotId} (ok : Agrees s) (test : (s.slot i).state.testing = true) :
    Steady (removal i s) := by
  have held := SlotState.abortable_of_testing test
  have few : (s.slot i).attempts < 3 := by
    refine lt_of_le_of_ne (ok.slot i).attempts fun three => ?_
    rcases (ok.slot i).third three with e | e <;> rw [e] at test <;> cases test
  simp only [removal]
  refine Agrees.swept ?_
  split
  · rename_i fewer
    exact ok.toWatch held rfl fewer rfl fun l => .refl _
  · rw [modSlot_modSlot]
    exact ok.toVerdict held rfl few fun l => .refl _

theorem Steady.debounceTaken {s : State} (ok : Steady s) (i : SlotId) : Steady (debounceTaken i s) := by
  have kept {s : State} {f : Slot → Slot} (ok : Steady s) (h : SlotKept (s.slot i) (f (s.slot i))) :
      Steady (s.modSlot i f) := ok.keeps (modSlot_keeps h)
  have taken : Steady (s.modSlot i fun sl =>
      { sl with present := rawPresence s i, debounceTimer := none }) := kept ok (.of_eq rfl rfl rfl rfl rfl)
  have state {s : State} {f : Slot → Slot} (h : (f (s.slot i)).state = (s.slot i).state) :
      ((s.modSlot i f).slot i).state = (s.slot i).state := by
    rw [State.modSlot_slot, if_pos rfl, h]
  simp only [Machine.debounceTaken]
  split
  · exact taken
  · split
    · simp only [presenceAssertion]
      split
      · rename_i watch
        exact Steady.toSettle (kept taken (.of_eq rfl rfl rfl rfl rfl)) ((state rfl).trans watch)
      · exact kept taken (.of_eq rfl rfl rfl rfl rfl)
    · simp only [presenceLoss]
      split
      · rename_i test
        refine (kept taken (.of_eq rfl rfl rfl rfl rfl)).toAgrees.removed ?_
        rw [state rfl]
        exact test
      · exact kept taken (.of_eq rfl rfl rfl rfl rfl)

theorem modSlot_quiet {s : State} {i : SlotId} {f : Slot → Slot} (kept : SlotKept (s.slot i) (f (s.slot i)))
    (pending : (f (s.slot i)).pendingKinds = (s.slot i).pendingKinds) : Quiet s (s.modSlot i f) where
  toKeeps := modSlot_keeps kept
  selection := rfl
  pending
    | .status => rfl
    | .slot j => by
      rw [pendingKinds, pendingKinds, State.modSlot_slot]
      split
      · rename_i e
        rw [e, pending]
      · rfl

theorem InStep.rawChanged {s : State} (ok : InStep s) (i : SlotId) (before : Bool) :
    InStep (rawChanged i before s) := by
  simp only [Machine.rawChanged]
  split
  · exact ok
  · exact ok.quiet (modSlot_quiet (.of_eq rfl rfl rfl rfl rfl) rfl)

/-- R87: DISCOVER is entered with nothing pending or selected changed. -/
theorem InStep.toDiscover {s : State} {i : SlotId} (ok : InStep s) (settle : (s.slot i).state = .settle) :
    InStep (toDiscover i s) := by
  refine ⟨ok.toSteady.toDiscover settle, fun sel held => ?_⟩
  let entered := s.modSlot i fun x => { x.mapLanes (fun _ x => x.activate) with
    state := .discover, stateTimer := none, identity := none }
  have joined : SameOutsideTest entered (Machine.toDiscover i s) := sbJoin_test (.discovery i) entered
  have apart : Apart _ (Machine.toDiscover i s) := sbJoin_apart (.discovery i) entered
  have pending (src : RecSource) : pendingKinds (Machine.toDiscover i s) src = pendingKinds s src := by
    rw [apart.pendingKinds (by rw [joined]; rfl)]
    cases src with
    | status => rfl
    | slot j =>
      have same : (entered.slot j).pendingKinds = (s.slot j).pendingKinds := by
        rw [State.modSlot_slot]
        split
        · rename_i e
          rw [e]
          rfl
        · rfl
      exact same
  rw [pending]
  refine ok.selected sel (Eq.trans ?_ held)
  rw [joined]
  rfl

/-! ### The sideband line (R101 to R122) -/

theorem withEngine_quiet (s : State) (e : Engine) : Quiet s (s.withEngine e) :=
  Apart.quiet ⟨rfl, rfl, rfl, rfl, rfl⟩ rfl rfl

theorem Steady.withEngine {s : State} (ok : Steady s) (e : Engine) : Steady (s.withEngine e) :=
  ok.keeps (withEngine_quiet s e).toKeeps

theorem InStep.withEngine {s : State} (ok : InStep s) (e : Engine) : InStep (s.withEngine e) :=
  ok.quiet (withEngine_quiet s e)

theorem InStep.engineFree {s : State} (ok : InStep s) : InStep (engineFree s) := by
  rw [engineFree_eq]
  exact ok.quiet (Apart.quiet ⟨rfl, rfl, rfl, rfl, rfl⟩ rfl rfl)

theorem InStep.hostEnd {s : State} (ok : InStep s) (e : HostEntry) (r : TxnResult) : InStep (hostEnd e r s) := by
  have ended : InStep (headEnds s) := ok.quiet ⟨headEnds_keeps s, by rw [headEnds_eq], fun src => (by
    rw [headEnds_eq]; cases src <;> rfl)⟩
  have reported : InStep (reportHost e r (headEnds s)) := by
    unfold reportHost
    split
    · exact ended
    · exact ended.quiet (Apart.quiet ⟨rfl, rfl, rfl, rfl, rfl⟩ rfl rfl)
  exact joinUntilAnswered_keeps (P := InStep) InStep.joinNext e.block 8 reported

theorem InStep.walkGoesOn {s : State} {i : SlotId} {rest : List SbEntry} (ok : InStep s)
    (queue : s.sideband.queue = .discovery i :: rest) (r : TxnResult) : Steady (walkGoesOn i r s) := by
  have counted : Steady { s with freeCount := s.freeCount + 1 } := ok.toSteady.apart rfl rfl rfl rfl rfl
  simp only [Machine.walkGoesOn]
  split
  · exact (counted.withEngine _).withEngine _
  · exact (counted.withEngine _).withEngine _
  · exact counted.walkEnd queue _ _

theorem InStep.txnEnd {s : State} (ok : InStep s) (r : TxnResult) : Steady (txnEnd r s) := by
  unfold Machine.txnEnd
  split
  · exact ok.engineFree.toSteady
  · split
    · exact ok.engineFree.toSteady
    · rename_i i rest queue
      exact ok.walkGoesOn queue r
    · unfold hostWait
      split
      · exact (ok.hostEnd _ r).toSteady
      · exact (ok.withEngine _).toSteady

theorem InStep.tryResult {s : State} (ok : InStep s) (r : TryResult) : Steady (tryResult r s) := by
  cases r with
  | success bytes => exact ok.txnEnd _
  | dataNak acked => exact ok.txnEnd _
  | addressNak byte =>
    simp only [Machine.tryResult, tryFailed]
    split
    · exact ok.engineFree.toSteady
    · split
      · exact (ok.withEngine _).toSteady
      · exact ok.txnEnd _

theorem InStep.plugSettled {s : State} (ok : InStep s) : Steady (plugSettled s) := by
  unfold Machine.plugSettled
  split
  · rename_i i rest queue
    exact ok.toSteady.walkEnd queue _ _
  · exact ok.engineFree.toSteady

theorem InStep.postWaited {s : State} (ok : InStep s) : InStep (postWaited s) := by
  unfold Machine.postWaited
  split
  · exact ok.hostEnd _ _
  · exact ok.engineFree

/-! ### A step -/

/-- R132: an increment of the µs counter that makes no checkpoint. -/
theorem usTick_of_no_checkpoint {s : State} (none : checkpointDue s = false) :
    ∃ tb, usTick s = { s with us := s.us + 1, timebase := tb } := by
  unfold usTick prescalerTick
  split
  · rename_i wrap
    unfold periodTick
    split
    · rename_i interval
      unfold intervalTick
      split
      · rename_i checkpoint
        have due : checkpointDue s = true := by
          simp only [checkpointDue, intervalDue, wrapDue, Bool.and_eq_true, decide_eq_true_eq]
          exact ⟨⟨wrap, interval⟩, checkpoint⟩
        exact absurd (none.symm.trans due) Bool.false_ne_true
      · exact ⟨_, rfl⟩
    · exact ⟨_, rfl⟩
  · exact ⟨_, rfl⟩

theorem InStep.tick {s : State} (ok : InStep s) : InStep (tick s) := by
  unfold Machine.tick
  split
  · exact ok.toSteady.usTick.settled
  · rename_i none
    obtain ⟨tb, e⟩ := usTick_of_no_checkpoint (Bool.not_eq_true _ ▸ none)
    rw [e]
    exact ok.quiet (Apart.quiet ⟨rfl, rfl, rfl, rfl, rfl⟩ rfl rfl)

/-- A meaning that has an effect under a condition, and none without it. -/
theorem inStep_of_guarded {c : Prop} [Decidable c] {s t u : State} (ok : InStep s) (kept : c → InStep t)
    (h : (if c then .next t else .next s : Result) = .next u) : InStep u := by
  split at h <;> cases h
  · rename_i holds
    exact kept holds
  · exact ok

theorem execRequestAccept_inStep {r : Request} {s t : State} (ok : InStep s)
    (h : execRequestAccept r s = .next t) : InStep t := by
  unfold execRequestAccept at h
  split at h
  · cases h
  · exact inStep_of_guarded ok (fun _ => ok.accept r) h

theorem execForwardedIssue_inStep {s t : State} (ok : InStep s)
    (h : execForwardedIssue s = .next t) : InStep t := by
  unfold execForwardedIssue at h
  split at h <;> cases h
  · exact ok
  · exact ok.modPath _

theorem execInsertedIssue_inStep {s t : State} (ok : InStep s)
    (h : execInsertedIssue s = .next t) : InStep t := by
  unfold execInsertedIssue at h
  split at h <;> cases h
  · exact ok
  · exact ok.modPath _

theorem execForwardedResponse_inStep {id : BitVec 8} {status : RespStatus} {data : List Byte} {s t : State}
    (ok : InStep s) (h : execForwardedResponse id status data s = .next t) : InStep t := by
  unfold execForwardedResponse at h
  split at h
  · cases h; exact ok
  · split at h <;> cases h
    · exact ok.modPath _
    · exact (ok.modPath _).handOff _ _

theorem execInsertAck_inStep {place : BitVec 8} {status : RespStatus} {s t : State} (ok : InStep s)
    (h : execInsertAck place status s = .next t) : InStep t := by
  unfold execInsertAck at h
  split at h
  · cases h; exact ok
  · split at h <;> cases h
    · exact ok.modPath _
    · exact (ok.modPath _).producerAcked _ _ _

theorem InStep.apart {s t : State} (ok : InStep s) (h : Apart s t)
    (selection : t.writer.selection = s.writer.selection)
    (status : t.decoder.statusPending = s.decoder.statusPending) : InStep t := ok.quiet (h.quiet selection status)

theorem execPortReset_inStep {s t : State} (ok : InStep s) (h : execPortReset s = .next t) :
    InStep t := by
  unfold execPortReset at h
  split at h <;> cases h
  · exact ok.apart ⟨rfl, rfl, rfl, rfl, rfl⟩ rfl rfl
  · exact ok.portReset

theorem execPowerOnResetRelease_inStep {wbase : BitVec 16} {s t : State} (ok : InStep s)
    (h : execPowerOnResetRelease wbase s = .next t) : InStep t := by
  refine inStep_of_guarded ok (fun _ => ?_) h
  exact ok.apart ⟨rfl, rfl, rfl, rfl, rfl⟩ rfl rfl

theorem execUnknownCode_inStep {n : BlockId} {code : Byte} {head : BlockHead} {s t : State}
    (ok : InStep s) (h : execUnknownCode n code head s = .next t) : InStep t := by
  unfold execUnknownCode at h
  split at h <;> cases h
  exact ok.takeBlock (.unknownCode n code head)

theorem InStep.withLane {s : State} {i : SlotId} {l : LaneId} {x : Lane} (ok : InStep s)
    (stands : LaneStands ((s.slot i).lane l) x) : InStep (s.withSlot i ((s.slot i).withLane l x)) :=
  ok.quiet (modSlot_quiet (f := fun _ => (s.slot i).withLane l x) (.withLane stands.kept) rfl)

theorem Lane.nextFrame_stands (i : SlotId) (l : LaneId) (k : FrameKind) (pl : Payload) (pats : Vector Pattern 4)
    (x : Lane) : LaneStands x (x.nextFrame i l k pl pats) := ⟨rfl, rfl, rfl⟩

theorem Lane.die_stands (cause : DeadCause) (x : Lane) : LaneStands x (x.die cause) := ⟨rfl, rfl, rfl⟩

theorem execFrameStart_inStep {i : SlotId} {l : LaneId} {s t : State} (ok : InStep s)
    (h : execFrameStart i l s = .next t) : InStep t := by
  simp only [execFrameStart] at h
  split at h
  · cases h; exact ok
  · split at h <;> cases h
    · exact ok
    · exact ok.withLane (Lane.nextFrame_stands ..)

theorem Lane.receive_stands (pl : Payload) (pats : Vector Pattern 4) (inSoak : Bool) (bits : BitVec 4096)
    (x : Lane) : LaneStands x (x.receive pl pats inSoak bits).1 := by
  simp only [Lane.receive]
  exact ⟨rfl, rfl, rfl⟩

theorem execFrameReceived_inStep {i : SlotId} {l : LaneId} {payload : BitVec 4096} {s t : State}
    (ok : InStep s) (h : execFrameReceived i l payload s = .next t) : InStep t := by
  let r := ((s.slot i).lane l).receive (s.slot i).profile.payload s.patterns
    (decide ((s.slot i).state = .soak)) payload
  have received : InStep (s.withSlot i ((s.slot i).withLane l r.1)) :=
    ok.withLane (Lane.receive_stands ..)
  simp only [execFrameReceived] at h
  split at h
  · split at h <;> cases h
    · exact (received.toSteady.scanReport fun p st r => scanTally_takesPart _ _ p st r).settled
    · exact received
  · cases h; exact ok

theorem execClockHeldLow_inStep {s t : State} (ok : InStep s) (h : execClockHeldLow s = .next t) :
    InStep t := by
  unfold execClockHeldLow at h
  split at h <;> cases h
  · exact ok.withEngine _
  · exact (ok.txnEnd _).settled
  all_goals exact ok

theorem execRecordWriteStart_inStep {s t : State} (ok : InStep s)
    (h : execRecordWriteStart s = .next t) : InStep t := by
  unfold execRecordWriteStart at h
  split at h
  · cases h; exact ok
  · exact inStep_of_guarded ok (fun _ => (ok.toSteady.startWrite ok.selected).settled) h

theorem stateTimerDue_state {s : State} {i : SlotId} {st : SlotState} (due : stateTimerDue s i st = true) :
    (s.slot i).state = st := of_decide_eq_true (Bool.and_eq_true_iff.1 due).1

/-- Every command keeps the agreement. -/
theorem exec_inStep {c : Instr} {s t : State} (ok : InStep s) (h : exec c s = .next t) : InStep t := by
  have laneEvent (i : SlotId) (l : LaneId) {x : Lane} (stands : LaneStands ((s.slot i).lane l) x)
      (es : List LaneEvent) : InStep (settle (laneReports i l x es s)) :=
    (ok.toSteady.laneReports stands.kept es).settled
  cases c with
  | requestAccept r => exact execRequestAccept_inStep ok h
  | forwardedIssue => exact execForwardedIssue_inStep ok h
  | insertedIssue => exact execInsertedIssue_inStep ok h
  | forwardedResponse id status data => exact execForwardedResponse_inStep ok h
  | insertJoin => cases h; exact ok.joinNext
  | insertAck place status => exact execInsertAck_inStep ok h
  | portReset => exact execPortReset_inStep ok h
  | portResetRelease => cases h; exact ok.apart ⟨rfl, rfl, rfl, rfl, rfl⟩ rfl rfl
  | powerOnReset => cases h; exact powerOnReset_inStep s
  | powerOnResetRelease wbase =>
    exact execPowerOnResetRelease_inStep ok h
  | noneBlock n => cases h; exact ok
  | unknownCode n code head => exact execUnknownCode_inStep ok h
  | setWindow n head p => cases h; exact ok.takeBlock (.setWindow n head p)
  | setProfile n head p => cases h; exact ok.takeBlock (.setProfile n head p)
  | definePattern n head l => cases h; exact ok.takeBlock (.definePattern n head l)
  | setTimebase n head p => cases h; exact ok.takeBlock (.setTimebase n head p)
  | setAttention n head p => cases h; exact ok.takeBlock (.setAttention n head p)
  | start n head => cases h; exact ok.takeBlock (.start n head)
  | abort n head => cases h; exact ok.takeBlock (.abort n head)
  | retest n head => cases h; exact ok.takeBlock (.retest n head)
  | clear n head => cases h; exact ok.takeBlock (.clear n head)
  | snapshot n head => cases h; exact ok.takeBlock (.snapshot n head)
  | sideband n head p => cases h; exact ok.takeBlock (.sideband n head p)
  | status n head => cases h; exact ok.takeBlock (.status n head)
  | frameStart i l => exact execFrameStart_inStep ok h
  | headerInHunt i l bits =>
    exact inStep_of_guarded ok (fun _ => laneEvent i l (Lane.huntHeader_stands ..) _) h
  | headerInLock i l bits =>
    exact inStep_of_guarded ok (fun _ => laneEvent i l (Lane.lockHeader_stands ..) _) h
  | frameReceived i l payload => exact execFrameReceived_inStep ok h
  | relockTimeout i l => exact inStep_of_guarded ok (fun _ => laneEvent i l (Lane.die_stands ..) _) h
  | presNChange i asserted =>
    cases h
    refine InStep.rawChanged ?_ i _
    exact ok.apart ⟨rfl, rfl, rfl, rfl, rfl⟩ rfl rfl
  | energyDetectChange i l present =>
    cases h
    refine InStep.rawChanged ?_ i _
    exact ok.apart ⟨rfl, rfl, rfl, rfl, rfl⟩ rfl rfl
  | debounceExpiry i => exact inStep_of_guarded ok (fun _ => (ok.toSteady.debounceTaken i).settled) h
  | settleExpiry i => exact inStep_of_guarded ok (fun due => ok.toDiscover (stateTimerDue_state due)) h
  | trainTimeout i =>
    exact inStep_of_guarded ok (fun due => (ok.toSteady.endTraining (stateTimerDue_state due)).settled) h
  | tryEnd r => exact inStep_of_guarded ok (fun _ => ((ok.withEngine _).tryResult r).settled) h
  | retryWaitExpiry => exact inStep_of_guarded ok (fun _ => ok.withEngine _) h
  | clockHeldLow => exact execClockHeldLow_inStep ok h
  | dataStuckLow => exact inStep_of_guarded ok (fun _ => ok.withEngine _) h
  | recoveryEnd => exact inStep_of_guarded ok (fun _ => ((ok.withEngine _).txnEnd _).settled) h
  | plugSettleExpiry => exact inStep_of_guarded ok (fun _ => ok.plugSettled.settled) h
  | postWaitExpiry => exact inStep_of_guarded ok (fun _ => ok.postWaited) h
  | interval => exact inStep_of_guarded ok (fun _ => ok.tick) h
  | checkpoint => exact inStep_of_guarded ok (fun _ => ok.tick) h
  | recordWriteStart => exact execRecordWriteStart_inStep ok h
  | ageTimerExpiry =>
    refine inStep_of_guarded ok (fun _ => InStep.quiet ?_ (evaluate_quiet _)) h
    exact ok.apart ⟨rfl, rfl, rfl, rfl, rfl⟩ rfl rfl
  | prescalerWrap => exact inStep_of_guarded ok (fun _ => ok.tick) h

/-- Settles O58: the agreement is kept by every operation of a slot, a queue, the sweep and the Record
Writer, and the end of an event restores what of it holds between events only. -/
theorem slotsAgreeWithTheQueues : Obligations.SlotsAgreeWithTheQueues := by
  intro s t ⟨slots, sweep, claims⟩ stepped
  rw [← inStep_iff]
  have ok := (inStep_iff s).2 ⟨slots, sweep, claims⟩
  unfold step at stepped
  split at stepped
  · cases stepped
    unfold idle
    split
    · exact ok
    · exact ok.tick
  · refine exec_inStep ?_ stepped
    exact ok.apart ⟨rfl, rfl, rfl, rfl, rfl⟩ rfl rfl

end Sys2Proof.Machine
end

section
/-! PROOF. How far a sweep goes on within an event (R149, R151, R153 to R157): an advance and a completion as
whole states. -/

namespace Sys2Proof.Machine

open Sys2Proof Sys2Proof.Safety

/-! ### The model's step states and positions in the statements' terms -/

theorem stepOf_eq (x : Lane) : stepOf x = stepFrom x := by
  unfold stepOf stepFrom
  cases x.rx <;> rfl

theorem Lane.relockDue_iff {x : Lane} {now : BitVec 48} :
    x.relockDue now = true ↔ x.rx = .hunt ∧ x.relock.any (reached now) = true := by
  rw [Lane.relockDue, Bool.and_eq_true, decide_eq_true_eq, and_comm]
  cases x.relock <;> rfl

theorem Lane.advance_eq (s : State) (timeout p : Nat) (x : Lane) :
    x.advance s.us timeout p = advanced s p timeout x := by
  simp only [Lane.advance, advanced, Lane.relockDue_iff]
  rfl

theorem StepState.takesPart_iff {st : StepState} (idle : st.busy = false) :
    st.takesPart = true ↔ st = .finished := by
  cases st with
  | waitLock | dwell => cases idle
  | unscanned | broken => exact iff_of_false Bool.false_ne_true nofun
  | finished => exact iff_of_true rfl rfl

theorem StepState.busy_iff {st : StepState} :
    st.busy = true ↔ st = .waitLock ∨ ∃ f e m, st = .dwell f e m := by
  cases st with
  | waitLock => exact iff_of_true rfl (.inl rfl)
  | dwell f e m => exact iff_of_true rfl (.inr ⟨f, e, m, rfl⟩)
  | unscanned | broken | finished => exact iff_of_false Bool.false_ne_true (by rintro (h | ⟨_, _, _, h⟩) <;> cases h)

theorem mem_allLanes (l : LaneId) : l ∈ allLanes := by
  revert l
  decide

theorem Sweep.busy_iff {sw : Sweep} : sw.busy = true ↔
    ∃ l : LaneId, sw.steps[l.val] = .waitLock ∨ ∃ f e m, sw.steps[l.val] = .dwell f e m := by
  simp only [Sweep.busy, List.any_eq_true, StepState.busy_iff, mem_allLanes, true_and]

theorem byLane_congr {α : Type} {f g : LaneId → α} (h : ∀ l, f l = g l) : byLane f = byLane g :=
  congrArg byLane (funext h)

theorem eq_byLane {α : Type} {v : Vector α 4} {f : LaneId → α} (h : ∀ l : LaneId, v[l.val] = f l) : v = byLane f := by
  refine Vector.ext fun k hk => ?_
  rw [byLane_getElem f ⟨k, hk⟩]
  exact h ⟨k, hk⟩

/-! ### The begin of a sweep (R149, R151) -/

/-- R149, R151: the scan result of a lane as the sweep of its slot begins. -/
def firstLane (x : Lane) : ScanLane :=
  if x.soakRole = true ∧ x.rx = .dead then
    brokenAt { ScanLane.empty with scanned := x.soakRole } 0 (x.deadCause.getD .relockTimeout)
  else { ScanLane.empty with scanned := x.soakRole }

theorem firstResult_eq (x : Slot) : firstResult x = ⟨.sweeping, byLane fun l => firstLane (x.lane l)⟩ := rfl

theorem firstSteps_eq (x : Slot) : firstSteps x =
    byLane fun l => if (x.lane l).soakRole then stepFrom (x.lane l) else .unscanned := rfl

theorem sweepStart_eq (i : SlotId) (s : State) : sweepStart i s =
    { s.modSlot i (fun x => { x with scan := firstResult x }) with
      scanner := ⟨s.scanner.queue, some ⟨0, firstSteps (s.slot i)⟩⟩ } := by
  let first : Vector StepState 4 :=
    byLane fun l => if ((s.slot i).lane l).soakRole then .finished else .unscanned
  have first_lane (l : LaneId) : (first[l.val]).takesPart = ((s.slot i).lane l).soakRole := by
    rw [byLane_getElem]
    cases ((s.slot i).lane l).soakRole <;> rfl
  let opened (x : Slot) : Slot := { x with
    scan := { status := .sweeping
              lanes := byLane fun l => { ScanLane.empty with scanned := ((s.slot i).lane l).soakRole } } }
  have result (l : LaneId) : (opened (s.slot i)).stepResult 0 first l = firstLane ((s.slot i).lane l) := by
    have own : (opened (s.slot i)).scan.lanes[l.val] =
        { ScanLane.empty with scanned := ((s.slot i).lane l).soakRole } := byLane_getElem _ l
    simp only [Slot.stepResult, firstLane, own, first_lane, Bool.and_eq_true, decide_eq_true_eq]
    rfl
  have step (l : LaneId) : (if (first[l.val]).takesPart then stepOf ((s.slot i).lane l) else first[l.val]) =
      if ((s.slot i).lane l).soakRole then stepFrom ((s.slot i).lane l) else .unscanned := by
    rw [first_lane, stepOf_eq, byLane_getElem]
    split <;> rfl
  have own : (s.modSlot i opened).slot i = opened (s.slot i) := (State.modSlot_slot s i i _).trans (if_pos rfl)
  have unfolded : sweepStart i s = { (s.modSlot i opened).modSlot i (Slot.resulted 0 first) with
      scanner := ⟨s.scanner.queue, some ⟨0, ((s.modSlot i opened).slot i).stepsTaken first⟩⟩ } := rfl
  have resulted : (opened (s.slot i)).resulted 0 first = { s.slot i with scan := firstResult (s.slot i) } := by
    rw [firstResult_eq, ← byLane_congr result]
    rfl
  have steps : (opened (s.slot i)).stepsTaken first = firstSteps (s.slot i) := byLane_congr step
  rw [unfolded, own, steps, modSlot_modSlot, State.modSlot, State.modSlot, resulted]

theorem sweepNext_eq (s : State) : sweepNext s = sweepBegun s s.scanner.queue := by
  unfold sweepNext sweepBegun
  split
  · rename_i queue
    simp only [queue]
  · rename_i i rest queue
    rw [sweepStart_eq, queue]
    rfl

/-! ### One advance, one completion -/

section
variable {s : State} {i : SlotId} {rest : List SlotId} {sw : Sweep} (queue : s.scanner.queue = i :: rest)
  (short : rest.length < 12) (sweep : s.scanner.sweep = some sw) (idle : sw.busy = false)
include queue short sweep idle

theorem sweepSettle_succ : sweepSettle s =
    if sw.position < 31 then sweepSettle (sweepAdvance i sw s) else sweepSettle (sweepComplete i s) := by
  have enough : sweepLeft s ≤ sweepBound := by
    simp only [sweepLeft, queue, sweep, sweepBound]
    omega
  rw [sweepSettle, sweepRun_succ _ s enough]
  conv_lhs => unfold sweepRun
  simp only [queue, sweep, idle, Bool.false_eq_true, if_false]
  rfl

end

theorem sweepSettle_of_none {s : State} (none : s.scanner.queue = [] ∨ s.scanner.sweep = none) :
    sweepSettle s = s := by
  unfold sweepSettle sweepBound sweepRun
  split
  · rename_i i rest sw queue sweep
    rcases none with e | e
    · cases queue.symm.trans e
    · cases sweep.symm.trans e
  · rfl

theorem sweepSettle_of_busy {s : State} {sw : Sweep} (sweep : s.scanner.sweep = some sw) (busy : sw.busy = true) :
    sweepSettle s = s := by
  unfold sweepSettle sweepBound sweepRun
  split
  · rename_i i rest sw' queue sweep'
    cases sweep.symm.trans sweep'
    rw [if_pos busy]
  · rfl

/-! ### The slot as its sweep completes (R155 to R157) -/

theorem Slot.scanned_finalLanes (now : BitVec 48) (x : Slot) : (x.scanned now).finalLanes = x.finalLanes := by
  refine byLane_congr fun l => ?_
  rw [Slot.scanned_lane]
  split <;> rfl

theorem Slot.scanned_confirm (now : BitVec 48) (x : Slot) : (x.scanned now).park.confirm = parkedConfirm x := by
  refine byLane_congr (f := fun l =>
    if ((x.scanned now).lane l).power = .parked then x.confirm[l.val] else 0) fun l => ?_
  rw [Slot.scanned_lane]
  split <;> rfl

theorem Slot.judged_fields (x : Slot) : x.judged = { x with
    state := .verdict, stateTimer := none, verdictPending := true, finals := x.finalLanes
    lanes := x.park.lanes, confirm := x.park.confirm
    outcome := some (composeOutcome x.abortedMark x.findings) } := rfl

theorem Slot.scanned_judged (now : BitVec 48) (x : Slot) : (x.scanned now).judged = { x with
    state := .verdict, stateTimer := none, scanPending := true, verdictPending := true
    scan := (x.scanned now).scan, findings := (x.scanned now).findings, finals := x.finalLanes
    lanes := (x.scanned now).park.lanes, confirm := parkedConfirm x
    outcome := some (composeOutcome x.abortedMark (x.scanned now).findings) } := by
  rw [Slot.judged_fields, Slot.scanned_finalLanes, Slot.scanned_confirm]
  rfl

theorem Slot.scanned_result (now : BitVec 48) (x : Slot) (l : LaneId) : (x.scanned now).scan.lanes[l.val] =
    if (x.scan.lanes[l.val]).scanned then
      { x.scan.lanes[l.val] with
        width := (eye (x.scan.lanes[l.val]).counts x.profile.tolerance).1
        centre := (eye (x.scan.lanes[l.val]).counts x.profile.tolerance).2.1
        noEye := (eye (x.scan.lanes[l.val]).counts x.profile.tolerance).2.2 }
    else x.scan.lanes[l.val] := byLane_getElem _ l

theorem ScanLane.scanned_of_eye (r : ScanLane) (tolerance : Nat) : (if r.scanned then
      { r with
        width := (eye r.counts tolerance).1
        centre := (eye r.counts tolerance).2.1
        noEye := (eye r.counts tolerance).2.2 }
    else r : ScanLane).scanned = r.scanned := by
  split <;> rfl

/-- R157: the findings of the scanned lanes, lane by lane. -/
theorem flatMap_scanned (scanned : LaneId → Bool) (findings : LaneId → List Finding) :
    (allLanes.filter scanned).flatMap findings = allLanes.flatMap fun l => if scanned l then findings l else [] := by
  induction allLanes with
  | nil => rfl
  | cons l ls ih =>
    rw [List.filter_cons, List.flatMap_cons]
    split
    · rw [List.flatMap_cons, ih]
    · rw [ih, List.nil_append]

/-- Settles O50: an advance and a completion are each one step of the run, and the run has steps to spare. -/
theorem sweepsAdvanceAndComplete : Obligations.SweepsAdvanceAndComplete := by
  intro s
  refine ⟨sweepSettle_of_none, fun i rest sw queue short sweep => ?_⟩
  intro sl busy
  have idle (h : ¬ busy) : sw.busy = false := Bool.eq_false_iff.2 fun b => h (Sweep.busy_iff.1 b)
  refine ⟨fun h => sweepSettle_of_busy sweep (Sweep.busy_iff.2 h), fun h below => ?_, fun h last => ?_⟩
  · intro p on lane step result
    rw [sweepSettle_succ queue short sweep (idle h), if_pos below, sweepAdvance_eq]
    have takes (l : LaneId) : (sw.steps[l.val]).takesPart = true ↔ on l :=
      StepState.takesPart_iff (Bool.eq_false_iff.2 fun b => h ⟨l, StepState.busy_iff.1 b⟩)
    have moved (l : LaneId) : (sl.moved s.us p sw.steps).lane l = lane l := by
      rw [Slot.moved_lane, Lane.advance_eq]
      simp only [takes]
      rfl
    have lanes : (sl.moved s.us p sw.steps).lanes = byLane lane := eq_byLane moved
    have steps : (sl.moved s.us p sw.steps).stepsTaken sw.steps = byLane step := byLane_congr fun l => by
      simp only [moved, takes, stepOf_eq]
      rfl
    have results (l : LaneId) : (sl.moved s.us p sw.steps).stepResult p sw.steps l = result l := by
      simp only [Slot.stepResult, moved, Bool.and_eq_true, decide_eq_true_eq, takes]
      rfl
    have slot : (sl.moved s.us p sw.steps).resulted p sw.steps = { sl with
        lanes := byLane lane, scan := ⟨sl.scan.status, byLane result⟩ } := by
      rw [← lanes, ← byLane_congr results]
      rfl
    rw [State.modSlot, slot, advancedSweep, steps, queue]
    rfl
  · intro scanned eyed finding findings lane ended
    rw [sweepSettle_succ queue short sweep (idle h), if_neg (by omega), sweepComplete_eq, sweepNext_eq]
    let x := sl.scanned s.us
    have result (l : LaneId) : x.scan.lanes[l.val] = eyed l := Slot.scanned_result s.us sl l
    have scan : x.scan = ⟨.complete, byLane eyed⟩ :=
      congrArg (ScanResult.mk .complete) (eq_byLane result)
    have found : x.findings = findings := by
      have all : x.findings = addFindings sl.findings
        ((allLanes.filter fun l => (x.scan.lanes[l.val]).scanned).flatMap fun l =>
          eyeFindings sl.profile.minEyeWidth l (x.scan.lanes[l.val])) := rfl
      have kept (l : LaneId) : (eyed l).scanned = scanned l := ScanLane.scanned_of_eye _ _
      have each (l : LaneId) : (if scanned l then eyeFindings sl.profile.minEyeWidth l (eyed l) else []) =
          finding l := rfl
      simp only [all, result, kept, flatMap_scanned, each]
      simp [findings, allLanes]
    have lanes : x.park.lanes = byLane lane := eq_byLane fun l => by
      rw [show (x.park.lanes)[l.val] = (x.lane l).park from Slot.park_lane x l, Slot.scanned_lane]
      rfl
    have slot : x.judged = ended := by
      rw [Slot.scanned_judged, scan, found, lanes]
      rfl
    have left : (sweepEnded i s).scanner.queue = rest := by
      show s.scanner.queue.tail = rest
      rw [queue]
      rfl
    have begun : sweepBegun (sweepEnded i s) rest =
        sweepBegun { s with slots := s.slots.set i.val ended, patterns := claimReleased s i } rest := by
      rw [sweepEnded, verdictOf, State.modSlot, slot]
      cases rest <;> rfl
    rw [left, begun]

end Sys2Proof.Machine
end

section
/-! PROOF. What a pattern write does to its pattern (R47 to R50). -/

namespace Sys2Proof.Machine

open Sys2Proof Sys2Proof.Safety

/-! ### Sets of blocks -/

theorem foldl_setBits_getLsbD (f : Nat → Bool) (ks : List Nat) (v : BitVec 32) {k : Nat} (hk : k < 32) :
    (ks.foldl (fun v j => if f j then v ||| (1#32 <<< j) else v) v).getLsbD k =
      (v.getLsbD k || (decide (k ∈ ks) && f k)) := by
  induction ks generalizing v with
  | nil => simp
  | cons j ks ih =>
    have bit : (1#32 <<< j).getLsbD k = decide (k = j) := by
      rw [BitVec.getLsbD_shiftLeft]
      by_cases e : k = j
      · subst e; simp [hk]
      · by_cases less : k < j
        · simp [less, e]
        · simp [hk, less, e, BitVec.getLsbD_one, show k - j ≠ 0 by omega]
    rw [List.foldl_cons, ih]
    by_cases e : k = j
    · subst e
      cases f k <;> simp [bit]
    · cases h : f j <;> simp [bit, e]

theorem blocksWhere_getLsbD (f : Nat → Bool) {k : Nat} (hk : k < 32) : (blocksWhere f).getLsbD k = f k := by
  have listed : k ∈ patternBlocks := List.mem_range.2 hk
  rw [blocksWhere, foldl_setBits_getLsbD f patternBlocks 0 hk]
  simp [listed]

/-- R49: a block is covered where each of its 64 bytes is written. -/
theorem blockCovered_iff_mem {bytes : List (Nat × Byte)} (once : (bytes.map Prod.fst).Nodup) (k : Nat) :
    blockCovered bytes k = true ↔ ∀ j < 64, 64 * k + j ∈ bytes.map Prod.fst := by
  let offsets := (bytesOfBlock bytes k).map Prod.fst
  have length : offsets.length = (bytesOfBlock bytes k).length := List.length_map ..
  have distinct : offsets.Nodup := once.sublist (List.filter_sublist.map _)
  have inside : offsets ⊆ List.range' (64 * k) 64 := by
    intro a listed
    obtain ⟨p, member, rfl⟩ := List.mem_map.1 listed
    exact List.mem_range'_1.2 (mem_bytesOfBlock.1 member).2
  have few : List.Subperm offsets (List.range' (64 * k) 64) := List.subperm_of_subset distinct inside
  rw [blockCovered, decide_eq_true_eq, ← length]
  constructor
  · intro full j hj
    have all : offsets.Perm (List.range' (64 * k) 64) := few.perm_of_length_le (by simp [full])
    have listed : 64 * k + j ∈ offsets := all.mem_iff.2 (List.mem_range'_1.2 ⟨by omega, by omega⟩)
    obtain ⟨p, member, e⟩ := List.mem_map.1 listed
    exact e ▸ List.mem_map_of_mem (mem_bytesOfBlock.1 member).1
  · intro all
    have back : List.range' (64 * k) 64 ⊆ offsets := by
      intro a listed
      obtain ⟨low, high⟩ := List.mem_range'_1.1 listed
      obtain ⟨p, member, e⟩ := List.mem_map.1 (all (a - 64 * k) (by omega))
      exact List.mem_map.2 ⟨p, mem_bytesOfBlock.2 ⟨member, by omega, by omega⟩, by omega⟩
    have many := (List.subperm_of_subset List.nodup_range' back).length_le
    have most := few.length_le
    rw [List.length_range'] at many most
    omega

/-! ### The hand-off of a pattern write -/

section
variable (p : Pattern) (bytes : List (Nat × Byte))

theorem Pattern.handOff_stores (wf : Memory.wf p.mem = true) (once : (bytes.map Prod.fst).Nodup)
    (free : p.inUse = 0) :
    (∀ b ∈ bytes, Memory.read (p.handOff bytes .ok).mem b.1 = b.2) ∧
      (∀ a, (∀ b ∈ bytes, b.1 ≠ a) → Memory.read (p.handOff bytes .ok).mem a = Memory.read p.mem a) ∧
      ∀ k < 32, (p.handOff bytes .ok).valid.getLsbD k = true ↔
        (p.valid.getLsbD k = true ∨ ∀ j < 64, 64 * k + j ∈ bytes.map Prod.fst) := by
  have stored : p.handOff bytes .ok = { p with
      mem := Memory.writes p.mem bytes, valid := p.valid ||| blocksWhere (blockCovered bytes) } :=
    if_pos ⟨rfl, free⟩
  rw [stored]
  refine ⟨fun b member => Memory.read_writes_of_mem wf once member,
    fun a absent => Memory.read_writes_of_not_mem wf absent, fun k hk => ?_⟩
  rw [BitVec.getLsbD_or, Bool.or_eq_true, blocksWhere_getLsbD _ hk, blockCovered_iff_mem once]

theorem Pattern.handOff_invalidates {status : RespStatus} (refused : ¬ (status = .ok ∧ p.inUse = 0)) :
    (∀ a, Memory.read (p.handOff bytes status).mem a = Memory.read p.mem a) ∧
      ∀ k < 32, (p.handOff bytes status).valid.getLsbD k = true ↔
        (p.valid.getLsbD k = true ∧ ∀ b ∈ bytes, b.1 / 64 ≠ k) := by
  have kept : p.handOff bytes status = { p with
      valid := p.valid &&& ~~~(blocksWhere fun k => !(bytesOfBlock bytes k).isEmpty) } := if_neg refused
  rw [kept]
  refine ⟨fun a => rfl, fun k hk => ?_⟩
  have untouched : (bytesOfBlock bytes k).isEmpty = true ↔ ∀ b ∈ bytes, b.1 / 64 ≠ k := by
    simp [bytesOfBlock, List.isEmpty_iff, List.filter_eq_nil_iff]
  rw [BitVec.getLsbD_and, Bool.and_eq_true, BitVec.getLsbD_not, blocksWhere_getLsbD _ hk, ← untouched]
  simp [hk]

theorem Pattern.handOff_length (status : RespStatus) : (p.handOff bytes status).length = p.length := by
  unfold Pattern.handOff
  split <;> rfl

end

/-- Settles O9: the hand-off of the write, by its two outcomes. -/
theorem patternWritesAreCaptured : Obligations.PatternWritesAreCaptured := by
  intro s id status data e ok found kept role kind once n p
  refine ⟨p.handOff e.cls.capture status, ?_, p.handOff_length _ _, Pattern.handOff_inUse _ _ p, ?_, fun refused => ?_⟩
  · have matched : matchOut id s.path.out = some e := found
    simp only [exec, execForwardedResponse, matched, kept, handOff, role, kind, ← dropOut_eq_eraseP]
    rfl
  · rintro ⟨rfl, free⟩
    exact p.handOff_stores _ (ok n).1 once free
  · refine p.handOff_invalidates _ ?_
    rintro ⟨rfl, free⟩
    rcases refused with e | used
    · cases e
    · omega

end Sys2Proof.Machine
end

section
/-! PROOF. SET_PROFILE (R29, R31, R44). -/

namespace Sys2Proof.Machine

open Sys2Proof Sys2Proof.Safety

/-! ### Commands that are not examined (R16, R20, R24) -/

theorem giveAnswer_profiles (n : BlockId) (tag : BitVec 16) (a : Answer) (s : State) :
    (giveAnswer n tag a s).profiles = s.profiles := by
  unfold giveAnswer
  split <;> rfl

/-- A SET_PROFILE in reset, in a busy block, or with a byte that is not zero. -/
theorem takeSetProfile_of_not_ready {n : BlockId} {h : BlockHead} {p : ProfileParams} {s : State}
    (unready : ¬ ready s n h) : (takeSetProfile n h p s).profiles = s.profiles := by
  unfold takeSetProfile takeCandidate
  split
  · rfl
  · rename_i run
    rw [settle_profiles]
    split
    · rw [giveAnswer_profiles]
      rfl
    · rename_i free
      have nonzero : h.zero ≠ 0 := fun zero =>
        unready ⟨inReset_eq_false_iff.1 (Bool.eq_false_iff.2 run), free, zero⟩
      refine (congrArg State.profiles (examine_zero nonzero (countTaken s))).trans ?_
      rw [giveAnswer_profiles]
      rfl

/-! ### The checks and the clamps (R29, R31) -/

/-- R29: the fields of a SET_PROFILE that have limits of their own, each with its limits. -/
def profileLimits (p : ProfileParams) : List (Nat × Nat × Nat) :=
  [(p.debounce.toNat, 1, 255), (p.settle.toNat, 1, 255), (p.trainTimeout.toNat, 1, 255),
   (p.relockTimeout.toNat, 1, 65535), (p.soakLength.toNat, 1, 255), (p.berM.toNat, 1, 255),
   (p.berX.toNat, 16, 47), (p.dwell.toNat, 1, 64), (p.tolerance.toNat, 0, 15),
   (p.minEyeWidth.toNat, 1, 32)]

theorem length_filter_outside (limits : List (Nat × Nat × Nat)) :
    (limits.filter fun x => decide (x.1 < x.2.1 ∨ x.2.2 < x.1)).length =
      (limits.map fun x => clampCount x.2.1 x.2.2 x.1).sum := by
  induction limits with
  | nil => rfl
  | cons x limits ih =>
    rw [List.map_cons, List.sum_cons, ← ih, clampCount]
    by_cases outside : x.1 < x.2.1 ∨ x.2.2 < x.1
    · rw [List.filter_cons_of_pos (by simpa using outside), if_pos outside, List.length_cons, Nat.add_comm]
    · rw [List.filter_cons_of_neg (by simpa using outside), if_neg outside, Nat.zero_add]

/-- R29: the error ceiling and the lock drops reach neither limit. -/
theorem profileClamps_eq (p : ProfileParams) : profileClamps p =
    ((profileLimits p).filter fun x => decide (x.1 < x.2.1 ∨ x.2.2 < x.1)).length := by
  have ceiling : clampCount 0 65535 p.errorCeiling.toNat = 0 :=
    clampCount_eq_zero.2 ⟨Nat.zero_le _, by have := p.errorCeiling.isLt; omega⟩
  have drops : clampCount 0 255 p.maxLockDrops.toNat = 0 :=
    clampCount_eq_zero.2 ⟨Nat.zero_le _, by have := p.maxLockDrops.isLt; omega⟩
  rw [length_filter_outside, profileClamps, ceiling, drops]
  simp only [profileLimits, List.map_cons, List.map_nil, List.sum_cons, List.sum_nil]
  omega

theorem firstFault_profileFaults {h : BlockHead} (zero : h.zero = 0) (p : ProfileParams) :
    firstFault (profileFaults h p) =
      if 4 ≤ h.selector.toNat then some (2, 0)
      else if p.laneMask = 0 ∨ 15 < p.laneMask.toNat then some (5, 0)
      else if profileBadEnum p = true then some (4, 0) else none := by
  rw [profileFaults, zeroFault_eq zero, selectorFault, ← Bool.decide_or]
  by_cases selector : 4 ≤ h.selector.toNat
  · rw [if_pos selector, decide_eq_true selector]
    rfl
  · rw [if_neg selector, decide_eq_false selector]
    by_cases mask : p.laneMask = 0 ∨ 15 < p.laneMask.toNat
    · rw [if_pos mask, decide_eq_true mask]
      rfl
    · rw [if_neg mask, decide_eq_false mask]
      cases profileBadEnum p <;> rfl

theorem clamp_of_mem {lo hi v : Nat} (low : lo ≤ v) (high : v ≤ hi) : clamp lo hi v = v := by
  rw [clamp_eq (low.trans high)]
  omega

/-- R44, R29: the profile of the parameters, each number brought to the nearest limit. -/
theorem Profile.ofParams_eq (p : ProfileParams) : Profile.ofParams p =
    { laneMask := p.laneMask.setWidth 4, rate := .ofByte p.rate, payload := .ofByte p.payload
      presenceSource := .ofByte p.presenceSource
      debounce := max 1 (min p.debounce.toNat 255), settle := max 1 (min p.settle.toNat 255)
      plugPolicy := if p.plugPolicy = 0 then .requireDescriptor else .acceptAnonymous
      sidebandSpeed := if p.sidebandSpeed = 0 then .khz100 else .khz400
      trainTimeout := max 1 (min p.trainTimeout.toNat 255)
      relockTimeout := max 1 (min p.relockTimeout.toNat 65535)
      allowInversion := decide (p.allowInversion = 1), allowReorder := decide (p.allowReorder = 1)
      stopOnFail := decide (p.stopOnFail = 1)
      soakLength := max 1 (min p.soakLength.toNat 255), berM := max 1 (min p.berM.toNat 255)
      berX := max 16 (min p.berX.toNat 47), errorCeiling := p.errorCeiling.toNat
      maxLockDrops := p.maxLockDrops.toNat, marginMode := .ofByte p.marginMode
      dwell := max 1 (min p.dwell.toNat 64), tolerance := min p.tolerance.toNat 15
      minEyeWidth := max 1 (min p.minEyeWidth.toNat 32)
      progressReports := decide (p.progressReports = 1)
      presenceEdges := .ofByte p.presenceEdges } := by
  have ceiling : p.errorCeiling.toNat ≤ 65535 := by have := p.errorCeiling.isLt; omega
  have drops : p.maxLockDrops.toNat ≤ 255 := by have := p.maxLockDrops.isLt; omega
  rw [Profile.ofParams, clamp_of_mem (Nat.zero_le _) ceiling, clamp_of_mem (Nat.zero_le _) drops]
  simp only [clamp_eq (show 1 ≤ 255 by decide), clamp_eq (show 1 ≤ 65535 by decide),
    clamp_eq (show 16 ≤ 47 by decide), clamp_eq (show 1 ≤ 64 by decide), clamp_eq (show 0 ≤ 15 by decide),
    clamp_eq (show 1 ≤ 32 by decide), Nat.zero_max]
  rfl

/-- Settles O19: the checks in their order, and the profile of the parameters. -/
theorem setProfileReplacesEveryField : Obligations.SetProfileReplacesEveryField := by
  refine ⟨fun n h p s t unready taken => ?_, fun n h p s r => ?_⟩
  · cases taken
    exact takeSetProfile_of_not_ready unready
  · intro refused badEnum limits clamped answer new
    have faults := firstFault_profileFaults r.2.2 p
    have bad : profileBadEnum p = true ↔ badEnum := by
      simp [profileBadEnum, badEnum, or_assoc]
    have refuses {reason : Nat} (fails : firstFault (profileFaults h p) = some (reason, 0)) :
        exec (.setProfile n h p) s = .next (refused reason) := congrArg _ (takeExamined_refused r fails)
    refine ⟨fun large => refuses ?_, fun k number => ⟨fun mask => refuses ?_, fun nonzero small => ?_⟩⟩
    · rw [faults, if_pos large]
    · rw [faults, if_neg (by omega), if_pos mask]
    · have passes : ¬ (p.laneMask = 0 ∨ 15 < p.laneMask.toNat) := by
        rintro (e | large)
        · exact nonzero e
        · omega
      rw [if_neg (by omega), if_neg passes] at faults
      refine ⟨fun is => refuses ?_, fun legal => ?_⟩
      · rw [faults, if_pos (bad.2 is)]
      · rw [if_neg fun is => legal (bad.1 is)] at faults
        have acted : actSetProfile h p (countTaken s) =
            (countTaken { s with profiles := s.profiles.set k.val new }, some answer) := by
          simp only [actSetProfile, sel4_eq number, Profile.ofParams_eq, profileClamps_eq]
          rfl
        exact congrArg _ (takeExamined_answered r faults acted)

end Sys2Proof.Machine
end

section
/-! PROOF. The end of training (R122 to R127, R134): the Wiring Map, its findings, and the slot's next state; the
findings list (R160) and the outcome (R161). -/

namespace Sys2Proof.Machine

open Sys2Proof Sys2Proof.Safety

/-! ### The findings list, the outcome and the final lane states (R58, R160, R161) -/

theorem endsTruncated_iff {fs : List Finding} :
    endsTruncated fs = true ↔ ∃ t, fs.getLast? = some t ∧ t.code = .truncated := by
  unfold endsTruncated
  cases fs.getLast? with
  | none => exact iff_of_false Bool.false_ne_true (by rintro ⟨t, e, -⟩; cases e)
  | some f => simp

theorem sameFinding_iff {fs : List Finding} {f : Finding} :
    sameFinding fs f = true ↔ ∃ g ∈ fs, g.code = f.code ∧ g.lane = f.lane := by
  simp [sameFinding]

theorem hasFailing_iff {fs : List Finding} : hasFailing fs = true ↔ ∃ f ∈ fs, f.failing = true := by
  simp [hasFailing]

theorem composeOutcome_of_notes {fs : List Finding} (some_ : fs ≠ []) (notes : ∀ f ∈ fs, f.failing = false) :
    composeOutcome false fs = .passWithNotes := by
  have passes : ¬ hasFailing fs = true := fun fails => by
    obtain ⟨f, member, failing⟩ := hasFailing_iff.1 fails
    exact Bool.false_ne_true ((notes f member).symm.trans failing)
  have noted : fs.any (fun f => !f.failing) = true := by
    obtain ⟨f, rest, rfl⟩ := List.exists_cons_of_ne_nil some_
    simp [notes f List.mem_cons_self]
  simp [composeOutcome, passes, noted]

/-! ### The Wiring Map (R122, R123) -/

section
variable {i : SlotId} {x : Slot} {l : LaneId}

theorem Slot.counted_iff : x.counted l = true ↔
    x.profile.laneMask.getLsbD l.val = true ∧ l.val < x.plugLanes := by
  simp [Slot.counted, Slot.inMask]

theorem Lane.observed_of_locked {y : Lane} (locked : y.isLocked = true) : y.observed = y.source := if_pos locked

theorem Slot.shares_iff (locked : (x.lane l).isLocked = true) : x.shares l = true ↔
    ∃ m, m ≠ l ∧ x.counted m = true ∧ (x.lane m).isLocked = true ∧ (x.lane m).source = (x.lane l).source := by
  simp only [Slot.shares, Slot.heard, List.any_eq_true, mem_allLanes, true_and, Bool.and_eq_true, decide_eq_true_eq,
    Lane.observed_of_locked locked, and_assoc]
  refine exists_congr fun m => and_congr_right fun _ => and_congr_right fun _ => and_congr_right fun heard => ?_
  rw [Lane.observed_of_locked heard]

theorem wireClass_of_uncounted (uncounted : ¬ x.counted l = true) : wireClass i x l = .excluded := by
  simp [wireClass, uncounted]

theorem wireClass_of_open (counted : x.counted l = true) (hunts : ¬ (x.lane l).isLocked = true) :
    wireClass i x l = .open := by
  simp [wireClass, counted, hunts]

/-- R123: the classes of a counted lane that is LOCKED, in the order of the table. -/
theorem wireClass_of_heard (counted : x.counted l = true) (locked : (x.lane l).isLocked = true) :
    wireClass i x l = if x.shares l = true then .shared
      else if ¬ ∃ src, (x.lane l).source = some src ∧ src.slot.toNat = i.val then .crossed
      else if (x.lane l).observed ≠ (x.expected[l.val]).source then .swapped
      else if (x.lane l).observedPol ≠ (x.expected[l.val]).polarity then .inverted else .isMatch := by
  have own : ((x.lane l).observed.any fun src => src.ofSlot i) = true ↔
      ∃ src, (x.lane l).source = some src ∧ src.slot.toNat = i.val := by
    rw [Lane.observed_of_locked locked]
    cases (x.lane l).source <;> simp [Source.ofSlot]
  simp only [wireClass, counted, locked, Bool.not_true, Bool.false_eq_true, if_false, ← own, Bool.not_eq_true,
    Bool.not_eq_eq_eq_not]

end

theorem wireMap_lane (i : SlotId) (x : Slot) (l : LaneId) : (wireMap i x)[l.val] =
    { source := (x.lane l).observed, polarity := (x.lane l).observedPol, cls := wireClass i x l } :=
  byLane_getElem _ l

theorem usable_iff {cls : WireClass} : cls.usable = true ↔ cls ∈ [WireClass.isMatch, .swapped, .inverted] := by
  cases cls <;> decide

theorem anyUsable_eq_false_iff {m : Vector WireEntry 4} : anyUsable m = false ↔
    ∀ l : LaneId, (m[l.val]).cls ∉ [WireClass.isMatch, .swapped, .inverted] := by
  simp only [anyUsable, List.any_eq_false, mem_allLanes, true_implies, usable_iff]

/-! ### The end of training (R122, R126, R127, R134) -/

/-- R122, R124, R125: the slot with its Wiring Map and the findings it gives. -/
def Slot.mapped (i : SlotId) (x : Slot) : Slot := { x with
  wiring := wireMap i x, findings := addFindings x.findings (wireFindings x (wireMap i x)) }

/-- R64, R134: the slot as it enters SOAK. -/
def Slot.soaking (x : Slot) : Slot := { x.mapLanes (fun l y => y.soakEntry (x.wiring[l.val]).cls.usable) with
  state := .soak, stateTimer := none, checkpoints := 0, joined := false }

theorem Slot.soaking_lane (x : Slot) (l : LaneId) :
    x.soaking.lane l = (x.lane l).soakEntry (x.wiring[l.val]).cls.usable := byLane_getElem _ l

/-- R126, R127: training ends in VERDICT rather than in SOAK. -/
def Slot.failsTraining (i : SlotId) (x : Slot) : Prop :=
  x.profile.stopOnFail = true ∧ hasFailing (wireFindings x (wireMap i x)) = true ∨ anyUsable (wireMap i x) = false


theorem endTraining_of_fails {i : SlotId} {s : State} (fails : (s.slot i).failsTraining i) :
    endTraining i s = toVerdict i (s.modSlot i (Slot.mapped i)) := by
  unfold endTraining
  simp only
  split
  · rfl
  · rename_i goesOn
    rcases fails with stops | unusable
    · exact absurd (Bool.and_eq_true_iff.2 stops) goesOn
    · rw [unusable]
      rfl

theorem endTraining_of_passes {i : SlotId} {s : State} (passes : ¬ (s.slot i).failsTraining i) :
    endTraining i s = s.modSlot i fun x => (x.mapped i).soaking := by
  have goesOn : ¬ ((s.slot i).profile.stopOnFail && hasFailing (wireFindings (s.slot i) (wireMap i (s.slot i)))) = true :=
    fun stops => passes (.inl (Bool.and_eq_true_iff.1 stops))
  have usable : ¬ (!anyUsable (wireMap i (s.slot i))) = true := by
    rw [Bool.not_eq_true_eq_eq_false]
    exact fun none => passes (.inr none)
  rw [← modSlot_modSlot]
  unfold endTraining
  simp only
  rw [if_neg goesOn, if_neg usable]
  rfl

theorem toVerdict_of_absent {i : SlotId} {f : Slot → Slot} {s : State} (unqueued : i ∉ s.scanner.queue)
    (absent : .discovery i ∉ s.sideband.queue) (profile : (f (s.slot i)).profile = (s.slot i).profile) :
    toVerdict i (s.modSlot i f) = verdictOf i f s := by
  rw [toVerdict_modSlot profile]
  exact withdraw_of_absent unqueued absent

/-- R122: training ends in the slot's own next state and claim; nothing else changes. -/
theorem endTraining_eq {i : SlotId} {s : State} (unqueued : i ∉ s.scanner.queue)
    (absent : .discovery i ∉ s.sideband.queue) : ∃ (y : Slot) (patterns : Vector Pattern 4),
      endTraining i s = { s.modSlot i (fun _ => y) with patterns := patterns } ∧
      y.wiring = wireMap i (s.slot i) ∧ y.findings = ((s.slot i).mapped i).findings ∧
      patterns = (if y.state = .verdict then claimReleased s i else s.patterns) ∧
      ((s.slot i).failsTraining i → y = ((s.slot i).mapped i).judged) ∧
      (¬ (s.slot i).failsTraining i → y = ((s.slot i).mapped i).soaking) := by
  by_cases fails : (s.slot i).failsTraining i
  · refine ⟨((s.slot i).mapped i).judged, claimReleased s i, ?_, rfl, rfl, rfl, fun _ => rfl, fun h => absurd fails h⟩
    rw [endTraining_of_fails fails, toVerdict_of_absent unqueued absent rfl]
    rfl
  · refine ⟨((s.slot i).mapped i).soaking, s.patterns, ?_, rfl, rfl, rfl, fun h => absurd h fails, fun _ => rfl⟩
    rw [endTraining_of_passes fails]
    rfl

/-- R124, R125: the findings of the Wiring Map, lane by lane. -/
theorem wireFindings_eq (x : Slot) (m : Vector WireEntry 4) : wireFindings x m =
    wireFinding x 0 m[0] ++ wireFinding x 1 m[1] ++ wireFinding x 2 m[2] ++ wireFinding x 3 m[3] ++
      (if anyUsable m then [] else [⟨.noUsableLane, none, true, 0⟩]) := by
  simp [wireFindings, allLanes]

theorem Source.value_eq (src : Option Source) : (src.map Source.code).getD 0 = match src with
    | none => 0
    | some src => 4 * src.slot.toNat + src.lane.toNat := by
  cases src <;> rfl

/-- R124, R125: the tables of findings by class. -/
theorem wireFinding_eq (x : Slot) (l : LaneId) (w : WireEntry) : wireFinding x l w =
    let value := match w.source with
      | none => 0
      | some src => 4 * src.slot.toNat + src.lane.toNat
    match w.cls with
    | .excluded => if x.profile.laneMask.getLsbD l.val then [⟨.plugNarrow, some l, false, x.plugLanes⟩] else []
    | .open => [⟨.laneOpen, some l, true, 0⟩]
    | .shared => [⟨.laneShared, some l, true, value⟩]
    | .crossed => [⟨.laneCrossed, some l, true, value⟩]
    | .swapped => [⟨.laneSwapped, some l, !x.profile.allowReorder, value⟩]
    | .inverted => [⟨.laneInverted, some l, !x.profile.allowInversion, if w.polarity = .inverted then 1 else 0⟩]
    | .isMatch | .none => [] := by
  simp only [wireFinding, Source.value_eq]
  cases w.cls <;> rfl

/-- R160: the four steps by which a finding is added. -/
theorem addFinding_cases (fs : List Finding) (f : Finding) :
    let full : Prop := ∃ t, fs.getLast? = some t ∧ t.code = .truncated
    let known : Prop := ∃ g ∈ fs, g.code = f.code ∧ g.lane = f.lane
    (full ∨ known → addFinding fs f = fs) ∧
    (¬ full → ¬ known → 15 ≤ fs.length →
      addFinding fs f = fs ++ [⟨.truncated, none, false, f.code.byte.toNat⟩]) ∧
    (¬ full → ¬ known → fs.length < 15 → addFinding fs f = fs ++ [f]) := by
  intro full known
  have isFull : endsTruncated fs = true ↔ full := endsTruncated_iff
  have isKnown : sameFinding fs f = true ↔ known := sameFinding_iff
  unfold addFinding
  simp only [isFull, isKnown]
  refine ⟨fun h => ?_, fun open_ new long => ?_, fun open_ new short => ?_⟩
  · by_cases h' : full
    · rw [if_pos h']
    · rw [if_neg h', if_pos (h.resolve_left h')]
  · rw [if_neg open_, if_neg new, if_pos long]
  · rw [if_neg open_, if_neg new, if_neg (by omega)]

/-- Settles O36: the findings list and the outcome by their cases, and the end of training by the two states
it can lead to. -/
theorem trainingEndsInAWiringMap : Obligations.TrainingEndsInAWiringMap := by
  refine ⟨fun fs more f => ?_, fun fs => ⟨rfl, fun fails => ?_, composeOutcome_of_notes, rfl⟩,
    fun x l => ?_, fun i s e ok train timer due => ?_⟩
  · intro full known
    obtain ⟨stays, truncates, grows⟩ := addFinding_cases fs f
    exact ⟨stays, truncates, grows, rfl, rfl⟩
  · rw [composeOutcome, if_neg Bool.false_ne_true, if_pos (hasFailing_iff.2 fails)]
  · intro y state
    have reported : y.reported = state := by
      simp only [state, Lane.reported]
      cases y.power with
      | parked | waking => rfl
      | active => cases y.rx <;> rfl
    refine ⟨reported, ?_⟩
    rw [← reported]
    exact byLane_getElem _ l
  · intro sl counted locked shared own
    obtain ⟨-, inScan, -, inDiscover, -⟩ := ok
    have unqueued : i ∉ s.scanner.queue := fun h => by cases train.symm.trans ((inScan i).1 h)
    have absent : .discovery i ∉ s.sideband.queue := fun h => by cases train.symm.trans (inDiscover i h)
    have taken : exec (.trainTimeout i) s = .next (settle (endTraining i s)) := by
      refine if_pos ?_
      rw [stateTimerDue, train, timer]
      exact Bool.and_eq_true_iff.2 ⟨decide_eq_true rfl, due⟩
    obtain ⟨y, patterns, ended, wiring, findings, claims, judged, soaks⟩ := endTraining_eq unqueued absent
    refine ⟨_, taken, ?_⟩
    have own_slot (j : SlotId) : (settle (endTraining i s)).slot j = if j = i then y else s.slot j := by
      rw [settle_slot, ended]
      exact State.modSlot_slot s i j fun _ => y
    have entry (l : LaneId) : y.wiring[l.val] =
        ⟨(sl.lane l).observed, (sl.lane l).observedPol, wireClass i sl l⟩ := by
      rw [wiring]
      exact wireMap_lane i sl l
    intro v
    have v_eq : v = y := (own_slot i).trans (if_pos rfl)
    clear_value v
    subst v_eq
    have isLocked (l : LaneId) : (sl.lane l).isLocked = true ↔ locked l := Lane.isLocked_iff
    have isCounted (l : LaneId) : sl.counted l = true ↔ counted l := Slot.counted_iff
    refine ⟨fun l => ?_, ?_⟩
    · rw [entry]
      refine ⟨?_, ?_, fun out => ?_, fun in_ hunts => ?_, fun in_ heard => ?_⟩
      · simp only [Lane.observed, isLocked]
      · simp only [Lane.observedPol, isLocked]
      · exact wireClass_of_uncounted (mt (isCounted l).1 out)
      · exact wireClass_of_open ((isCounted l).2 in_) (mt (isLocked l).1 hunts)
      · have cls := wireClass_of_heard (i := i) ((isCounted l).2 in_) ((isLocked l).2 heard)
        have isShared : sl.shares l = true ↔ shared l := by
          rw [Slot.shares_iff ((isLocked l).2 heard)]
          simp only [isLocked, isCounted]
          rfl
        simp only [cls, isShared]
        refine ⟨fun h => if_pos h, fun alone foreign => ?_, fun alone mine => ⟨fun moved => ?_, fun here turned => ?_,
          fun here straight => ?_⟩⟩
        · rw [if_neg alone, if_pos foreign]
        · rw [if_neg alone, if_neg (not_not_intro mine), if_pos moved]
        · rw [if_neg alone, if_neg (not_not_intro mine), if_neg (not_not_intro here), if_pos turned]
        · rw [if_neg alone, if_neg (not_not_intro mine), if_neg (not_not_intro here), if_neg (not_not_intro straight)]
    · intro finding unusable found
      have isUnusable : anyUsable v.wiring = false ↔ unusable := anyUsable_eq_false_iff
      have each (l : LaneId) : wireFinding sl l (v.wiring[l.val]) = finding l := wireFinding_eq sl l _
      have isFound : wireFindings sl (wireMap i sl) = found := by
        have tail : (if anyUsable v.wiring then [] else [⟨.noUsableLane, none, true, 0⟩] : List Finding) =
            if unusable then [⟨.noUsableLane, none, true, 0⟩] else [] := by
          by_cases h : unusable
          · rw [if_pos h, isUnusable.2 h]
            rfl
          · rw [if_neg h, Bool.eq_true_of_not_eq_false (mt isUnusable.1 h)]
            rfl
        rw [← wiring, wireFindings_eq, tail]
        exact congrArg (· ++ _) (congrArg₂ (· ++ ·) (congrArg₂ (· ++ ·) (congrArg₂ (· ++ ·) (each 0) (each 1))
          (each 2)) (each 3))
      have fails : sl.failsTraining i ↔
          sl.profile.stopOnFail = true ∧ (∃ f ∈ found, f.failing = true) ∨ unusable := by
        rw [Slot.failsTraining, isFound, hasFailing_iff, ← isUnusable, wiring]
      have passes (goesOn : ¬ (sl.profile.stopOnFail = true ∧ ∃ f ∈ found, f.failing = true))
          (usable : ¬ unusable) : ¬ sl.failsTraining i := mt fails.1 (not_or.2 ⟨goesOn, usable⟩)
      refine ⟨by rw [findings, ← isFound]; rfl, fun h => ?_, fun goesOn usable => ⟨?_, fun l => ?_⟩, fun j other => ?_, ?_⟩
      · rw [wiring, findings, judged (fails.2 h)]
        rfl
      · rw [wiring, findings, soaks (passes goesOn usable)]
        rfl
      · have soaked : v.lane l = (sl.lane l).soakEntry (v.wiring[l.val]).cls.usable := by
          rw [wiring, soaks (passes goesOn usable)]
          exact Slot.soaking_lane _ l
        rw [soaked, Lane.soakEntry]
        simp only [usable_iff]
        rfl
      · exact (own_slot j).trans (if_neg other)
      · have frame : settle (endTraining i s) = _ := settle_settled (endTraining i s)
        rw [settle_slots, ← claims]
        refine frame.trans ?_
        rw [ended]
        rfl

end Sys2Proof.Machine
end

section
/-! PROOF. A removal (R54, R58, R83 to R85, R88, R89, R109, R158): the slot that leaves its test, and what the
event does besides. -/

namespace Sys2Proof.Machine

open Sys2Proof Sys2Proof.Safety

/-! ### The lanes that park (R58) -/

theorem Lane.park_of_awake {x : Lane} (awake : x.power ≠ .parked) :
    x.park = { Lane.powerOn with counters := x.counters } := if_neg awake

theorem parkedLanes_getElem (x : Slot) (l : LaneId) : (parkedLanes x)[l.val] = (x.lane l).park :=
  byLane_getElem _ l

theorem parkedConfirm_getElem (x : Slot) (l : LaneId) :
    (parkedConfirm x)[l.val] = if (x.lane l).power = .parked then x.confirm[l.val] else 0 := byLane_getElem _ l

/-! ### A slot that leaves its test, and the sweeps that follow (R158) -/

/-- The engine passes on alike where the queue, the engine and the next tries' speeds are the same. -/
theorem sidebandWithout_same {s t : State} {gone gone' : SbEntry → Bool} (sideband : t.sideband = s.sideband)
    (speed : trySpeed t = trySpeed s) (same : gone' = gone) : sidebandWithout t gone' = sidebandWithout s gone := by
  have passes (q : List SbEntry) : enginePasses t q = enginePasses s q := by
    unfold enginePasses
    rw [sideband, speed]
  simp only [sidebandWithout, same, sideband, passes]

/-- Slot `i` as `y`, with the patterns `patterns`, withdrawn from both queues. -/
def leaves (i : SlotId) (y : Slot) (patterns : Vector Pattern 4) (s : State) : State :=
  withdraw i (entered i (fun _ => y) patterns s)

theorem toWatch_leaves (i : SlotId) (f : Slot → Slot) (s : State) :
    toWatch i (s.modSlot i f) = leaves i (f (s.slot i)).watched s.patterns s :=
  congrArg (withdraw i) (modSlot_modSlot i f Slot.watched s)

theorem toVerdict_leaves {i : SlotId} {f : Slot → Slot} {s : State}
    (profile : (f (s.slot i)).profile = (s.slot i).profile) :
    toVerdict i (s.modSlot i f) = leaves i (f (s.slot i)).judged (claimReleased s i) s :=
  toVerdict_modSlot profile

/-- A change of the slots, the claims and the two queues, and then of the slots, the claims and the sweep. -/
theorem rest_trans {s t v : State} (first : t = { s with
      patterns := t.patterns, slots := t.slots, sideband := t.sideband, scanner := t.scanner })
    (later : v = { t with patterns := v.patterns, slots := v.slots, scanner := v.scanner }) : v = { s with
      patterns := v.patterns, slots := v.slots, sideband := v.sideband, scanner := v.scanner } := by
  have sideband : v.sideband = t.sideband := by rw [later]
  rw [sideband]
  refine later.trans ?_
  rw [first]

/-- The end of an event that has changed the slots, the claims and the two queues. -/
theorem settled_frame {s v u : State} (rest : v = { s with
      patterns := v.patterns, slots := v.slots, sideband := v.sideband, scanner := v.scanner })
    (patterns : v.patterns = claimsMoved s v) (taken : u = settle v) : u = { s with
      patterns := claimsMoved s u, slots := u.slots, sideband := u.sideband, scanner := u.scanner
      writer := { s.writer with selection := u.writer.selection, lastSource := u.writer.lastSource }
      attention := { s.attention with
        condition := u.attention.condition, count := u.attention.count,
        waiting := u.attention.waiting } } := by
  have settled : SameButSettled v u := taken ▸ settle_settled v
  have moved : claimsMoved s u = v.patterns := by
    rw [taken]
    exact (claimsMoved_of_slots (settle_slots v)).trans patterns.symm
  have slots : u.slots = v.slots := by rw [taken, settle_slots]
  have sideband : u.sideband = v.sideband := by rw [taken, settle_sideband]
  have scanner : u.scanner = v.scanner := by rw [taken, settle_scanner]
  refine Eq.trans settled ?_
  rw [moved, slots, sideband, scanner, rest]

section
variable {i : SlotId} {y : Slot} {patterns : Vector Pattern 4} {s : State}

theorem leaves_slot : (leaves i y patterns s).slot i =
    { y with scan := if i ∈ s.scanner.queue then .empty else y.scan } := by
  have own := withdraw_slot i (entered i (fun _ => y) patterns s)
  rw [entered_own] at own
  exact own

theorem leaves_withdrawn : Withdrawn [i] s (leaves i y patterns s) :=
  (withdraw_withdrawn i (entered i (fun _ => y) patterns s)).before (fun _ => y) patterns s.freeCount rfl

theorem leaves_rest : leaves i y patterns s = { s with
    patterns := (leaves i y patterns s).patterns, slots := (leaves i y patterns s).slots
    sideband := (leaves i y patterns s).sideband, scanner := (leaves i y patterns s).scanner } := by
  obtain ⟨rest, -⟩ := withdraw_spec i (entered i (fun _ => y) patterns s)
  rw [leaves, rest]
  rfl

theorem leaves_patterns : (leaves i y patterns s).patterns = patterns :=
  withdraw_patterns i (entered i (fun _ => y) patterns s)

/-- R109: the discovery entry of the slot is withdrawn from the queue as it was. -/
theorem leaves_sideband (on : (s.slot i).state ≠ .off) (still : y.state ≠ .off)
    (profile : y.profile = (s.slot i).profile) : (leaves i y patterns s).sideband =
      sidebandWithout s (fun x => decide (x = .discovery i)) := by
  let left := entered i (fun _ => y) patterns s
  have withdrawn : (leaves i y patterns s).sideband = sidebandWithout left (SbEntry.isDiscoveryOf i) :=
    (congrArg State.sideband (withdraw_spec i left).rest :)
  rw [withdrawn]
  refine sidebandWithout_same rfl (funext fun j => ?_) (funext fun x => ?_)
  · by_cases e : j = i
    · rw [e, trySpeed, trySpeed, entered_own, if_neg still, if_neg on, profile]
    · rw [trySpeed, trySpeed, entered_other e]
  · rw [Bool.eq_iff_iff, SbEntry.isDiscoveryOf_iff, decide_eq_true_eq]

theorem leaves_unqueued : i ∉ (leaves i y patterns s).scanner.queue := by
  rw [leaves_withdrawn.queue]
  simp

/-- R54: the claim of a slot that leaves its test for VERDICT moves. -/
theorem leaves_claims_verdict (held : (s.slot i).state.abortable = true) (verdict : y.state = .verdict) :
    claimReleased s i = claimsMoved s (leaves i y patterns s) := by
  refine claimReleased_eq (fun j other q => leaves_withdrawn.claims_eq (by simpa using other) q) held ?_
  rw [leaves_slot]
  show y.state.abortable = false
  rw [verdict]
  rfl

/-- R54: the claim of a slot that goes back to WATCH stays. -/
theorem leaves_claims_watch (held : (s.slot i).state.abortable = true) (watch : y.state = .watch)
    (profile : y.profile = (s.slot i).profile) : s.patterns = claimsMoved s (leaves i y patterns s) := by
  refine leaves_withdrawn.claims_kept fun q => ?_
  rw [leaves_slot]
  refine claimsPattern_of_held held ?_ (congrArg Profile.payload profile) q
  show y.state.abortable = true
  rw [watch]
  rfl

variable (ok : SlotsOk s)
include ok

theorem leaves_swept : Swept (leaves i y patterns s) (sweepSettle (leaves i y patterns s)) :=
  leaves_withdrawn.sweeps ok

theorem swept_leaves_slot : (settle (sweepSettle (leaves i y patterns s))).slot i =
    { y with scan := if (s.slot i).state = .scan then .empty else y.scan } := by
  have queued := (SlotsOk.placed ok i).1
  rw [settle_slot, (leaves_swept ok).outside i leaves_unqueued, leaves_slot]
  simp only [queued]

theorem swept_leaves_other {j : SlotId} (other : j ≠ i) (notScan : (s.slot j).state ≠ .scan) :
    (settle (sweepSettle (leaves i y patterns s))).slot j = s.slot j := by
  have out : j ∉ s.scanner.queue := fun queued => notScan ((SlotsOk.placed ok j).1.1 queued)
  have left : j ∉ (leaves i y patterns s).scanner.queue := by
    rw [leaves_withdrawn.queue]
    exact fun h => out (List.mem_filter.1 h).1
  rw [settle_slot, (leaves_swept ok).outside j left]
  exact leaves_withdrawn.unqueued j (by simpa using other) out

theorem swept_leaves_unqueued : i ∉ (settle (sweepSettle (leaves i y patterns s))).scanner.queue := by
  rw [settle_scanner]
  exact fun queued => leaves_unqueued ((leaves_swept ok).queue.subset queued)

theorem swept_leaves_sideband :
    (settle (sweepSettle (leaves i y patterns s))).sideband = (leaves i y patterns s).sideband := by
  rw [settle_sideband, (leaves_swept ok).rest]

theorem swept_leaves_patterns (claims : patterns = claimsMoved s (leaves i y patterns s)) :
    (sweepSettle (leaves i y patterns s)).patterns = claimsMoved s (sweepSettle (leaves i y patterns s)) :=
  Entered.swept_patterns (R := fun _ _ _ _ => True)
    ⟨leaves_withdrawn, fun _ _ => trivial, leaves_patterns.trans claims⟩ (leaves_swept ok)

end

/-! ### The removal (R83 to R85) -/

/-- R84: an attempt is counted. -/
def Slot.attempted (x : Slot) : Slot := { x with attempts := x.attempts + 1 }

/-- R84, R85: the slot whose loss is debounced, its attempt counted. -/
def Slot.lost (x : Slot) : Slot := { x with
  present := false, debounceTimer := none, attempts := x.attempts + 1
  flags := x.flags ||| (if x.profile.presenceEdges = .remove ∨ x.profile.presenceEdges = .both then 2#10 else 0#10) }

/-- R85: the finding of the third removal. -/
def removedThrice : Finding := ⟨.removedRepeatedly, none, true, 3⟩

theorem reportsRemove_eq (edges : PresenceEdges) : (if edges.reportsRemove then EventFlags.remove else 0) =
    if edges = .remove ∨ edges = .both then 2#10 else 0#10 := by
  cases edges <;> rfl

/-- R85: the state of a slot after its removal. -/
def removedSlot (x : Slot) : Slot :=
  if x.attempts < 3 then x.watched else (x.find removedThrice).judged

/-- R54, R85: the patterns after a removal. -/
def removedClaims (i : SlotId) (x : Slot) (s : State) : Vector Pattern 4 :=
  if x.attempts < 3 then s.patterns else claimReleased s i

/-- R85: the removal of a slot, changed by `f`. -/
theorem removal_modSlot (i : SlotId) (f : Slot → Slot) (s : State)
    (profile : (f (s.slot i)).profile = (s.slot i).profile) : removal i (s.modSlot i f) = sweepSettle
      (leaves i (removedSlot (f (s.slot i)).attempted) (removedClaims i (f (s.slot i)).attempted s) s) := by
  have own : (s.modSlot i f).slot i = f (s.slot i) := (State.modSlot_slot s i i f).trans (if_pos rfl)
  let n := (f (s.slot i)).attempts + 1
  have unfolded : removal i (s.modSlot i f) = sweepSettle (if n < 3 then
        toWatch i ((s.modSlot i f).modSlot i fun x => { x with attempts := n })
      else toVerdict i (((s.modSlot i f).modSlot i fun x => { x with attempts := n }).modSlot i
        fun x => x.find removedThrice)) := by
    rw [removal, own]
    rfl
  rw [unfolded, modSlot_modSlot, modSlot_modSlot, toWatch_leaves, toVerdict_leaves (by exact profile), removedSlot,
    removedClaims]
  by_cases few : n < 3
  · rw [if_pos few, if_pos (show (f (s.slot i)).attempted.attempts < 3 from few),
      if_pos (show (f (s.slot i)).attempted.attempts < 3 from few)]
    rfl
  · rw [if_neg few, if_neg (show ¬ (f (s.slot i)).attempted.attempts < 3 from few),
      if_neg (show ¬ (f (s.slot i)).attempted.attempts < 3 from few)]
    rfl

theorem debounceTaken_of_loss {i : SlotId} {s : State} (absent : rawPresence s i = false)
    (present : (s.slot i).present = true) (test : (s.slot i).state.testing = true) : debounceTaken i s =
      sweepSettle (leaves i (removedSlot (s.slot i).lost) (removedClaims i (s.slot i).lost s) s) := by
  let taken (x : Slot) : Slot := { x with present := false, debounceTimer := none }
  let told (x : Slot) : Slot := { x with flags := x.flags |||
    (if (s.slot i).profile.presenceEdges.reportsRemove then EventFlags.remove else 0) }
  have own : (s.modSlot i taken).slot i = taken (s.slot i) := (State.modSlot_slot s i i taken).trans (if_pos rfl)
  have lost : (told (taken (s.slot i))).attempted = (s.slot i).lost := by
    simp only [told, reportsRemove_eq]
    rfl
  have unfolded : debounceTaken i s = removal i ((s.modSlot i taken).modSlot i told) := by
    rw [debounceTaken, absent, present]
    simp only [Bool.true_eq_false, Bool.false_eq_true, if_false]
    rw [presenceLoss, own]
    exact if_pos test
  rw [unfolded, modSlot_modSlot, removal_modSlot i (fun x => told (taken x)) s rfl, lost]

theorem testing_iff {st : SlotState} : st.testing = true ↔
    st ∈ [SlotState.settle, .discover, .train, .soak, .scan] := by
  cases st <;> decide

theorem removedSlot_of_few {x : Slot} (few : x.attempts < 2) : removedSlot x.lost = x.lost.watched :=
  if_pos (Nat.succ_lt_succ few)

theorem removedSlot_of_third {x : Slot} (two : x.attempts = 2) :
    removedSlot x.lost = (x.lost.find removedThrice).judged :=
  if_neg (show ¬ x.attempts + 1 < 3 by omega)

theorem removed_claims {i : SlotId} {s : State} (held : (s.slot i).state.abortable = true) :
    removedClaims i (s.slot i).lost s =
      claimsMoved s (leaves i (removedSlot (s.slot i).lost) (removedClaims i (s.slot i).lost s) s) := by
  by_cases few : (s.slot i).lost.attempts < 3
  · rw [removedClaims, removedSlot, if_pos few, if_pos few]
    exact leaves_claims_watch held rfl rfl
  · rw [removedClaims, removedSlot, if_neg few, if_neg few]
    exact leaves_claims_verdict held rfl

theorem removedSlot_on (x : Slot) : (removedSlot x).state ≠ .off ∧ (removedSlot x).profile = x.profile := by
  unfold removedSlot
  split <;> exact ⟨nofun, rfl⟩

/-- Settles O40: the slot leaves its test with its claim moved, and the sweeps that may then begin end before the
event does. -/
theorem removalsAreCounted : Obligations.RemovalsAreCounted := by
  refine ⟨fun x l => ?_, fun i s e ok sweepOk => ?_⟩
  · intro y
    refine ⟨fun parked => ⟨?_, ?_⟩, fun awake => ⟨?_, ?_⟩, ?_⟩
    · rw [parkedLanes_getElem]
      exact if_pos parked
    · rw [parkedConfirm_getElem]
      exact if_pos parked
    · rw [parkedConfirm_getElem]
      exact if_neg awake
    · rw [parkedLanes_getElem, Lane.park_of_awake awake]
      rfl
    · rw [parkedCleared_lane, parkedLanes_getElem]
      rfl
  · intro sl tracking timer due absent present testing lost findings
    have test : sl.state.testing = true := testing_iff.2 testing
    have held := SlotState.abortable_of_testing test
    have notOff : sl.state ≠ .off := fun off => by rw [off] at held; cases held
    have taken : exec (.debounceExpiry i) s = .next (settle (debounceTaken i s)) := by
      refine if_pos ?_
      rw [debounceDue, tracking, timer]
      exact due
    rw [debounceTaken_of_loss ((rawPresence_eq s i).trans absent) present test] at taken
    have slot := swept_leaves_slot (i := i) (y := removedSlot sl.lost) (patterns := removedClaims i sl.lost s) ok
    obtain ⟨on, profile⟩ := removedSlot_on sl.lost
    refine ⟨_, taken, fun few => ?_, fun two => ?_, fun j other notScan => swept_leaves_other ok other notScan,
      swept_leaves_unqueued ok, ?_, ?_⟩
    · rw [slot, removedSlot_of_few few]
      rfl
    · rw [slot, removedSlot_of_third two]
      rfl
    · rw [swept_leaves_sideband ok, leaves_sideband notOff on profile]
    · exact settled_frame (rest_trans leaves_rest (leaves_swept ok).rest)
        (swept_leaves_patterns ok (removed_claims held)) rfl

end Sys2Proof.Machine
end

section
/-! PROOF. Sweeps and slots that act on one event in turn (R148 to R155): a change of a slot outside the Scan
Queue commutes with the sweeps, and a slot that joins the queue may as well have joined it before they went on. -/

namespace Sys2Proof.Machine

open Sys2Proof Sys2Proof.Safety

/-! ### A slot and its claim replaced -/

/-- R54: the claim of a payload released. -/
def released (payload : Payload) (ps : Vector Pattern 4) : Vector Pattern 4 :=
  Vector.ofFn fun q : Fin 4 => { ps[q.val] with
    inUse := (ps[q.val]).inUse - if payload = .pattern q then 1 else 0 }

theorem claimReleased_released (s : State) (i : SlotId) :
    claimReleased s i = released (s.slot i).profile.payload s.patterns := rfl

theorem released_comm (a b : Payload) (ps : Vector Pattern 4) :
    released a (released b ps) = released b (released a ps) := by
  have at_ (c : Payload) (ps : Vector Pattern 4) (q : Nat) (hq : q < 4) : (released c ps)[q] =
      { ps[q] with inUse := (ps[q]).inUse - if c = .pattern ⟨q, hq⟩ then 1 else 0 } := Vector.getElem_ofFn hq
  refine Vector.ext fun q hq => ?_
  rw [at_, at_, at_, at_, Nat.sub_right_comm]

theorem eq_of_slots_patterns {t u : State} (rest : t = { u with slots := t.slots, patterns := t.patterns })
    (slots : t.slots = u.slots) (patterns : t.patterns = u.patterns) : t = u := by
  rw [rest, slots, patterns]

/-- Slot `i` as `y`, its claim released where `release` says so. -/
def reslot (i : SlotId) (y : Slot) (release : Bool) (s : State) : State :=
  { s.withSlot i y with patterns := if release then claimReleased s i else s.patterns }

section
variable {i j : SlotId} {y z : Slot} {r r' : Bool} {s : State}

theorem reslot_slot : (reslot i y r s).slot j = if j = i then y else s.slot j := State.withSlot_slot s i j y

theorem reslot_own : (reslot i y r s).slot i = y := reslot_slot.trans (if_pos rfl)

theorem reslot_other (other : j ≠ i) : (reslot i y r s).slot j = s.slot j := reslot_slot.trans (if_neg other)

theorem reslot_patterns : (reslot i y r s).patterns =
    if r then released (s.slot i).profile.payload s.patterns else s.patterns := by
  rw [← claimReleased_released]
  rfl

theorem reslot_same : reslot i (s.slot i) false s = s := by
  simp [reslot, State.withSlot, State.slot]

/-- Two slots change independently of each other. -/
theorem reslot_comm (other : j ≠ i) : reslot j z r' (reslot i y r s) = reslot i y r (reslot j z r' s) := by
  have slots : (s.slots.set i.val y).set j.val z = (s.slots.set j.val z).set i.val y :=
    Vector.set_comm _ _ fun e => other (Fin.ext e).symm
  have patterns : (reslot j z r' (reslot i y r s)).patterns = (reslot i y r (reslot j z r' s)).patterns := by
    have own : (reslot i y r s).slot j = s.slot j := reslot_other other
    have own' : (reslot j z r' s).slot i = s.slot i := reslot_other fun e => other e.symm
    simp only [reslot_patterns, own, own']
    cases r <;> cases r' <;> simp [released_comm]
  exact eq_of_slots_patterns rfl slots patterns

end

/-! ### The steps of a sweep and a slot outside the queue -/

theorem sweepBegun_queue (s : State) (q : List SlotId) : (sweepBegun s q).scanner.queue = q := by
  cases q <;> rfl

theorem sweepBegun_scanner (s : State) (x : Scanner) (q : List SlotId) :
    sweepBegun { s with scanner := x } q = sweepBegun s q := by
  cases q <;> rfl

theorem sweepBegun_cons (s : State) (j : SlotId) (q : List SlotId) : sweepBegun s (j :: q) =
    { reslot j { s.slot j with scan := firstResult (s.slot j) } false s with
      scanner := ⟨j :: q, some ⟨0, firstSteps (s.slot j)⟩⟩ } := rfl

theorem sweepAdvance_reslot (j : SlotId) (sw : Sweep) (s : State) : sweepAdvance j sw s =
    { reslot j (((s.slot j).moved s.us (sw.position + 1) sw.steps).resulted (sw.position + 1) sw.steps) false s with
      scanner := ⟨s.scanner.queue, some (advancedSweep j sw s)⟩ } := sweepAdvance_eq j sw s

theorem sweepComplete_reslot (j : SlotId) (s : State) : sweepComplete j s =
    sweepBegun (reslot j ((s.slot j).scanned s.us).judged true s) s.scanner.queue.tail := by
  rw [sweepComplete_eq, sweepNext_eq]
  exact sweepBegun_scanner (reslot j ((s.slot j).scanned s.us).judged true s) ⟨s.scanner.queue.tail, none⟩ _

theorem sweepComplete_queue (j : SlotId) (s : State) : (sweepComplete j s).scanner.queue = s.scanner.queue.tail := by
  rw [sweepComplete_reslot, sweepBegun_queue]

section
variable {i j : SlotId} (y : Slot) (r : Bool) (s : State)

theorem sweepBegun_comm {q : List SlotId} (out : i ∉ q) :
    sweepBegun (reslot i y r s) q = reslot i y r (sweepBegun s q) := by
  cases q with
  | nil => rfl
  | cons j q =>
    have other : j ≠ i := fun e => out (e ▸ List.mem_cons_self)
    rw [sweepBegun_cons, sweepBegun_cons, reslot_other other, reslot_comm other]
    rfl

theorem sweepAdvance_comm (sw : Sweep) (other : j ≠ i) :
    sweepAdvance j sw (reslot i y r s) = reslot i y r (sweepAdvance j sw s) := by
  have sweep : advancedSweep j sw (reslot i y r s) = advancedSweep j sw s := by
    rw [advancedSweep, reslot_other other]
    rfl
  rw [sweepAdvance_reslot, sweepAdvance_reslot, sweep, reslot_other other]
  exact congrArg (fun t : State => { t with scanner := ⟨s.scanner.queue, some (advancedSweep j sw s)⟩ })
    (reslot_comm other)

theorem sweepComplete_comm (other : j ≠ i) (out : i ∉ s.scanner.queue.tail) :
    sweepComplete j (reslot i y r s) = reslot i y r (sweepComplete j s) := by
  rw [sweepComplete_reslot, sweepComplete_reslot, ← sweepBegun_comm _ _ _ out, reslot_other other, reslot_comm other]
  rfl

theorem sweepRun_comm (n : Nat) {s : State} (out : i ∉ s.scanner.queue) :
    sweepRun n (reslot i y r s) = reslot i y r (sweepRun n s) := by
  induction n generalizing s with
  | zero => rfl
  | succ n ih =>
    have scanner : (reslot i y r s).scanner = s.scanner := rfl
    unfold sweepRun
    rw [scanner]
    split
    · rename_i j rest sw queue sweep
      have other : j ≠ i := fun e => out (by rw [queue, e]; exact List.mem_cons_self)
      split
      · rfl
      · split
        · rw [sweepAdvance_comm y r s sw other]
          exact ih out
        · have left : i ∉ s.scanner.queue.tail := fun h => out (List.mem_of_mem_tail h)
          rw [sweepComplete_comm y r s other left]
          exact ih (by rw [sweepComplete_queue]; exact left)
    · rfl

end

/-! ### Slots that join the queue -/

/-- R148, R149: the slots `q` at the tail of the Scan Queue; where none waited the sweep of the first begins. -/
def scanQueued (q : List SlotId) (s : State) : State :=
  if s.scanner.queue = [] then sweepBegun s q else { s with scanner := ⟨s.scanner.queue ++ q, s.scanner.sweep⟩ }

theorem scanQueued_queue (q : List SlotId) (s : State) :
    (scanQueued q s).scanner.queue = s.scanner.queue ++ q := by
  unfold scanQueued
  split
  · rename_i empty
    rw [sweepBegun_queue, empty, List.nil_append]
  · rfl

theorem scanQueued_of_cons {s : State} {j : SlotId} {rest : List SlotId} (queue : s.scanner.queue = j :: rest)
    (q : List SlotId) : scanQueued q s = { s with scanner := ⟨j :: rest ++ q, s.scanner.sweep⟩ } := by
  rw [scanQueued, if_neg (by rw [queue]; nofun), queue]

theorem scanQueued_sweepBegun (q q' : List SlotId) (s : State) :
    scanQueued q' (sweepBegun s q) = sweepBegun s (q ++ q') := by
  cases q with
  | nil => exact (if_pos rfl).trans (sweepBegun_scanner s _ q')
  | cons j q => rw [scanQueued_of_cons (sweepBegun_queue s (j :: q))]; rfl

theorem scanQueued_append (q q' : List SlotId) (s : State) :
    scanQueued q' (scanQueued q s) = scanQueued (q ++ q') s := by
  cases queue : s.scanner.queue with
  | nil =>
    have begins (q : List SlotId) : scanQueued q s = sweepBegun s q := if_pos queue
    rw [begins, begins, scanQueued_sweepBegun]
  | cons j rest =>
    rw [scanQueued_of_cons queue, scanQueued_of_cons queue, ← List.append_assoc]
    exact scanQueued_of_cons rfl q'

theorem scanQueued_comm {i : SlotId} (y : Slot) (r : Bool) (s : State) {q : List SlotId} (out : i ∉ q) :
    scanQueued q (reslot i y r s) = reslot i y r (scanQueued q s) := by
  have scanner : (reslot i y r s).scanner = s.scanner := rfl
  unfold scanQueued
  rw [scanner]
  split
  · exact sweepBegun_comm y r s out
  · rfl

/-- R154: a slot that joins the queue after the sweep has gone on might as well have joined it before. -/
theorem sweepSettle_scanQueued (i : SlotId) (n : Nat) {s : State} (short : s.scanner.queue.length < 12) :
    sweepSettle (scanQueued [i] (sweepRun n s)) = sweepSettle (scanQueued [i] s) := by
  induction n generalizing s with
  | zero => rfl
  | succ n ih =>
    unfold sweepRun
    split
    · rename_i j rest sw queue sweep
      rw [queue] at short
      have joined := scanQueued_of_cons queue [i]
      have short' : (rest ++ [i]).length < 12 := by simpa using short
      split
      · rfl
      · rename_i idle
        have next := sweepSettle_succ (s := scanQueued [i] s) (by rw [joined]; rfl) short' (by rw [joined]; exact sweep)
          (Bool.not_eq_true _ ▸ idle)
        split
        · rename_i below
          rw [if_pos below] at next
          have advanced : sweepAdvance j sw (scanQueued [i] s) = scanQueued [i] (sweepAdvance j sw s) := by
            have moved : (sweepAdvance j sw s).scanner.queue = j :: rest := by rw [sweepAdvance_queue, queue]
            rw [joined, scanQueued_of_cons moved, sweepAdvance_reslot, sweepAdvance_reslot]
            rfl
          rw [next, advanced]
          exact ih (by rw [sweepAdvance_queue, queue]; exact short)
        · rename_i last
          rw [if_neg last] at next
          have completed : sweepComplete j (scanQueued [i] s) = scanQueued [i] (sweepComplete j s) := by
            rw [joined, sweepComplete_reslot, sweepComplete_reslot, scanQueued_sweepBegun, queue]
            exact sweepBegun_scanner (reslot j ((s.slot j).scanned s.us).judged true s) _ (rest ++ [i])
          rw [next, completed]
          refine ih ?_
          rw [sweepComplete_queue, queue]
          simp at short ⊢
          omega
    · rfl

end Sys2Proof.Machine
end

section
/-! PROOF. Checkpoints (R132, R135 to R143, R148): what a slot makes of one, and that the slots act on it
independently of each other but for their order in the Scan Queue. -/

namespace Sys2Proof.Machine

open Sys2Proof Sys2Proof.Safety

/-! ### A slot at a checkpoint (R135 to R137, R139, R143) -/

/-- R135 to R137: a slot that has met a checkpoint in SOAK, but for the ceiling's findings. -/
def Slot.met (x : Slot) : Slot := { x with
  checkpoints := if x.joined then x.checkpoints + 1 else x.checkpoints
  joined := true
  progressPending := x.progressPending || x.profile.progressReports
  frozen := if x.profile.progressReports then
      some ⟨if x.joined then x.checkpoints + 1 else x.checkpoints, false, byLane fun l =>
        ⟨(x.lane l).counters.blocks, (x.lane l).counters.errors, (x.lane l).counters.drops, (x.lane l).reported⟩⟩
    else x.frozen }

theorem Slot.meetCheckpoint_eq (x : Slot) :
    x.meetCheckpoint = { x.met with findings := addFindings x.findings (ceilingFindings x) } := by
  unfold Slot.meetCheckpoint Slot.met Slot.freeze
  cases joined : x.joined <;> cases reports : x.profile.progressReports <;> simp [reports] <;> rfl

/-- R139: the slot is over its error ceiling. -/
def Slot.overCeiling (x : Slot) : Bool := !(ceilingFindings x).isEmpty

/-- R136: the checkpoint is the last of the slot's soak. -/
def Slot.soakEnds (x : Slot) : Bool := x.joined && decide (x.profile.soakLength ≤ x.meetCheckpoint.checkpoints)

/-- R143: the checkpoint takes the slot to SCAN. -/
def Slot.joinsScan (x : Slot) : Bool :=
  decide (x.state = .soak) && !x.overCeiling && x.soakEnds && x.meetCheckpoint.soakJudged.scans false

/-- R139, R143: the checkpoint takes the slot to VERDICT. -/
def Slot.leavesSoak (x : Slot) : Bool :=
  decide (x.state = .soak) && (x.overCeiling || x.soakEnds) && !x.joinsScan

/-- The slot after the checkpoint. -/
def Slot.checkpointed (x : Slot) : Slot :=
  if x.joinsScan then x.meetCheckpoint.soakJudged.scanning
  else if x.leavesSoak then x.meetCheckpoint.soakJudged.judged
  else if x.state = .soak then x.meetCheckpoint else x

section
variable {x : Slot}

theorem Slot.joinsScan_iff : x.joinsScan = true ↔ x.state = .soak ∧ x.overCeiling = false ∧ x.soakEnds = true ∧
    x.meetCheckpoint.soakJudged.scans false = true := by
  simp [Slot.joinsScan, and_assoc]

theorem Slot.leavesSoak_iff : x.leavesSoak = true ↔
    x.state = .soak ∧ (x.overCeiling = true ∨ x.soakEnds = true) ∧ x.joinsScan = false := by
  simp [Slot.leavesSoak, and_assoc]

theorem Slot.checkpointed_of_joinsScan (joins : x.joinsScan = true) :
    x.checkpointed = x.meetCheckpoint.soakJudged.scanning := if_pos joins

theorem Slot.leavesSoak_of_joinsScan (joins : x.joinsScan = true) : x.leavesSoak = false := by
  rw [Slot.leavesSoak, joins]
  simp

theorem Slot.checkpointed_of_leavesSoak (leaves : x.leavesSoak = true) :
    x.checkpointed = x.meetCheckpoint.soakJudged.judged := by
  obtain ⟨-, -, stays⟩ := Slot.leavesSoak_iff.1 leaves
  rw [Slot.checkpointed, stays, leaves]
  rfl

theorem Slot.checkpointed_of_soaking (soak : x.state = .soak) (within : x.overCeiling = false)
    (goesOn : x.soakEnds = false) : x.checkpointed = x.meetCheckpoint ∧ x.joinsScan = false ∧
      x.leavesSoak = false := by
  have joins : x.joinsScan = false := by simp [Slot.joinsScan, goesOn]
  have leaves : x.leavesSoak = false := by simp [Slot.leavesSoak, within, goesOn]
  rw [Slot.checkpointed, joins, leaves]
  exact ⟨if_pos soak, rfl, rfl⟩

theorem Slot.checkpointed_of_elsewhere (elsewhere : x.state ≠ .soak) :
    x.checkpointed = x ∧ x.joinsScan = false ∧ x.leavesSoak = false := by
  have joins : x.joinsScan = false := by simp [Slot.joinsScan, elsewhere]
  have leaves : x.leavesSoak = false := by simp [Slot.leavesSoak, elsewhere]
  rw [Slot.checkpointed, joins, leaves]
  exact ⟨if_neg elsewhere, rfl, rfl⟩

end

/-! ### Sweeps that rest, and sweeps that have begun -/

/-- R154: no slot waits, or some lane of the sweep waits or dwells. -/
def Resting (s : State) : Prop := s.scanner.queue = [] ∨ ∃ sw, s.scanner.sweep = some sw ∧ sw.busy = true

theorem sweepRun_sideband (n : Nat) (s : State) : (sweepRun n s).sideband = s.sideband := by
  induction n generalizing s with
  | zero => rfl
  | succ n ih =>
    unfold sweepRun
    split
    · rename_i j rest sw queue sweep
      split
      · rfl
      · split
        · rw [ih, sweepAdvance_reslot]
          rfl
        · rw [ih, sweepComplete_reslot]
          cases s.scanner.queue.tail <;> rfl
    · rfl

theorem sweepRun_queue (n : Nat) (s : State) : (sweepRun n s).scanner.queue <:+ s.scanner.queue := by
  induction n generalizing s with
  | zero => exact List.suffix_refl _
  | succ n ih =>
    unfold sweepRun
    split
    · rename_i j rest sw queue sweep
      split
      · exact List.suffix_refl _
      · split
        · exact sweepAdvance_queue j sw s ▸ ih (sweepAdvance j sw s)
        · exact (sweepComplete_queue j s ▸ ih (sweepComplete j s)).trans (List.tail_suffix _)
    · exact List.suffix_refl _

theorem sweepBegun_sweep {s : State} {q : List SlotId} (none : (sweepBegun s q).scanner.sweep = none) : q = [] := by
  cases q with
  | nil => rfl
  | cons j q => cases none

/-- R154: a run of a sweep that has begun, long enough, leaves one that rests. -/
theorem sweepRun_resting (n : Nat) {s : State} (begun : s.scanner.sweep = none → s.scanner.queue = [])
    (enough : sweepLeft s ≤ n) : Resting (sweepRun n s) := by
  induction n generalizing s with
  | zero =>
    show Resting s
    cases queue : s.scanner.queue with
    | nil => exact .inl queue
    | cons j rest =>
      cases sweep : s.scanner.sweep with
      | none => exact .inl (begun sweep)
      | some sw =>
        simp only [sweepLeft, queue, sweep] at enough
        omega
  | succ n ih =>
    unfold sweepRun
    split
    · rename_i j rest sw queue sweep
      simp only [sweepLeft, queue, sweep] at enough
      split
      · rename_i busy
        exact .inr ⟨sw, sweep, busy⟩
      · split
        · refine ih (fun none => by rw [sweepAdvance_reslot] at none; cases none) ?_
          obtain ⟨steps, next⟩ := sweepAdvance_sweep j sw s
          simp only [sweepLeft, sweepAdvance_queue, queue, next]
          omega
        · refine ih (fun none => ?_) ((sweepComplete_left j j rest s queue).trans (by omega))
          rw [sweepComplete_queue]
          rw [sweepComplete_reslot] at none
          exact sweepBegun_sweep none
    · rename_i none
      cases queue : s.scanner.queue with
      | nil => exact .inl queue
      | cons j rest =>
        cases sweep : s.scanner.sweep with
        | none => exact .inl (begun sweep)
        | some sw => exact absurd sweep (none j rest sw queue)

/-- R154: a sweep that rests goes no further. -/
theorem Resting.sweepSettle {s : State} (rests : Resting s) : sweepSettle s = s := by
  obtain empty | ⟨sw, sweep, busy⟩ := rests
  · exact sweepSettle_of_none (.inl empty)
  · exact sweepSettle_of_busy sweep busy

/-! ### Slots that join the queue, and the sweeps that follow -/

/-- R148, R154: the slots `q` join the Scan Queue, and the sweep goes on as far as it can. -/
def scansOn (q : List SlotId) (s : State) : State := sweepSettle (scanQueued q s)

section
variable {s : State} {q : List SlotId} (rests : Resting s)
include rests

theorem scanQueued_begun (none : (scanQueued q s).scanner.sweep = none) : (scanQueued q s).scanner.queue = [] := by
  unfold scanQueued at *
  split at none
  · rename_i empty
    rw [if_pos empty, sweepBegun_queue]
    exact sweepBegun_sweep none
  · rename_i waits
    obtain empty | ⟨sw, sweep, -⟩ := rests
    · exact absurd empty waits
    · cases none.symm.trans sweep

theorem scansOn_nil (idle : s.scanner.queue = [] → s.scanner.sweep = none) : scansOn [] s = s := by
  have same : scanQueued [] s = s := by
    cases queue : s.scanner.queue with
    | nil =>
      have scanner : (⟨[], none⟩ : Scanner) = s.scanner := by rw [← queue, ← idle queue]
      exact (if_pos queue).trans (by rw [sweepBegun, scanner])
    | cons j rest => rw [scanQueued_of_cons queue, List.append_nil, ← queue]
  rw [scansOn, same, rests.sweepSettle]

theorem scansOn_of_waiting (waits : s.scanner.queue ≠ []) : scansOn q s =
    { s with scanner := ⟨s.scanner.queue ++ q, s.scanner.sweep⟩ } := by
  obtain empty | ⟨sw, sweep, busy⟩ := rests
  · exact absurd empty waits
  · rw [scansOn, scanQueued, if_neg waits]
    exact sweepSettle_of_busy sweep busy

theorem scansOn_resting (once : (s.scanner.queue ++ q).Nodup) : Resting (scansOn q s) :=
  sweepRun_resting _ (scanQueued_begun rests) (sweepLeft_le (by rwa [scanQueued_queue]))

/-- A slot that does not join changes independently of the slots that do. -/
theorem scansOn_comm {i : SlotId} (y : Slot) (r : Bool) (out : i ∉ q) :
    scansOn q (reslot i y r s) = reslot i y r (scansOn q s) := by
  by_cases empty : s.scanner.queue = []
  · rw [scansOn, scanQueued_comm y r s out]
    exact sweepRun_comm y r _ (by rwa [scanQueued_queue, empty])
  · rw [scansOn_of_waiting rests empty, scansOn_of_waiting (s := reslot i y r s) rests empty]
    rfl

theorem scansOn_slot {i : SlotId} (out : i ∉ q) : (scansOn q s).slot i = s.slot i := by
  have own := reslot_own (i := i) (y := s.slot i) (r := false) (s := scansOn q s)
  rwa [← scansOn_comm rests _ _ out, reslot_same] at own

end

theorem scansOn_sideband (q : List SlotId) (s : State) : (scansOn q s).sideband = s.sideband := by
  rw [scansOn, sweepSettle, sweepRun_sideband, scanQueued]
  split
  · cases q <;> rfl
  · rfl

theorem scansOn_queue (q : List SlotId) (s : State) : (scansOn q s).scanner.queue ⊆ s.scanner.queue ++ q := by
  rw [← scanQueued_queue]
  exact (sweepRun_queue _ _).subset

/-- R154: slots that join after the sweeps have gone on might as well have joined before. -/
theorem scansOn_scansOn {q : List SlotId} {i : SlotId} {s : State} (once : (s.scanner.queue ++ q).Nodup)
    (out : i ∉ s.scanner.queue ++ q) : scansOn [i] (scansOn q s) = scansOn (q ++ [i]) s := by
  have short : (scanQueued q s).scanner.queue.length < 12 := by
    have all : (i :: (s.scanner.queue ++ q)).length ≤ 12 := (List.nodup_cons.2 ⟨out, once⟩).length_le_card
    rw [scanQueued_queue]
    exact all
  exact (sweepSettle_scanQueued i sweepBound short).trans (congrArg sweepSettle (scanQueued_append q [i] s))

/-! ### The checkpoint of one slot in the state -/

section
variable {s : State} {i : SlotId}

/-- R89: a soak that ends in VERDICT. -/
theorem toVerdict_reslot (unqueued : i ∉ s.scanner.queue) (absent : .discovery i ∉ s.sideband.queue) :
    toVerdict i ((s.withSlot i (s.slot i).meetCheckpoint).modSlot i Slot.soakJudged) =
      reslot i (s.slot i).meetCheckpoint.soakJudged.judged true s := by
  have met : s.withSlot i (s.slot i).meetCheckpoint = s.modSlot i Slot.meetCheckpoint := rfl
  rw [met, modSlot_modSlot, toVerdict_of_absent unqueued absent]
  · rfl
  · rw [Slot.meetCheckpoint_eq]
    rfl

/-- R148: a soak that ends in SCAN. -/
theorem toScan_reslot (rests : Resting s) :
    toScan i ((s.withSlot i (s.slot i).meetCheckpoint).modSlot i Slot.soakJudged) =
      scansOn [i] (reslot i (s.slot i).meetCheckpoint.soakJudged.scanning false s) := by
  let t := reslot i (s.slot i).meetCheckpoint.soakJudged.scanning false s
  have joined : scanJoined i ((s.withSlot i (s.slot i).meetCheckpoint).modSlot i Slot.soakJudged) =
      { t with scanner := ⟨s.scanner.queue ++ [i], s.scanner.sweep⟩ } := by
    have met : s.withSlot i (s.slot i).meetCheckpoint = s.modSlot i Slot.meetCheckpoint := rfl
    rw [scanJoined, met, modSlot_modSlot, modSlot_modSlot]
    rfl
  rw [toScan_eq, joined]
  by_cases empty : s.scanner.queue = []
  · have none : s.scanner.queue.isEmpty = true := List.isEmpty_iff.2 empty
    have one : s.scanner.queue ++ [i] = [i] := by rw [empty]; rfl
    refine (if_pos none).trans ?_
    rw [sweepNext_eq, scansOn, scanQueued, if_pos (show t.scanner.queue = [] from empty), one]
    exact congrArg sweepSettle (sweepBegun_scanner t _ [i])
  · have some_ : ¬ s.scanner.queue.isEmpty = true := fun h => empty (List.isEmpty_iff.1 h)
    refine (if_neg some_).trans ?_
    rw [scansOn_of_waiting (s := t) rests empty]
    rfl

/-- R135, R136, R139, R143: the checkpoint of a slot. -/
theorem slotCheckpoint_eq (rests : Resting s) (apart : (s.slot i).state = .soak →
      i ∉ s.scanner.queue ∧ .discovery i ∉ s.sideband.queue) : slotCheckpoint i s =
    if (s.slot i).joinsScan then scansOn [i] (reslot i (s.slot i).checkpointed (s.slot i).leavesSoak s)
    else reslot i (s.slot i).checkpointed (s.slot i).leavesSoak s := by
  have own : (s.withSlot i (s.slot i).meetCheckpoint).slot i = (s.slot i).meetCheckpoint :=
    (State.withSlot_slot s i i _).trans (if_pos rfl)
  by_cases soak : (s.slot i).state = .soak
  · obtain ⟨unqueued, absent⟩ := apart soak
    have unfolded : slotCheckpoint i s =
        if (s.slot i).overCeiling then endSoak i true (s.withSlot i (s.slot i).meetCheckpoint)
        else if (s.slot i).soakEnds then endSoak i false (s.withSlot i (s.slot i).meetCheckpoint)
        else s.withSlot i (s.slot i).meetCheckpoint := by
      unfold slotCheckpoint Slot.soakEnds
      simp only
      rw [if_neg (not_not_intro soak), own]
      rfl
    have verdict (leaves : (s.slot i).leavesSoak = true) :
        toVerdict i ((s.withSlot i (s.slot i).meetCheckpoint).modSlot i Slot.soakJudged) =
          reslot i (s.slot i).checkpointed (s.slot i).leavesSoak s := by
      rw [toVerdict_reslot unqueued absent, Slot.checkpointed_of_leavesSoak leaves, leaves]
    rw [unfolded, endSoak_eq, endSoak_eq, own]
    cases above : (s.slot i).overCeiling with
    | true =>
      have joins : (s.slot i).joinsScan = false := by simp [Slot.joinsScan, above]
      rw [joins, ← verdict (Slot.leavesSoak_iff.2 ⟨soak, .inl above, joins⟩)]
      rfl
    | false =>
      cases ends : (s.slot i).soakEnds with
      | false =>
        obtain ⟨same, joins, leaves⟩ := Slot.checkpointed_of_soaking soak above ends
        rw [same, joins, leaves]
        rfl
      | true =>
        cases scans : (s.slot i).meetCheckpoint.soakJudged.scans false with
        | true =>
          have joins := Slot.joinsScan_iff.2 ⟨soak, above, ends, scans⟩
          rw [joins, Slot.checkpointed_of_joinsScan joins, Slot.leavesSoak_of_joinsScan joins]
          exact toScan_reslot rests
        | false =>
          have joins : (s.slot i).joinsScan = false := by simp [Slot.joinsScan, scans]
          rw [joins, ← verdict (Slot.leavesSoak_iff.2 ⟨soak, .inr ends, joins⟩)]
          rfl
  · obtain ⟨same, joins, leaves⟩ := Slot.checkpointed_of_elsewhere soak
    rw [same, joins, leaves]
    exact (if_pos soak).trans reslot_same.symm

end

/-! ### The checkpoints of the slots in turn -/

/-- The slots `xs` as the checkpoint leaves them, before those that enter SCAN join the queue. -/
def checkpointedSlots (xs : List SlotId) (s : State) : State :=
  xs.foldl (fun s i => reslot i (s.slot i).checkpointed (s.slot i).leavesSoak s) s

/-- R148, R154: the slots act on a checkpoint independently of each other; those that enter SCAN might as well
join the queue together, in their order. -/
theorem slotCheckpoint_foldl (xs : List SlotId) {q : List SlotId} {s : State} (once : xs.Nodup)
    (fresh : ∀ i ∈ xs, i ∉ q) (queued : (s.scanner.queue ++ q).Nodup) (rests : Resting s)
    (apart : ∀ i ∈ xs, (s.slot i).state = .soak → i ∉ s.scanner.queue ∧ .discovery i ∉ s.sideband.queue) :
    xs.foldl (fun s i => slotCheckpoint i s) (scansOn q s) =
      scansOn (q ++ xs.filter fun i => (s.slot i).joinsScan) (checkpointedSlots xs s) := by
  induction xs generalizing q s with
  | nil => rw [List.filter_nil, List.append_nil]; rfl
  | cons i xs ih =>
    obtain ⟨new, once⟩ := List.nodup_cons.1 once
    obtain ⟨out, fresh⟩ := List.forall_mem_cons.1 fresh
    obtain ⟨apart₁, apart⟩ := List.forall_mem_cons.1 apart
    let t := reslot i (s.slot i).checkpointed (s.slot i).leavesSoak s
    have same : (scansOn q s).slot i = s.slot i := scansOn_slot rests out
    have first := slotCheckpoint_eq (s := scansOn q s) (i := i) (scansOn_resting rests queued) fun soak => by
      rw [same] at soak
      obtain ⟨unqueued, absent⟩ := apart₁ soak
      refine ⟨fun h => ?_, scansOn_sideband q s ▸ absent⟩
      exact (List.mem_append.1 (scansOn_queue q s h)).elim unqueued out
    rw [same, ← scansOn_comm rests _ _ out] at first
    have others (j : SlotId) (later : j ∈ xs) : t.slot j = s.slot j := reslot_other fun e => new (e ▸ later)
    have filtered : (xs.filter fun i => (t.slot i).joinsScan) = xs.filter fun i => (s.slot i).joinsScan :=
      List.filter_congr fun j later => by rw [others j later]
    have apart : ∀ j ∈ xs, (t.slot j).state = .soak → j ∉ s.scanner.queue ∧ .discovery j ∉ s.sideband.queue :=
      fun j later soak => apart j later (others j later ▸ soak)
    rw [List.foldl_cons, first, List.filter_cons]
    cases joins : (s.slot i).joinsScan with
    | false =>
      have later := ih (q := q) (s := t) once fresh queued rests apart
      rw [filtered] at later
      exact later
    | true =>
      have unqueued : i ∉ s.scanner.queue := (apart₁ (Slot.joinsScan_iff.1 joins).1).1
      have out' : i ∉ s.scanner.queue ++ q := by simp [unqueued, out]
      have joined : (s.scanner.queue ++ (q ++ [i])).Nodup := by
        rw [← List.append_assoc, List.nodup_append]
        refine ⟨queued, List.nodup_singleton i, fun a among b one e => out' ?_⟩
        rwa [← List.mem_singleton.1 one, ← e]
      have later := ih (q := q ++ [i]) (s := t) once
        (fun j later among => (List.mem_append.1 among).elim (fresh j later)
          fun one => new (List.mem_singleton.1 one ▸ later)) joined rests apart
      rw [filtered, List.append_assoc, ← scansOn_scansOn (s := t) queued out'] at later
      exact later

/-! ### The slots and the claims after all checkpoints -/

theorem checkpointedSlots_slot (xs : List SlotId) (s : State) (once : xs.Nodup) (j : SlotId) :
    (checkpointedSlots xs s).slot j = if j ∈ xs then (s.slot j).checkpointed else s.slot j := by
  induction xs generalizing s with
  | nil => rfl
  | cons i xs ih =>
    obtain ⟨new, once⟩ := List.nodup_cons.1 once
    refine (ih _ once).trans ?_
    by_cases e : j = i
    · rw [e, if_neg new, if_pos List.mem_cons_self, reslot_own]
    · simp only [reslot_other e, List.mem_cons, e, false_or]

theorem checkpointedSlots_rest (xs : List SlotId) (s : State) : checkpointedSlots xs s = { s with
    slots := (checkpointedSlots xs s).slots, patterns := (checkpointedSlots xs s).patterns } := by
  induction xs generalizing s with
  | nil => rfl
  | cons i xs ih => exact ih (reslot i (s.slot i).checkpointed (s.slot i).leavesSoak s)

theorem Slot.meetCheckpoint_profile (x : Slot) : x.meetCheckpoint.profile = x.profile := by
  rw [Slot.meetCheckpoint_eq]
  rfl

/-- R54: a checkpoint takes the claim of a slot that leaves SOAK for VERDICT, and no other. -/
theorem Slot.checkpointed_claims (x : Slot) (q : Fin 4) :
    x.checkpointed.claimsPattern q = (x.claimsPattern q && !x.leavesSoak) := by
  have payload := congrArg Profile.payload (Slot.meetCheckpoint_profile x)
  have kept {y : Slot} (soak : x.state = .soak) (after : y.state.abortable = true)
      (same : y.profile.payload = x.meetCheckpoint.profile.payload) : y.claimsPattern q = x.claimsPattern q :=
    claimsPattern_of_held (by rw [soak]; rfl) after (same.trans payload) q
  by_cases soak : x.state = .soak
  · cases joins : x.joinsScan with
    | true =>
      rw [Slot.checkpointed_of_joinsScan joins, Slot.leavesSoak_of_joinsScan joins,
        kept (y := x.meetCheckpoint.soakJudged.scanning) soak rfl rfl]
      simp
    | false =>
      cases leaves : x.leavesSoak with
      | true =>
        rw [Slot.checkpointed_of_leavesSoak leaves, Bool.not_true, Bool.and_false]
        rfl
      | false =>
        have stays : x.checkpointed = x.meetCheckpoint := by
          rw [Slot.checkpointed, joins, leaves]
          exact if_pos soak
        have after : x.meetCheckpoint.state.abortable = true := by
          rw [(Slot.meetCheckpoint_kept x).state, soak]
          rfl
        rw [stays, kept soak after rfl]
        simp
  · obtain ⟨same, -, leaves⟩ := Slot.checkpointed_of_elsewhere soak
    rw [same, leaves]
    simp

theorem reslot_checkpointed_patterns (i : SlotId) (s : State) :
    (reslot i (s.slot i).checkpointed (s.slot i).leavesSoak s).patterns =
      claimsMoved s (reslot i (s.slot i).checkpointed (s.slot i).leavesSoak s) := by
  have others (j : SlotId) (other : j ≠ i) (q : Fin 4) :
      claims (reslot i (s.slot i).checkpointed (s.slot i).leavesSoak s) q j = claims s q j := by
    rw [claims_eq, reslot_other other]
    rfl
  cases leaves : (s.slot i).leavesSoak with
  | true =>
    rw [leaves] at others
    refine claimReleased_eq others (by rw [(Slot.leavesSoak_iff.1 leaves).1]; rfl) ?_
    rw [reslot_own, Slot.checkpointed_of_leavesSoak leaves]
    rfl
  | false =>
    rw [leaves] at others
    rw [reslot_patterns, if_neg Bool.false_ne_true]
    refine (claimsMoved_of_same fun q j => ?_).symm
    by_cases e : j = i
    · rw [e, claims_eq, reslot_own, Slot.checkpointed_claims, leaves, Bool.not_false, Bool.and_true]
      rfl
    · exact others j e q

theorem checkpointedSlots_nil (s : State) : checkpointedSlots [] s = s := rfl

theorem checkpointedSlots_cons (i : SlotId) (xs : List SlotId) (s : State) : checkpointedSlots (i :: xs) s =
    checkpointedSlots xs (reslot i (s.slot i).checkpointed (s.slot i).leavesSoak s) := rfl

/-- R54: no claim comes. -/
theorem checkpointedSlots_claims {xs : List SlotId} {s : State} (once : xs.Nodup) {q : Fin 4} {j : SlotId}
    (held : claims (checkpointedSlots xs s) q j = true) : claims s q j = true := by
  rw [claims_eq, checkpointedSlots_slot xs s once] at held
  split at held
  · rw [Slot.checkpointed_claims, Bool.and_eq_true] at held
    exact held.1
  · exact held

/-- R54: the claims of the slots that enter VERDICT go. -/
theorem checkpointedSlots_patterns (xs : List SlotId) (s : State) (once : xs.Nodup) :
    (checkpointedSlots xs s).patterns = claimsMoved s (checkpointedSlots xs s) := by
  induction xs generalizing s with
  | nil => exact (claimsMoved_of_same fun _ _ => rfl).symm
  | cons i xs ih =>
    obtain ⟨-, once⟩ := List.nodup_cons.1 once
    rw [checkpointedSlots_cons]
    have first := reslot_checkpointed_patterns i s
    have gone (q : Fin 4) (j : SlotId) := checkpointedSlots_claims (xs := [i]) (s := s) (List.nodup_singleton i)
      (q := q) (j := j)
    rw [checkpointedSlots_cons, checkpointedSlots_nil] at gone
    generalize reslot i (s.slot i).checkpointed (s.slot i).leavesSoak s = t at first gone
    have later (q : Fin 4) (j : SlotId) := checkpointedSlots_claims (s := t) once (q := q) (j := j)
    refine claimsMoved_trans first (ih t once) (fun q j => ⟨fun _ left => ?_, fun free came => ?_⟩) (.inl later)
    · rw [← Bool.not_eq_true] at left ⊢
      exact fun held => left (later q j held)
    · exact absurd (free.symm.trans (gone q j came)) Bool.false_ne_true

end Sys2Proof.Machine
end

section
/-! PROOF. The judgement of a soak and its outcomes (R139 to R143), and the checkpoint as a step (R132). -/

namespace Sys2Proof.Machine

open Sys2Proof Sys2Proof.Safety

/-! ### The findings, lane by lane (R139, R142) -/

theorem ceilingFindings_lanes (x : Slot) : ceilingFindings x = allLanes.flatMap fun l =>
    if (x.lane l).soakRole = true ∧ x.profile.errorCeiling ≠ 0 ∧
        x.profile.errorCeiling < (x.lane l).counters.errors then
      [⟨.errorCeiling, some l, true, (x.lane l).counters.errors⟩] else [] := by
  unfold ceilingFindings
  by_cases zero : x.profile.errorCeiling = 0
  · simp [zero]
  · rw [if_neg zero, List.map_eq_flatMap, flatMap_scanned]
    simp [zero]

theorem Slot.overCeiling_iff {x : Slot} : x.overCeiling = true ↔ ∃ l : LaneId, (x.lane l).soakRole = true ∧
    x.profile.errorCeiling ≠ 0 ∧ x.profile.errorCeiling < (x.lane l).counters.errors := by
  simp [Slot.overCeiling, ceilingFindings_lanes, mem_allLanes]

theorem judgeFindings_lanes (x : Slot) : judgeFindings x = allLanes.flatMap fun l =>
    if (x.lane l).soakRole = true then judgeLane x.profile l (x.lane l) else [] := flatMap_scanned _ _

/-- R142: the judgement of one lane, as its table. -/
theorem judgeLane_rows (p : Profile) (l : LaneId) (x : Lane) : judgeLane p l x =
    (if x.rx = .dead ∧ x.deadCause = some .relockTimeout then [⟨.laneDead, some l, true, x.counters.blocks⟩]
      else if x.rx = .dead ∧ x.deadCause = some .sourceChange then
        [⟨.sourceUnstable, some l, true, x.counters.blocks⟩]
      else if x.counters.errors = 65535 ∨ x.counters.blocks * p.berM / 2 ^ (p.berX - 16) < x.counters.errors then
        [⟨.berExceeded, some l, true, x.counters.errors⟩]
      else if x.counters.blocks < min ((3 * 2 ^ (p.berX - 16) + (p.berM - 1)) / p.berM) 4294967295 then
        [⟨.berInsufficient, some l, true, x.counters.blocks⟩]
      else []) ++
    (if p.maxLockDrops < x.counters.drops then [⟨.lockUnstable, some l, true, x.counters.drops⟩] else []) := by
  unfold judgeLane
  congr 1
  unfold errorResult allowance minBlocks max32
  simp only
  repeat' split
  all_goals simp_all

/-! ### What becomes of the slot (R136, R139, R143) -/

section
variable {x : Slot}

theorem Slot.soakEnds_iff : x.soakEnds = true ↔ x.joined = true ∧ x.profile.soakLength ≤ x.checkpoints + 1 := by
  rw [Slot.soakEnds, Slot.meetCheckpoint_eq, Bool.and_eq_true, decide_eq_true_eq]
  refine and_congr_right fun joined => ?_
  simp [Slot.met, joined]

theorem Slot.meetCheckpoint_of_within (within : x.overCeiling = false) : x.meetCheckpoint = x.met := by
  have none : ceilingFindings x = [] := by simpa [Slot.overCeiling] using within
  rw [Slot.meetCheckpoint_eq, none]
  rfl

theorem Slot.soakJudged_met (x : Slot) : x.meetCheckpoint.soakJudged = { x.met with
    findings := addFindings (addFindings x.findings (ceilingFindings x)) (judgeFindings x) } := by
  rw [Slot.meetCheckpoint_eq]
  rfl

theorem Slot.soakJudged_of_within (within : x.overCeiling = false) : x.meetCheckpoint.soakJudged =
    { x.met with findings := addFindings x.findings (judgeFindings x) } := by
  rw [Slot.meetCheckpoint_of_within within]
  rfl

/-- R143: a soak that ends within its ceiling goes on to SCAN. -/
theorem Slot.scans_iff (within : x.overCeiling = false) : x.meetCheckpoint.soakJudged.scans false = true ↔
    x.profile.marginMode = .always ∨ (x.profile.marginMode = .onPass ∧
      ∀ f ∈ addFindings x.findings (judgeFindings x), f.failing = false) := by
  rw [Slot.soakJudged_of_within within]
  have failing : (!hasFailing (addFindings x.findings (judgeFindings x))) = true ↔
      ∀ f ∈ addFindings x.findings (judgeFindings x), f.failing = false := by
    simp [hasFailing]
  have mode : ({ x.met with findings := addFindings x.findings (judgeFindings x) } : Slot).profile.marginMode =
      x.profile.marginMode := rfl
  rw [Slot.scans, mode, ← failing]
  cases x.profile.marginMode <;> simp

/-- R89, R142, R161: a slot that has met a checkpoint, as it enters VERDICT with the list `findings`. -/
def Slot.soakVerdict (x : Slot) (findings : List Finding) : Slot := { x.met with
  state := .verdict, stateTimer := none, verdictPending := true, findings := findings
  finals := x.finalLanes, lanes := parkedLanes x, confirm := parkedConfirm x
  outcome := some (composeOutcome x.abortedMark findings) }

theorem Slot.judged_met (x : Slot) (findings : List Finding) :
    ({ x.met with findings := findings } : Slot).judged = x.soakVerdict findings := rfl

theorem Slot.checkpointed_of_above (soak : x.state = .soak) (above : x.overCeiling = true) :
    x.checkpointed = x.soakVerdict (addFindings (addFindings x.findings (ceilingFindings x)) (judgeFindings x)) := by
  have joins : x.joinsScan = false := by simp [Slot.joinsScan, above]
  rw [Slot.checkpointed_of_leavesSoak (Slot.leavesSoak_iff.2 ⟨soak, .inl above, joins⟩), Slot.soakJudged_met]
  exact Slot.judged_met x _

theorem Slot.checkpointed_of_ends (soak : x.state = .soak) (within : x.overCeiling = false)
    (ends : x.soakEnds = true) (joins : x.joinsScan = false) :
    x.checkpointed = x.soakVerdict (addFindings x.findings (judgeFindings x)) := by
  rw [Slot.checkpointed_of_leavesSoak (Slot.leavesSoak_iff.2 ⟨soak, .inr ends, joins⟩),
    Slot.soakJudged_of_within within]
  exact Slot.judged_met x _

theorem Slot.checkpointed_of_scans (joins : x.joinsScan = true) : x.checkpointed = { x.met with
    state := .scan, stateTimer := none, findings := addFindings x.findings (judgeFindings x), scan := .empty } := by
  obtain ⟨-, within, -⟩ := Slot.joinsScan_iff.1 joins
  rw [Slot.checkpointed_of_joinsScan joins, Slot.soakJudged_of_within within]
  rfl

end

/-! ### The checkpoint as a step (R132) -/

/-- R132: the state whose slots meet the checkpoint. -/
def checkpointBegun (s : State) : State := { s with
  us := s.us + 1
  timebase := { s.timebase with prescalerCount := 0, periodCount := 0, postscalerCount := 0 }
  freeCount := s.freeCount + 1 }

theorem mem_slotOrder (k : Nat) (i : SlotId) : i ∈ slotOrder k :=
  List.mem_dedup.2 (List.mem_append_left _ (mem_allSlots i))

theorem exec_checkpoint_of_due {s : State} (awake : s.porst = false)
    (prescale : s.timebase.prescalerCount + 1 = s.timebase.prescale)
    (period : s.timebase.periodCount + 1 = s.timebase.period)
    (postscale : s.timebase.postscalerCount + 1 = s.timebase.postscale) : exec .checkpoint s =
      .next (settle ((slotOrder s.freeCount).foldl (fun s i => slotCheckpoint i s) (checkpointBegun s))) := by
  have due : checkpointDue s = true := by simp [checkpointDue, intervalDue, wrapDue, prescale, period, postscale]
  have ticked : usTick s = checkpointAll { s with
      us := s.us + 1
      timebase := { s.timebase with prescalerCount := 0, periodCount := 0, postscalerCount := 0 } } := by
    unfold usTick prescalerTick periodTick intervalTick
    rw [if_pos prescale.ge, if_pos period.ge, if_pos postscale.ge]
  have runs : exec .checkpoint s = execCheckpoint s := rfl
  rw [runs, execCheckpoint, tick, if_pos due, due, awake, ticked]
  rfl

/-- R148, R154: the slots `q` join the Scan Queue as it was, in a state whose sweep rests. -/
theorem scansOn_cases {s v : State} (q : List SlotId) (scanner : v.scanner = s.scanner) (rests : Resting s) :
    scansOn q v = if s.scanner.queue = [] then sweepSettle (sweepBegun v q)
      else { v with scanner := ⟨s.scanner.queue ++ q, s.scanner.sweep⟩ } := by
  have rests : Resting v := by rwa [Resting, scanner]
  split
  · rename_i empty
    rw [scansOn, scanQueued, scanner, if_pos empty]
  · rename_i waits
    rw [scansOn_of_waiting rests (by rwa [scanner]), scanner]

theorem Resting.of_sweepOk {s : State} (ok : SweepOk s) : Resting s := by
  obtain ⟨sweep, busy, -⟩ := ok
  cases at_ : s.scanner.sweep with
  | none => exact .inl (sweep.1 at_)
  | some sw => exact .inr ⟨sw, at_, busy sw at_⟩

/-- R132, R148: all slots meet the checkpoint, and those that enter SCAN join the queue in their order. -/
theorem checkpoint_scansOn {s : State} (slotsOk : SlotsOk s) (sweepOk : SweepOk s) :
    (slotOrder s.freeCount).foldl (fun s i => slotCheckpoint i s) (checkpointBegun s) =
      scansOn ((slotOrder s.freeCount).filter fun i => (s.slot i).joinsScan)
        (checkpointedSlots (slotOrder s.freeCount) (checkpointBegun s)) := by
  obtain ⟨once, inScan, -, inDiscover, -⟩ := slotsOk
  have rests : Resting (checkpointBegun s) := Resting.of_sweepOk sweepOk
  have apart (i : SlotId) (soak : (s.slot i).state = .soak) :
      i ∉ s.scanner.queue ∧ .discovery i ∉ s.sideband.queue := by
    refine ⟨fun queued => ?_, fun queued => ?_⟩
    · cases soak.symm.trans ((inScan i).1 queued)
    · cases soak.symm.trans (inDiscover i queued)
  have begun : scansOn [] (checkpointBegun s) = checkpointBegun s := scansOn_nil rests sweepOk.1.2
  have folded := slotCheckpoint_foldl (slotOrder s.freeCount) (q := []) (s := checkpointBegun s)
    (List.nodup_dedup _) (fun _ _ => List.not_mem_nil) (by rw [List.append_nil]; exact once) rests
    fun i _ => apart i
  rw [begun, List.nil_append] at folded
  exact folded

/-- Settles O48: the slots act on the checkpoint independently of each other, so that the sweeps of those that
enter SCAN may be taken last. -/
theorem checkpointsAdvanceSoaks : Obligations.CheckpointsAdvanceSoaks := by
  intro s slotsOk sweepOk _ awake prescale period postscale lanes errors exceeds ceiling judgement judged passes
    ends margin met verdict
  let order := slotOrder s.freeCount
  let v := checkpointedSlots order (checkpointBegun s)
  have once : order.Nodup := List.nodup_dedup _
  have rest := checkpointedSlots_rest order (checkpointBegun s)
  have slot (i : SlotId) : v.slot i = (s.slot i).checkpointed :=
    (checkpointedSlots_slot order (checkpointBegun s) once i).trans (if_pos (mem_slotOrder _ i))
  have passes_iff (i : SlotId) : passes i ↔ (s.slot i).overCeiling = true := Slot.overCeiling_iff.symm
  have ends_iff (i : SlotId) : ends i ↔ (s.slot i).state = .soak ∧ (s.slot i).overCeiling = false ∧
      (s.slot i).soakEnds = true := by
    rw [Slot.soakEnds_iff, ← Bool.not_eq_true, ← passes_iff]
  have ceilings (i : SlotId) : ceiling i = ceilingFindings (s.slot i) := (ceilingFindings_lanes _).symm
  have judgements (i : SlotId) : judgement i = judgeFindings (s.slot i) := by
    rw [judgeFindings_lanes]
    simp only [judgeLane_rows]
    rfl
  have joins_iff (i : SlotId) : (s.slot i).joinsScan = true ↔ ends i ∧ margin i := by
    rw [Slot.joinsScan_iff, ends_iff, and_assoc, and_assoc]
    refine and_congr_right fun _ => and_congr_right fun within => and_congr_right fun _ => ?_
    rw [Slot.scans_iff within, ← judgements]
  refine ⟨v, order.filter fun i => (s.slot i).joinsScan, ?_, once.filter _, fun i => ?_, fun i => ⟨fun elsewhere => ?_,
    fun soak within goesOn => ?_, fun soak above => ?_, fun atEnd misses => ?_, fun atEnd scans => ?_⟩, ?_⟩
  · have scanner : v.scanner = s.scanner := (congrArg State.scanner rest :)
    rw [exec_checkpoint_of_due awake prescale period postscale, checkpoint_scansOn slotsOk sweepOk,
      ← scansOn_cases _ scanner (Resting.of_sweepOk sweepOk)]
  · rw [List.mem_filter, joins_iff]
    exact and_iff_right (mem_slotOrder _ i)
  · obtain ⟨same, -⟩ := Slot.checkpointed_of_elsewhere elsewhere
    rw [slot, same]
  · rw [passes_iff, Bool.not_eq_true] at within
    have goesOn : (s.slot i).soakEnds = false := by
      rw [← Bool.not_eq_true]
      exact fun atEnd => goesOn ((ends_iff i).2 ⟨soak, within, atEnd⟩)
    obtain ⟨same, -⟩ := Slot.checkpointed_of_soaking soak within goesOn
    rw [slot, same, Slot.meetCheckpoint_of_within within]
    rfl
  · rw [slot, Slot.checkpointed_of_above soak ((passes_iff i).1 above), ceilings, judgements]
    rfl
  · obtain ⟨soak, within, last⟩ := (ends_iff i).1 atEnd
    have joins : (s.slot i).joinsScan = false := by
      rw [← Bool.not_eq_true, joins_iff]
      exact fun h => misses h.2
    rw [slot, Slot.checkpointed_of_ends soak within last joins, ← judgements]
    rfl
  · rw [slot, Slot.checkpointed_of_scans ((joins_iff i).2 ⟨atEnd, scans⟩), ← judgements]
    rfl
  · have patterns := checkpointedSlots_patterns order (checkpointBegun s) once
    refine rest.trans ?_
    rw [patterns]
    rfl

end Sys2Proof.Machine
end

section
/-! PROOF. The header of a test frame and its CRC (R60). -/

namespace Sys2Proof.Machine

open Sys2Proof Sys2Proof.Safety

/-! ### The CRC register (R60) -/

/-- R60: one step of the CRC register: a shift, and the polynomial where the incoming bit differs from the
register's top bit. -/
theorem crcStep_eq (reg : BitVec 8) (bit : Bool) :
    crcStep reg bit = (reg <<< 1) ^^^ if (bit ^^ reg.msb) then 0x07#8 else 0#8 := by
  unfold crcStep
  cases bit <;> cases reg.msb <;> simp

theorem crcStep_xor (r q : BitVec 8) (a b : Bool) :
    crcStep (r ^^^ q) (a ^^ b) = crcStep r a ^^^ crcStep q b := by
  have poly (x y : Bool) : (if (x ^^ y) then 0x07#8 else 0#8) =
      (if x then 0x07#8 else 0#8) ^^^ if y then 0x07#8 else 0#8 := by cases x <;> cases y <;> rfl
  have bits : ((a ^^ b) ^^ (r ^^^ q).msb) = ((a ^^ r.msb) ^^ (b ^^ q.msb)) := by
    simp only [BitVec.msb_xor, Bool.xor_assoc, Bool.xor_left_comm]
  rw [crcStep_eq, crcStep_eq, crcStep_eq, bits, poly, BitVec.shiftLeft_xor_distrib]
  ac_rfl

/-- R60: the CRC is linear in the bits and in the register it starts from. -/
theorem crcBits_xor (n : Nat) (v w : BitVec 40) (r q : BitVec 8) :
    crcBits n (v ^^^ w) (r ^^^ q) = crcBits n v r ^^^ crcBits n w q := by
  induction n generalizing r q with
  | zero => rfl
  | succ n ih =>
    have step : crcStep (r ^^^ q) ((v ^^^ w).getLsbD n) = crcStep r (v.getLsbD n) ^^^ crcStep q (w.getLsbD n) := by
      rw [BitVec.getLsbD_xor, crcStep_xor]
    exact (congrArg (crcBits n (v ^^^ w)) step).trans (ih _ _)

theorem crc8_xor (v w : BitVec 40) : crc8 (v ^^^ w) = crc8 v ^^^ crc8 w := crcBits_xor 40 v w 0 0

theorem crc8_zero : crc8 0#40 = 0#8 := by
  have same := crc8_xor 0#40 0#40
  rwa [BitVec.xor_self, BitVec.xor_self] at same

/-- R60: the CRC register does not fall to 0 while zeros come in. -/
theorem crcStep_ne_zero {reg : BitVec 8} (h : reg ≠ 0) : crcStep reg false ≠ 0 := by
  revert reg
  decide

theorem crcBits_ne_zero {n : Nat} {v : BitVec 40} {reg : BitVec 8} (zeros : ∀ k < n, v.getLsbD k = false)
    (h : reg ≠ 0) : crcBits n v reg ≠ 0 := by
  induction n generalizing reg with
  | zero => exact h
  | succ n ih =>
    rw [crcBits, zeros n n.lt_succ_self]
    exact ih (fun k hk => zeros k (Nat.lt_succ_of_lt hk)) (crcStep_ne_zero h)

/-- R60: no bit of the fields alone has a CRC of 0. -/
theorem crcBits_single {n k : Nat} (hk : k < n) (hn : n ≤ 40) : crcBits n (1#40 <<< k) 0 ≠ 0 := by
  induction n with
  | zero => exact absurd hk (Nat.not_lt_zero k)
  | succ n ih =>
    rw [crcBits]
    by_cases last : k = n
    · subst last
      have one : (1#40 <<< k).getLsbD k = true := by simp; omega
      rw [one]
      exact crcBits_ne_zero (fun b hb => by simp [hb]) (by decide)
    · have zero : (1#40 <<< k).getLsbD n = false := by simp; omega
      rw [zero, show crcStep 0 false = 0 from rfl]
      exact ih (by omega) (by omega)

/-! ### The error of a header's CRC (R60) -/

/-- R60: what the CRC field of 48 header bits differs by from the CRC of their fields. -/
def crcError (bits : BitVec 48) : BitVec 8 := crc8 (bits.extractLsb' 8 40) ^^^ bits.extractLsb' 0 8

theorem crcError_xor (v w : BitVec 48) : crcError (v ^^^ w) = crcError v ^^^ crcError w := by
  unfold crcError
  rw [BitVec.extractLsb'_xor, BitVec.extractLsb'_xor, crc8_xor]
  ac_rfl

/-- R60: one bit alone is an error of the CRC, in the fields and in the CRC field itself. -/
theorem crcError_single {k : Nat} (hk : k < 48) : crcError (1#48 <<< k) ≠ 0#8 := by
  unfold crcError
  by_cases low : k < 8
  · have fields : (1#48 <<< k).extractLsb' 8 40 = 0#40 := by
      ext b hb
      simp
      omega
    have crc : ((1#48 <<< k).extractLsb' 0 8).getLsbD k = true := by
      simp [low]
      omega
    rw [fields, crc8_zero, BitVec.zero_xor]
    intro none
    rw [none] at crc
    exact absurd crc (by simp)
  · have fields : (1#48 <<< k).extractLsb' 8 40 = 1#40 <<< (k - 8) := by
      ext b hb
      simp only [BitVec.getElem_extractLsb', BitVec.getElem_shiftLeft, BitVec.getLsbD_shiftLeft, BitVec.getLsbD_one,
        BitVec.getElem_one]
      grind
    have crc : (1#48 <<< k).extractLsb' 0 8 = 0#8 := by
      ext b hb
      simp
      omega
    rw [fields, crc, BitVec.xor_zero]
    exact crcBits_single (by omega) le_rfl

/-! ### Good headers (R60) -/

theorem FrameKind.ofCode_code (kind : FrameKind) : FrameKind.ofCode kind.code = kind := by
  cases kind <;> rfl

theorem FrameKind.code_ofCode (c : BitVec 2) : (FrameKind.ofCode c).code = c := by
  revert c
  decide

/-- R60: the 40 bits of a header before its CRC. -/
def headerFields (src : Source) (kind : FrameKind) (count : BitVec 8) : BitVec 40 :=
  syncMarker ++ (src.slot ++ (src.lane ++ (kind.code ++ count)))

theorem headerBits_eq (src : Source) (kind : FrameKind) (count : BitVec 8) :
    headerBits src kind count = headerFields src kind count ++ crc8 (headerFields src kind count) := rfl

/-- R60: each field of a header is read where it is written. -/
theorem headerFields_places (marker : BitVec 24) (slot : BitVec 4) (lane kind : BitVec 2) (count : BitVec 8) :
    let fields : BitVec 40 := marker ++ (slot ++ (lane ++ (kind ++ count)))
    fields.extractLsb' 16 24 = marker ∧ fields.extractLsb' 12 4 = slot ∧ fields.extractLsb' 10 2 = lane ∧
      fields.extractLsb' 8 2 = kind ∧ fields.extractLsb' 0 8 = count := by
  have afterMarker (start len : Nat) := BitVec.extractLsb'_append_eq_of_add_le (start := start) (len := len)
    (xhi := marker) (xlo := slot ++ (lane ++ (kind ++ count)))
  have afterSlot (start len : Nat) := BitVec.extractLsb'_append_eq_of_add_le (start := start) (len := len)
    (xhi := slot) (xlo := lane ++ (kind ++ count))
  have afterLane (start len : Nat) := BitVec.extractLsb'_append_eq_of_add_le (start := start) (len := len)
    (xhi := lane) (xlo := kind ++ count)
  refine ⟨BitVec.extractLsb'_append_eq_left, (afterMarker 12 4 (by decide)).trans ?_,
    (afterMarker 10 2 (by decide)).trans ((afterSlot 10 2 (by decide)).trans ?_),
    (afterMarker 8 2 (by decide)).trans ((afterSlot 8 2 (by decide)).trans ((afterLane 8 2 (by decide)).trans ?_)),
    (afterMarker 0 8 (by decide)).trans ((afterSlot 0 8 (by decide)).trans ((afterLane 0 8 (by decide)).trans ?_))⟩
  · exact BitVec.extractLsb'_append_eq_left
  · exact BitVec.extractLsb'_append_eq_left
  · exact BitVec.extractLsb'_append_eq_left
  · exact BitVec.extractLsb'_append_eq_right

/-- R60: the fields before the CRC of 48 header bits, one after another. -/
theorem header_parts (bits : BitVec 48) :
    (bits.extractLsb' 24 24 ++ (bits.extractLsb' 20 4 ++ (bits.extractLsb' 18 2 ++
      (bits.extractLsb' 16 2 ++ bits.extractLsb' 8 8))) : BitVec 40) = bits.extractLsb' 8 40 := by
  rw [BitVec.extractLsb'_append_extractLsb'_eq_extractLsb' (start₁ := 8) (start₂ := 16) rfl,
    BitVec.extractLsb'_append_extractLsb'_eq_extractLsb' (start₁ := 8) (start₂ := 18) rfl,
    BitVec.extractLsb'_append_extractLsb'_eq_extractLsb' (start₁ := 8) (start₂ := 20) rfl,
    BitVec.extractLsb'_append_extractLsb'_eq_extractLsb' (start₁ := 8) (start₂ := 24) rfl]

theorem header_crc (bits : BitVec 48) : bits.extractLsb' 8 40 ++ bits.extractLsb' 0 8 = bits :=
  (BitVec.extractLsb'_append_extractLsb'_eq_extractLsb' (start₁ := 0) (start₂ := 8) (len₁ := 8) (len₂ := 40) rfl).trans
    BitVec.extractLsb'_eq_self

/-- R60: a header's CRC apart, `goodHeader` looks at the fields alone. -/
theorem goodHeader_append (fields : BitVec 40) (crc : BitVec 8) : goodHeader (fields ++ crc) =
    if fields.extractLsb' 16 24 = syncMarker ∧ crc = crc8 fields then
      some ⟨⟨fields.extractLsb' 12 4, fields.extractLsb' 10 2⟩, .ofCode (fields.extractLsb' 8 2),
        fields.extractLsb' 0 8⟩
    else none := by
  have field (start len : Nat) : (fields ++ crc).extractLsb' (8 + start) len = fields.extractLsb' start len := by
    rw [BitVec.extractLsb'_append_eq_of_le (Nat.le_add_right 8 start), Nat.add_sub_cancel_left]
  rw [← field 16 24, ← field 12 4, ← field 10 2, ← field 8 2, ← field 0 8]
  unfold goodHeader
  rw [show (fields ++ crc).extractLsb' 0 8 = crc from BitVec.extractLsb'_append_eq_right,
    show (fields ++ crc).extractLsb' 8 40 = fields from BitVec.extractLsb'_append_eq_left]

theorem goodHeader_headerBits (src : Source) (kind : FrameKind) (count : BitVec 8) :
    goodHeader (headerBits src kind count) = some ⟨src, kind, count⟩ := by
  obtain ⟨marker, slot, lane, code, counted⟩ :=
    headerFields_places syncMarker src.slot src.lane kind.code count
  rw [headerBits_eq, goodHeader_append, headerFields, slot, lane, code, counted, if_pos ⟨marker, rfl⟩, 
    FrameKind.ofCode_code]

/-- R60: the good headers are the headers of the sources, kinds and counts. -/
theorem goodHeader_eq_some_iff {bits : BitVec 48} {h : Header} :
    goodHeader bits = some h ↔ bits = headerBits h.source h.kind h.count := by
  refine ⟨fun good => ?_, fun sent => by rw [sent, goodHeader_headerBits]⟩
  unfold goodHeader at good
  split at good
  · rename_i fits
    obtain ⟨marker, crc⟩ := fits
    cases good
    have fields : headerFields ⟨bits.extractLsb' 20 4, bits.extractLsb' 18 2⟩ (.ofCode (bits.extractLsb' 16 2))
        (bits.extractLsb' 8 8) = bits.extractLsb' 8 40 := by
      rw [headerFields, FrameKind.code_ofCode, ← marker, ← header_parts]
    rw [headerBits_eq, fields, ← crc, header_crc]
  · cases good

/-- R60: a good header has no error of its CRC. -/
theorem crcError_headerBits (src : Source) (kind : FrameKind) (count : BitVec 8) :
    crcError (headerBits src kind count) = 0#8 := by
  have fields : (headerBits src kind count).extractLsb' 8 40 = headerFields src kind count :=
    BitVec.extractLsb'_append_eq_left
  have crc : (headerBits src kind count).extractLsb' 0 8 = crc8 (headerFields src kind count) :=
    BitVec.extractLsb'_append_eq_right
  rw [crcError, fields, crc, BitVec.xor_self]

/-- Settles O32: one bit changed is an error of the CRC, which no good header has. -/
theorem headersRoundTrip : Obligations.HeadersRoundTrip := by
  refine ⟨fun src kind count => ⟨goodHeader_headerBits src kind count, fun k hk => ?_⟩,
    fun bits h good => goodHeader_eq_some_iff.1 good⟩
  cases good : goodHeader (headerBits src kind count ^^^ (1#48 <<< k)) with
  | none => rfl
  | some h =>
    have sent := congrArg crcError (goodHeader_eq_some_iff.1 good)
    rw [crcError_xor, crcError_headerBits, crcError_headerBits, BitVec.zero_xor] at sent
    exact absurd sent (crcError_single hk)

/-! ### The next frame (R61) -/

/-- Settles O30: a slot's state with frames gives one kind to them all. -/
theorem frameStartSendsTheNextFrame : Obligations.FrameStartSendsTheNextFrame := by
  intro i l s sl x
  have runs : exec (.frameStart i l) s = execFrameStart i l s := rfl
  constructor
  · intro parked
    rw [runs, execFrameStart]
    split
    · rfl
    · exact if_pos parked
  · intro kind awake sends gen frame next
    have kindOf : (s.slot i).state.frameKind = some kind := by
      have sends : ((s.slot i).state, kind) ∈ _ := sends
      revert sends
      cases (s.slot i).state <;> cases kind <;> decide
    simp only [runs, execFrameStart, kindOf]
    exact if_neg awake

end Sys2Proof.Machine
end

section
/-! PROOF. Payloads as streams of bits (R62, R63): the shift register that generates or checks a stream, and the
payload of a frame as 4096 bits of its stream. -/

namespace Sys2Proof.Machine

open Sys2Proof Sys2Proof.Safety

/-! ### Bits one after another -/

/-- The bits `m`..`m + n - 1` of a stream, appended below `acc`. -/
def streamBits (out : Nat → Bool) : Nat → Nat → BitVec 4096 → BitVec 4096
  | _, 0, acc => acc
  | m, n + 1, acc => streamBits out (m + 1) n ((acc <<< 1) ||| (BitVec.ofBool (out m)).setWidth 4096)

theorem append_getLsbD (acc : BitVec 4096) (b : Bool) {i : Nat} (hi : i < 4096) :
    ((acc <<< 1) ||| (BitVec.ofBool b).setWidth 4096).getLsbD i = if i = 0 then b else acc.getLsbD (i - 1) := by
  cases i with
  | zero => simp
  | succ i =>
    rw [BitVec.getLsbD_or, BitVec.getLsbD_shiftLeft, BitVec.getLsbD_setWidth]
    simp [hi]

theorem streamBits_getLsbD (out : Nat → Bool) (m n : Nat) (acc : BitVec 4096) {i : Nat} (hi : i < 4096) :
    (streamBits out m n acc).getLsbD i = if i < n then out (m + n - 1 - i) else acc.getLsbD (i - n) := by
  induction n generalizing m acc with
  | zero => rfl
  | succ n ih =>
    rw [streamBits, ih]
    by_cases later : i < n
    · rw [if_pos later, if_pos (by omega)]
      exact congrArg out (by omega)
    · rw [if_neg later, append_getLsbD _ _ (by omega)]
      by_cases own : i = n
      · rw [if_pos (by omega), if_pos (by omega)]
        exact congrArg out (by omega)
      · rw [if_neg (by omega), if_neg (by omega), Nat.sub_sub, Nat.add_comm]

/-- The first 4096 bits of a stream, the first the most significant. -/
def streamPayload (out : Nat → Bool) : BitVec 4096 := streamBits out 0 4096 0

theorem streamPayload_getMsbD (out : Nat → Bool) {n : Nat} (hn : n < 4096) :
    (streamPayload out).getMsbD n = out n := by
  rw [BitVec.getMsbD_eq_getLsbD, streamPayload, streamBits_getLsbD _ _ _ _ (by omega), if_pos (by omega)]
  simp only [hn, decide_true, Bool.true_and]
  congr 1
  omega

/-! ### The shift register (R62) -/

/-- R62: the register once the first `n` bits of a stream are shifted in. -/
def registerAt (k : Nat) (reg : BitVec 31) (out : Nat → Bool) : Nat → BitVec 31
  | 0 => reg
  | n + 1 => prbsShift k (registerAt k reg out n) (out n)

/-- R62: the bit `d` before bit `n` of a stream, the register's bits standing before the first. -/
def bitBefore (reg : BitVec 31) (out : Nat → Bool) (n d : Nat) : Bool :=
  if d ≤ n then out (n - d) else reg.getLsbD (d - n - 1)

theorem prbsShift_getLsbD (k : Nat) (reg : BitVec 31) (bit : Bool) {b : Nat} (hb : b < 31) :
    (prbsShift k reg bit).getLsbD b = (decide (b < k) && if b = 0 then bit else reg.getLsbD (b - 1)) := by
  have mask : (BitVec.ofNat 31 (2 ^ k - 1)).getLsbD b = decide (b < k) := by
    rw [BitVec.getLsbD_ofNat, Nat.testBit_two_pow_sub_one, decide_eq_true hb, Bool.true_and]
  rw [prbsShift, BitVec.getLsbD_and, mask, Bool.and_comm, BitVec.getLsbD_or, BitVec.getLsbD_shiftLeft,
    BitVec.getLsbD_setWidth]
  cases b with
  | zero => simp
  | succ b => simp [hb]

/-- R62: bit b + 1 of the register is the bit b + 1 before the next, and the bits above the k-th are 0 once a bit
is shifted in. -/
theorem registerAt_getLsbD (k : Nat) (reg : BitVec 31) (out : Nat → Bool) (n : Nat) {b : Nat} (hb : b < 31) :
    (registerAt k reg out n).getLsbD b = ((decide (b < k) || decide (n = 0)) && bitBefore reg out n (b + 1)) := by
  induction n generalizing b with
  | zero => simp [registerAt, bitBefore]
  | succ n ih =>
    rw [registerAt, prbsShift_getLsbD k _ _ hb]
    cases b with
    | zero => simp [bitBefore]
    | succ b =>
      rw [if_neg (Nat.succ_ne_zero b), Nat.add_sub_cancel, ih (by omega)]
      by_cases short : b + 1 < k
      · have shorter : b < k := by omega
        simp [short, shorter, bitBefore]
      · simp [short]

theorem prbsOut_registerAt {k j : Nat} (reg : BitVec 31) (out : Nat → Bool) (n : Nat) (positive : 0 < j)
    (lower : j < k)
    (fits : k ≤ 31) : prbsOut k j (registerAt k reg out n) = (bitBefore reg out n k != bitBefore reg out n j) := by
  rw [prbsOut, registerAt_getLsbD k reg out n (by omega), registerAt_getLsbD k reg out n (by omega),
    Nat.sub_add_cancel (by omega), Nat.sub_add_cancel (by omega)]
  have first : k - 1 < k := by omega
  have second : j - 1 < k := by omega
  simp [first, second]

/-! ### The checked stream and the generated one (R62, R69) -/

/-- R69: the stream that a checker expects of the payload `received`, its first `seed` bits taken as correct. -/
def Expects (k j : Nat) (received : BitVec 4096) (seed : Nat) (reg : BitVec 31) (want : Nat → Bool) : Prop :=
  ∀ n < 4096, want n = if n < seed then received.getMsbD n else prbsOut k j (registerAt k reg want n)

theorem checkPrbs_succ (k j n seed : Nat) (received : BitVec 4096) (reg : BitVec 31) (acc : BitVec 4096) :
    checkPrbs k j received (n + 1) seed reg acc =
      let b := if 0 < seed then received.getLsbD n else prbsOut k j reg
      checkPrbs k j received n (seed - 1) (prbsShift k reg b) ((acc <<< 1) ||| (BitVec.ofBool b).setWidth 4096) := by
  cases seed <;> rfl

theorem checkPrbs_from {k j : Nat} {received : BitVec 4096} {seed : Nat} {reg : BitVec 31} {want : Nat → Bool}
    (expects : Expects k j received seed reg want) (n : Nat) (acc : BitVec 4096) {m : Nat} (whole : m + n = 4096) :
    checkPrbs k j received n (seed - m) (registerAt k reg want m) acc =
      (streamBits want m n acc, registerAt k reg want 4096) := by
  induction n generalizing m acc with
  | zero =>
    obtain rfl : m = 4096 := whole
    rfl
  | succ n ih =>
    have bit : (if 0 < seed - m then received.getLsbD n else prbsOut k j (registerAt k reg want m)) = want m := by
      rw [expects m (by omega), BitVec.getMsbD_eq_getLsbD, show 4096 - 1 - m = n by omega,
        decide_eq_true (by omega), Bool.true_and]
      exact if_congr Nat.sub_pos_iff_lt rfl rfl
    rw [checkPrbs_succ, bit, Nat.sub_sub]
    exact ih _ (by omega)

theorem checkPrbs_eq {k j : Nat} {received : BitVec 4096} {seed : Nat} {reg : BitVec 31} {want : Nat → Bool}
    (expects : Expects k j received seed reg want) :
    checkPrbs k j received 4096 seed reg 0 = (streamPayload want, registerAt k reg want 4096) :=
  checkPrbs_from expects 4096 0 (m := 0) rfl

/-- R62, R69: a generator is a checker that takes no bit as correct. -/
theorem prbsBits_eq_checkPrbs (k j n : Nat) (reg : BitVec 31) (acc received : BitVec 4096) :
    prbsBits k j n reg acc = checkPrbs k j received n 0 reg acc := by
  induction n generalizing reg acc with
  | zero => rfl
  | succ n ih => exact ih _ _

/-- R62: the register of a generator before bit `n` of its stream. -/
def generatorAt (k j : Nat) (gen : BitVec 31) : Nat → BitVec 31
  | 0 => gen
  | n + 1 => prbsShift k (generatorAt k j gen n) (prbsOut k j (generatorAt k j gen n))

/-- R62: the stream of a generator. -/
def prbsStream (k j : Nat) (gen : BitVec 31) (n : Nat) : Bool := prbsOut k j (generatorAt k j gen n)

theorem registerAt_prbsStream (k j : Nat) (gen : BitVec 31) (n : Nat) :
    registerAt k gen (prbsStream k j gen) n = generatorAt k j gen n := by
  induction n with
  | zero => rfl
  | succ n ih => rw [registerAt, ih]; rfl

theorem prbsStream_eq (k j : Nat) (gen : BitVec 31) (n : Nat) :
    prbsStream k j gen n = prbsOut k j (registerAt k gen (prbsStream k j gen) n) := by
  rw [registerAt_prbsStream]
  rfl

theorem prbsBits_eq (k j : Nat) (gen : BitVec 31) :
    (prbsBits k j 4096 gen 0).1 = streamPayload (prbsStream k j gen) ∧
      (prbsBits k j 4096 gen 0).2 = registerAt k gen (prbsStream k j gen) 4096 := by
  have expects : Expects k j 0 0 gen (prbsStream k j gen) := fun n _ => prbsStream_eq k j gen n
  rw [prbsBits_eq_checkPrbs k j 4096 gen 0 0, checkPrbs_eq expects]
  simp only [and_self]

/-- R62: the stream of a generator that has gone on is what remains of its stream. -/
theorem prbsStream_add (k j : Nat) (gen : BitVec 31) (m n : Nat) :
    prbsStream k j (registerAt k gen (prbsStream k j gen) m) n = prbsStream k j gen (m + n) := by
  have goesOn (n : Nat) : generatorAt k j (generatorAt k j gen m) n = generatorAt k j gen (m + n) := by
    induction n with
    | zero => rfl
    | succ n ih => rw [generatorAt, ih]; rfl
  rw [registerAt_prbsStream, prbsStream, goesOn]
  rfl

/-! ### The payloads (R62, R63) -/

theorem prbs?_eq_prbsTaps (pl : Payload) : pl.prbs? = prbsTaps pl := by
  cases pl <;> rfl

theorem prbsTaps_bounds {pl : Payload} {k j : Nat} (taps : prbsTaps pl = some (k, j)) : 0 < j ∧ j < k ∧ k ≤ 31 := by
  cases pl <;> cases taps <;> decide

theorem txPayload_prbs {pl : Payload} {k j : Nat} (taps : prbsTaps pl = some (k, j)) (pats : Vector Pattern 4)
    (gen : BitVec 31) (c : BitVec 8) : txPayload pl pats gen c = streamPayload (prbsStream k j gen) := by
  rw [← (prbsBits_eq k j gen).1]
  cases pl <;> cases taps <;> simp only [txPayload, Payload.prbs?]

theorem txAdvance_prbs {pl : Payload} {k j : Nat} (taps : prbsTaps pl = some (k, j)) (gen : BitVec 31) :
    txAdvance pl gen = registerAt k gen (prbsStream k j gen) 4096 := by
  rw [txAdvance, prbs?_eq_prbsTaps, taps]
  exact (prbsBits_eq k j gen).2

/-- R63: the stream of a pattern from the frame of count `c` on. -/
def patternStream (p : Pattern) (c : BitVec 8) (n : Nat) : Bool :=
  patternBit p.mem ((c.toNat * 4096 + n) % (p.length * 512))

theorem patternBits_from (m : Memory) (span start : Nat) (q n : Nat) (acc : BitVec 4096) :
    patternBits m span n ((start + q) % span) acc =
      streamBits (fun n => patternBit m ((start + n) % span)) q n acc := by
  induction n generalizing q acc with
  | zero => rfl
  | succ n ih =>
    rw [patternBits, Nat.mod_add_mod, Nat.add_assoc, ih]
    rfl

theorem patternPayload_eq (p : Pattern) (c : BitVec 8) : patternPayload p c = streamPayload (patternStream p c) := by

  have whole := patternBits_from p.mem (p.length * 512) (c.toNat * 4096) 0 4096 0
  rw [Nat.add_zero] at whole
  exact whole

/-- R62: bit `n` of two successive frames of a generator, and the bits before it, by their places in the sequence that
begins with the register's bits. -/
theorem bitBefore_sequence {k d n : Nat} (gen : BitVec 31) (out : Nat → Bool) (short : d ≤ k) :
    bitBefore gen out n d = if n + k - d < k then gen.getLsbD (k - 1 - (n + k - d)) else out (n + k - d - k) := by
  unfold bitBefore
  by_cases within : d ≤ n
  · rw [if_pos within, if_neg (by omega)]
    congr 1
    omega
  · rw [if_neg within, if_pos (by omega)]
    congr 1
    omega

/-- Settles O31: two frames of a generator are 8192 bits of one stream, and a pattern's payload is one of its own. -/
theorem payloadsFollowTheirGenerators : Obligations.PayloadsFollowTheirGenerators := by
  constructor
  · intro pl k j pats gen c d payload first second sequence t from_ until_
    have taps : prbsTaps pl = some (k, j) := by
      simp only [List.mem_cons, Prod.mk.injEq, List.not_mem_nil, or_false] at payload
      obtain ⟨rfl, rfl, rfl⟩ | ⟨rfl, rfl, rfl⟩ | ⟨rfl, rfl, rfl⟩ | ⟨rfl, rfl, rfl⟩ := payload <;> rfl
    obtain ⟨positive, lower, fits⟩ := prbsTaps_bounds taps
    have first_eq : first = streamPayload (prbsStream k j gen) := txPayload_prbs taps pats gen c
    have second_eq : second = streamPayload (prbsStream k j (txAdvance pl gen)) := txPayload_prbs taps pats _ d
    have sequence_eq (t : Nat) (end_ : t < k + 8192) : sequence t =
        if t < k then gen.getLsbD (k - 1 - t) else prbsStream k j gen (t - k) := by
      simp only [sequence]
      split
      · rfl
      · split
        · rw [first_eq, streamPayload_getMsbD _ (by omega)]
        · rw [second_eq, streamPayload_getMsbD _ (by omega), txAdvance_prbs taps, prbsStream_add]
          exact congrArg (prbsStream k j gen) (by omega)
    obtain ⟨n, rfl⟩ : ∃ n, t = n + k := ⟨t - k, by omega⟩
    rw [sequence_eq _ until_, sequence_eq _ (by omega), sequence_eq _ (by omega),
      ← bitBefore_sequence gen _ le_rfl, ← bitBefore_sequence gen _ lower.le, if_neg (by omega), Nat.add_sub_cancel,
      prbsStream_eq, prbsOut_registerAt _ _ _ positive lower fits]
  · intro q pats gen c n hn o
    have sent : txPayload (.pattern q) pats gen c = streamPayload (patternStream (pats[q.val]) c) :=
      patternPayload_eq _ c
    rw [sent, streamPayload_getMsbD _ hn]
    rfl

end Sys2Proof.Machine
end

section
/-! PROOF. The checker of a lane (R69 to R77): what it expects of a frame, its errors and its first mismatch, and a
frame's payload received. -/

namespace Sys2Proof.Machine

open Sys2Proof Sys2Proof.Safety

/-! ### The bits that differ (R73, R77) -/

theorem popCount_eq (v : BitVec 4096) {n : Nat} (hn : n ≤ 4096) :
    popCount n v = ((List.range' (4096 - n) n).filter v.getMsbD).length := by
  induction n with
  | zero => rfl
  | succ n ih =>
    have next : 4096 - (n + 1) + 1 = 4096 - n := by omega
    have bit : v.getMsbD (4096 - (n + 1)) = v.getLsbD n := by
      rw [BitVec.getMsbD_eq_getLsbD, decide_eq_true (by omega), Bool.true_and]
      exact congrArg v.getLsbD (by omega)
    rw [popCount, List.range'_succ, next, List.filter_cons, bit, ih (by omega)]
    cases v.getLsbD n
    · exact Nat.zero_add _
    · exact Nat.add_comm 1 _

theorem firstSet_eq (v : BitVec 4096) {n : Nat} (hn : n ≤ 4096) :
    firstSet n v = (List.range' (4096 - n) n).find? v.getMsbD := by
  induction n with
  | zero => rfl
  | succ n ih =>
    have next : 4096 - (n + 1) + 1 = 4096 - n := by omega
    have bit : v.getMsbD (4096 - (n + 1)) = v.getLsbD n := by
      rw [BitVec.getMsbD_eq_getLsbD, decide_eq_true (by omega), Bool.true_and]
      exact congrArg v.getLsbD (by omega)
    rw [firstSet, List.range'_succ, next, List.find?_cons, bit, ih (by omega)]
    cases v.getLsbD n
    · rfl
    · exact congrArg some (by omega)

/-- R73: the number of bits in which a payload differs from the one expected. -/
def frameErrors (got want : Nat → Bool) : Nat := ((List.range 4096).filter fun n => got n != want n).length

section
variable {data : BitVec 4096} {got want : Nat → Bool} (received : ∀ n < 4096, data.getMsbD n = got n)
include received

theorem differs_getMsbD {n : Nat} (hn : n < 4096) : (data ^^^ streamPayload want).getMsbD n = (got n != want n) := by
  rw [BitVec.getMsbD_xor, received n hn, streamPayload_getMsbD want hn]

theorem popCount_differs : popCount 4096 (data ^^^ streamPayload want) = frameErrors got want := by
  rw [popCount_eq _ le_rfl, Nat.sub_self, ← List.range_eq_range', frameErrors]
  refine congrArg List.length (List.filter_congr fun n hn => ?_)
  exact differs_getMsbD received (List.mem_range.1 hn)

theorem firstSet_differs {n : Nat} (hn : n < 4096) (differs : got n ≠ want n) (before : ∀ k < n, got k = want k) :
    firstSet 4096 (data ^^^ streamPayload want) = some n := by
  rw [firstSet_eq _ le_rfl, Nat.sub_self, ← List.range_eq_range', List.find?_range_eq_some]
  refine ⟨?_, List.mem_range.2 hn, fun k hk => ?_⟩
  · rw [differs_getMsbD received hn]
    exact bne_iff_ne.2 differs
  · rw [differs_getMsbD received (by omega), before k hk]
    exact (bne_self_eq_false (want k)).symm ▸ rfl

end

theorem frameErrors_ne_zero {got want : Nat → Bool} {n : Nat} (hn : n < 4096) (differs : got n ≠ want n) :
    frameErrors got want ≠ 0 := by
  rw [frameErrors, Ne, List.length_eq_zero_iff, List.filter_eq_nil_iff]
  exact fun none => none n (List.mem_range.2 hn) (bne_iff_ne.2 differs)

/-- R77: a word of a payload, its bits in the order they are sent. -/
theorem payloadWord_getMsbD (v : BitVec 4096) {w b : Nat} (hw : w < 128) (hb : b < 32) :
    (payloadWord v w).getMsbD b = v.getMsbD (w * 32 + b) := by
  rw [payloadWord, BitVec.getMsbD_eq_getLsbD, BitVec.getLsbD_extractLsb', BitVec.getMsbD_eq_getLsbD,
    decide_eq_true hb, decide_eq_true (by omega), decide_eq_true (by omega), Bool.true_and, Bool.true_and,
    Bool.true_and]
  exact congrArg v.getLsbD (by omega)

/-! ### What the checker expects (R69, R70) -/

theorem applyPolarity_getMsbD {w n : Nat} (p : Polarity) (bits : BitVec w) (hn : n < w) :
    (applyPolarity p bits).getMsbD n = (bits.getMsbD n != decide (p = .inverted)) := by
  cases p
  · simp [applyPolarity]
  · simp [applyPolarity, BitVec.getMsbD_not, hn]

theorem eq_streamPayload {v : BitVec 4096} {out : Nat → Bool} (bits : ∀ n < 4096, v.getMsbD n = out n) :
    v = streamPayload out :=
  BitVec.eq_of_getMsbD_eq fun n hn => (bits n hn).trans (streamPayload_getMsbD out hn).symm

theorem Lane.expect_pattern (q : Fin 4) (pats : Vector Pattern 4) (data : BitVec 4096) (x : Lane) :
    x.expect (.pattern q) pats data = (patternPayload (pats[q.val]) x.frameCount, x.checkReg) := rfl

theorem Lane.expect_prbs {pl : Payload} {k j : Nat} (taps : prbsTaps pl = some (k, j)) (pats : Vector Pattern 4)
    (data : BitVec 4096) (x : Lane) : x.expect pl pats data =
      checkPrbs k j data 4096 (if x.checker = .seeding then k else 0) x.checkReg 0 := by
  cases pl <;> cases taps <;> simp only [Lane.expect, Payload.prbs?]

theorem pattern_of_untapped {pl : Payload} (untapped : prbsTaps pl = none) : ∃ q, pl = .pattern q := by
  cases pl with
  | pattern q => exact ⟨q, rfl⟩
  | prbs7 | prbs15 | prbs23 | prbs31 => cases untapped

/-- R69: the register once a payload is shifted in holds its last k bits. -/
theorem registerAt_end (k : Nat) (reg : BitVec 31) (out : Nat → Bool) {b : Nat} (hb : b < 31) :
    (registerAt k reg out 4096).getLsbD b = (decide (b < k) && out (4095 - b)) := by
  have some_ : decide (4096 = 0) = false := rfl
  rw [registerAt_getLsbD k reg out 4096 hb, some_, Bool.or_false, bitBefore, if_pos (by omega)]
  exact congrArg (fun n => decide (b < k) && out n) (by omega)

/-- R69, R70: a checker expects the stream that the statements name, and its register holds its end. -/
theorem Lane.expect_eq {pl : Payload} {pats : Vector Pattern 4} {x : Lane} {data : BitVec 4096}
    {got want : Nat → Bool}
    (received : ∀ n < 4096, data.getMsbD n = got n) (expected : expectedOf pl pats x x.frameCount got want) :
    ∃ register, x.expect pl pats data = (streamPayload want, register) ∧ registerAfter pl x.checkReg want register := by
  obtain ⟨ofPattern, ofPrbs⟩ := expected
  cases taps : prbsTaps pl with
  | none =>
    obtain ⟨q, rfl⟩ := pattern_of_untapped taps
    have sent : patternPayload (pats[q.val]) x.frameCount = streamPayload want := by
      rw [patternPayload_eq]
      refine eq_streamPayload fun n hn => ?_
      rw [streamPayload_getMsbD _ hn, ofPattern q rfl n hn]
      rfl
    exact ⟨x.checkReg, by rw [Lane.expect_pattern, sent], fun _ => rfl,
      fun k j some_ => by cases taps.symm.trans some_⟩
  | some kj =>
    obtain ⟨k, j⟩ := kj
    obtain ⟨positive, lower, fits⟩ := prbsTaps_bounds taps
    have expects : Expects k j data (if x.checker = .seeding then k else 0) x.checkReg want := by
      intro n hn
      rw [ofPrbs k j taps n hn, received n hn, prbsOut_registerAt _ _ _ positive lower fits]
      refine if_congr ?_ rfl rfl
      split <;> simp_all
    refine ⟨registerAt k x.checkReg want 4096, by rw [Lane.expect_prbs taps, checkPrbs_eq expects],
      fun untapped => (by cases taps.symm.trans untapped), fun k' j' some_ b hb => ?_⟩
    cases taps.symm.trans some_
    exact registerAt_end k x.checkReg want hb

/-! ### A frame received (R69 to R77) -/

/-- R73 to R77: the counters after a frame that is counted. -/
def LaneCounters.counted (c : LaneCounters) (errors : Nat) (capture : Option Capture) : LaneCounters := { c with
  blocks := if c.sub + 1 < 16 then c.blocks else min (c.blocks + 1) 4294967295
  sub := if c.sub + 1 < 16 then c.sub + 1 else 0
  errors := min (c.errors + errors) 65535
  capture := capture }

/-- R69 to R77: a lane after a frame's payload, its register as given. -/
def Lane.checked (isPrbs inSoak : Bool) (errors : Nat) (register : BitVec 31) (capture : Option Capture) (x : Lane) :
    Lane := { x with
  checker := if isPrbs = true ∧ 1024 ≤ errors then .seeding else .seeded
  checkReg := register, rxFrame := .none
  counters := if x.counts inSoak then x.counters.counted errors capture else x.counters }

/-- R77: the first-error capture `capture` of a frame, `before` the one before it, the counters and the frame's count
as given. -/
def Captures (c : LaneCounters) (count : BitVec 8) (got want : Nat → Bool) (capture : Option Capture) : Prop :=
  (frameErrors got want = 0 ∨ c.capture ≠ none → capture = c.capture) ∧
  (c.capture = none → ∀ n < 4096, got n ≠ want n → (∀ k < n, got k = want k) →
    ∃ cap, capture = some cap ∧ cap.blocks = c.blocks ∧ cap.frameCount = count ∧
      ∀ b < 32, cap.received.getMsbD b = got (n / 32 * 32 + b) ∧ cap.expected.getMsbD b = want (n / 32 * 32 + b))

/-- R69 to R77: what a LOCKED lane makes of a payload, the stream expected as the statements name it. -/
theorem Lane.receive_eq {pl : Payload} {pats : Vector Pattern 4} {x : Lane} {payload : BitVec 4096}
    {want : Nat → Bool}
    (inSoak : Bool) :
    let got (n : Nat) : Bool := payload.getMsbD n != decide (x.polarity = .inverted)
    expectedOf pl pats x x.frameCount got want →
    ∃ capture register, x.receive pl pats inSoak payload =
        (x.checked pl.isPrbs inSoak (frameErrors got want) register capture, frameErrors got want) ∧
      registerAfter pl x.checkReg want register ∧ Captures x.counters x.frameCount got want capture := by
  intro got expected
  let data := applyPolarity x.polarity payload
  have received (n : Nat) (hn : n < 4096) : data.getMsbD n = got n := applyPolarity_getMsbD x.polarity payload hn
  obtain ⟨register, expect, after⟩ := x.expect_eq received expected
  let w := (firstSet 4096 (data ^^^ streamPayload want)).getD 0 / 32
  let cap : Capture := ⟨x.counters.blocks, x.frameCount, payloadWord data w, payloadWord (streamPayload want) w⟩
  let capture := if frameErrors got want = 0 then x.counters.capture else some (x.counters.capture.getD cap)
  have counts : countFrame x.counters (frameErrors got want) cap = x.counters.counted (frameErrors got want) capture :=
    rfl
  refine ⟨capture, register, ?_, after, fun clean => ?_, fun none_ n hn differs before => ?_⟩
  · have expect : x.expect pl pats (applyPolarity x.polarity payload) = (streamPayload want, register) := expect
    have errors : popCount 4096 (applyPolarity x.polarity payload ^^^ streamPayload want) = frameErrors got want :=
      popCount_differs received
    simp only [Lane.receive, expect, errors, Bool.and_eq_true, decide_eq_true_eq]
    rw [Lane.checked, ← counts]
  · by_cases errors : frameErrors got want = 0
    · exact if_pos errors
    · obtain ⟨before, captured⟩ := Option.ne_none_iff_exists'.1 (clean.resolve_left errors)
      rw [show capture = _ from if_neg errors, captured]
      rfl
  · have first : w = n / 32 := by
      simp only [w, firstSet_differs received hn differs before, Option.getD_some]
    refine ⟨cap, ?_, rfl, rfl, fun b hb => ?_⟩
    · rw [show capture = _ from if_neg (frameErrors_ne_zero hn differs), none_]
      rfl
    · simp only [cap, first]
      rw [payloadWord_getMsbD _ (by omega) hb, payloadWord_getMsbD _ (by omega) hb, received _ (by omega),
        streamPayload_getMsbD _ (by omega)]
      exact ⟨rfl, rfl⟩

/-! ### The event (R72) -/

theorem Slot.reportsFrame_iff {x : Slot} {l : LaneId} : x.reportsFrame l = true ↔
    x.state = .scan ∧ (x.lane l).soakRole = true ∧ (x.lane l).rxFrame = .inLock ∧ (x.lane l).lastKind = some .scan := by
  simp [Slot.reportsFrame, and_assoc]

theorem Lane.counts_iff {x : Lane} {inSoak : Bool} : x.counts inSoak = true ↔
    inSoak = true ∧ x.soakRole = true ∧ x.rxFrame = .inLock ∧ x.lastKind = some .soak := by
  simp only [Lane.counts, Bool.and_eq_true, decide_eq_true_eq]
  tauto

/-- R150: the Margin Scanner takes no report of a slot that is not being swept. -/
theorem scanReport_of_unswept {i : SlotId} {s : State} (unswept : s.scanner.queue.head? ≠ some i) (l : LaneId)
    (f : Nat → StepState → ScanLane → StepState × ScanLane) : scanReport i l f s = s := by
  unfold scanReport
  split
  · rfl
  · exact if_neg unswept

/-- R72: a payload received in LOCKED, its lane made of it as `receive` has it. -/
theorem exec_frameReceived {i : SlotId} {l : LaneId} {payload : BitVec 4096} {s : State} {y : Lane} {errors : Nat}
    (active : ((s.slot i).lane l).power = .active) (locked : ((s.slot i).lane l).rx = .locked)
    (awaits : ((s.slot i).lane l).rxFrame ≠ .none)
    (receive : ((s.slot i).lane l).receive (s.slot i).profile.payload s.patterns (decide ((s.slot i).state = .soak))
      payload = (y, errors)) : exec (.frameReceived i l payload) s = .next
        (if (s.slot i).reportsFrame l then
          settle (scanReport i l (scanTally (s.slot i).profile.dwell errors) (s.withSlot i ((s.slot i).withLane l y)))
        else s.withSlot i ((s.slot i).withLane l y)) := by
  have runs : exec (.frameReceived i l payload) s = execFrameReceived i l payload s := rfl
  simp only [runs, execFrameReceived, receive]
  rw [if_pos ⟨Lane.isLocked_iff.2 ⟨active, locked⟩, awaits⟩]
  split <;> rfl

theorem exec_frameReceived_of_unswept {i : SlotId} {l : LaneId} {payload : BitVec 4096} {s : State} {y : Lane}
    {errors : Nat} (unswept : s.scanner.queue.head? ≠ some i) (active : ((s.slot i).lane l).power = .active)
    (locked : ((s.slot i).lane l).rx = .locked) (awaits : ((s.slot i).lane l).rxFrame ≠ .none)
    (receive : ((s.slot i).lane l).receive (s.slot i).profile.payload s.patterns (decide ((s.slot i).state = .soak))
      payload = (y, errors)) : exec (.frameReceived i l payload) s = .next
        (if (s.slot i).reportsFrame l then settle (s.withSlot i ((s.slot i).withLane l y))
        else s.withSlot i ((s.slot i).withLane l y)) := by
  rw [exec_frameReceived active locked awaits receive, scanReport_of_unswept]
  exact unswept

/-- Settles O37: the lane makes of the payload what the statement says, and no sweep hears of it. -/
theorem framesAreChecked : Obligations.FramesAreChecked := by
  intro i l payload s want sl x c unswept active locked awaits count got expected errors counted reported
  obtain ⟨capture, register, receive, after, clean, first⟩ := Lane.receive_eq (decide (sl.state = .soak)) expected
  refine ⟨capture, register, ?_, after, clean, first⟩
  have counts : x.counts (decide (sl.state = .soak)) = true ↔ counted := by
    rw [Lane.counts_iff, decide_eq_true_eq]
  have reports : (s.slot i).reportsFrame l = true ↔ reported := Slot.reportsFrame_iff
  rw [exec_frameReceived_of_unswept unswept active locked awaits receive, Lane.checked]
  simp only [counts, reports]
  rfl

/-! ### A checker that seeds itself (R69, R72) -/

/-- R69: a checker that seeds, or stands where a generator stands, expects the generator's stream. -/
theorem expectedOf_prbsStream {pl : Payload} {k j : Nat} (taps : prbsTaps pl = some (k, j)) (pats : Vector Pattern 4)
    {x : Lane} (count : BitVec 8) {gen : BitVec 31} {got : Nat → Bool}
    (sent : ∀ n < 4096, got n = prbsStream k j gen n) (follows : x.checker = .seeding ∨ x.checkReg = gen) :
    expectedOf pl pats x count got (prbsStream k j gen) := by
  obtain ⟨positive, lower, fits⟩ := prbsTaps_bounds taps
  refine ⟨fun q pattern => (by rw [pattern] at taps; cases taps), fun k' j' some_ n hn => ?_⟩
  cases taps.symm.trans some_
  show prbsStream k j gen n = if x.checker = .seeding ∧ n < k then got n else
    (bitBefore x.checkReg (prbsStream k j gen) n k != bitBefore x.checkReg (prbsStream k j gen) n j)
  by_cases seeds : x.checker = .seeding ∧ n < k
  · rw [if_pos seeds, sent n hn]
  · rw [if_neg seeds, prbsStream_eq, prbsOut_registerAt _ _ _ positive lower fits]
    by_cases same : x.checkReg = gen
    · rw [same]
    · have long : k ≤ n := by
        have seeding := follows.resolve_right same
        by_contra short
        exact seeds ⟨seeding, by omega⟩
      simp only [bitBefore, if_pos long, if_pos (lower.le.trans long)]

/-- R69: the register after a frame of a generator's stream is the generator's. -/
theorem registerAfter_prbsStream {pl : Payload} {k j : Nat} (taps : prbsTaps pl = some (k, j))
    {reg gen register : BitVec 31}
    (after : registerAfter pl reg (prbsStream k j gen) register) : register = txAdvance pl gen := by
  refine BitVec.eq_of_getLsbD_eq fun b hb => ?_
  rw [after.2 k j taps b hb, txAdvance_prbs taps, registerAt_end k gen _ hb]

theorem frameErrors_eq_zero {got want : Nat → Bool} (same : ∀ n < 4096, got n = want n) : frameErrors got want = 0 := by
  rw [frameErrors, List.length_eq_zero_iff, List.filter_eq_nil_iff]
  exact fun n hn => by simp [same n (List.mem_range.1 hn)]

/-- Settles O38: the frame is what the checker expects, from the first bit on or once it has seeded. -/
theorem prbsCheckersSeedThemselves : Obligations.PrbsCheckersSeedThemselves := by
  intro i l gen count s sl x c unswept prbs active locked awaits follows frame counted reported clean y t
  obtain ⟨⟨k, j⟩, taps⟩ : ∃ kj, prbsTaps sl.profile.payload = some kj := by
    rw [← prbs?_eq_prbsTaps]
    exact Option.isSome_iff_exists.1 prbs
  let got (n : Nat) : Bool := (applyPolarity x.polarity frame).getMsbD n != decide (x.polarity = .inverted)
  have sent (n : Nat) (hn : n < 4096) : got n = prbsStream k j gen n := by
    have frame_eq : frame = streamPayload (prbsStream k j gen) := txPayload_prbs taps s.patterns gen count
    simp only [got]
    rw [applyPolarity_getMsbD _ _ hn, frame_eq, streamPayload_getMsbD _ hn]
    cases decide (x.polarity = .inverted) <;> simp
  obtain ⟨capture, register, receive, after, same, -⟩ := Lane.receive_eq (decide (sl.state = .soak))
    (expectedOf_prbsStream taps s.patterns x.frameCount sent follows)
  have none_ : frameErrors got (prbsStream k j gen) = 0 := frameErrors_eq_zero sent
  have capture_eq : capture = c.capture := same (.inl none_)
  have counts : x.counts (decide (sl.state = .soak)) = true ↔ counted := by
    rw [Lane.counts_iff, decide_eq_true_eq]
  have reports : (s.slot i).reportsFrame l = true ↔ reported := Slot.reportsFrame_iff
  have received : x.checked sl.profile.payload.isPrbs (decide (sl.state = .soak)) 0 register capture = y := by
    rw [registerAfter_prbsStream taps after, capture_eq, Lane.checked, if_neg (by omega)]
    simp only [counts]
    rfl
  rw [show frameErrors _ _ = 0 from none_, received] at receive
  rw [exec_frameReceived_of_unswept unswept active locked awaits receive]
  simp only [reports]
  rfl

end Sys2Proof.Machine
end

section
/-! PROOF. What the events of a lane tell its slot and the Margin Scanner (R98, R121, R150 to R153), and what a lane
makes of the header places it examines (R65 to R68). -/

namespace Sys2Proof.Machine

open Sys2Proof Sys2Proof.Safety

/-! ### What the slot is told (R98, R121) -/

/-- R98: the flags that events of lane `l` set, one after another. -/
def eventFlags (st : SlotState) (soakRole : Bool) (l : LaneId) (es : List LaneEvent) : EventFlags :=
  es.foldl (fun f e => f ||| eventFlag st soakRole l e) 0#10

/-- R121: the confirmation counts of a slot after events of lane `l`. -/
def Slot.confirmAfter (l : LaneId) (es : List LaneEvent) (x : Slot) : Vector Nat 4 :=
  if x.state = .train then x.confirm.set l.val (es.foldl Machine.confirmAfter x.confirm[l.val]) else x.confirm

/-- The slot with lane engine `l` replaced, flags set and other confirmation counts. -/
def Slot.laneTold (l : LaneId) (y : Lane) (flags : EventFlags) (confirm : Vector Nat 4) (x : Slot) : Slot :=
  { x with lanes := x.lanes.set l.val y, flags := x.flags ||| flags, confirm := confirm }

theorem Slot.withLane_eq (l : LaneId) (y : Lane) (x : Slot) : x.withLane l y = x.laneTold l y 0 x.confirm := by
  simp [Slot.laneTold, Slot.withLane]

theorem foldl_or_eq (f : LaneEvent → EventFlags) (es : List LaneEvent) (flags : EventFlags) :
    es.foldl (fun g e => g ||| f e) flags = flags ||| es.foldl (fun g e => g ||| f e) 0#10 := by
  induction es generalizing flags with
  | nil => exact BitVec.or_zero.symm
  | cons e es ih => rw [List.foldl_cons, List.foldl_cons, ih, ih (0#10 ||| f e), BitVec.zero_or, BitVec.or_assoc]

theorem foldl_heed (l : LaneId) (es : List LaneEvent) (x : Slot) : es.foldl (Slot.heed l) x =
    { x with confirm := x.confirmAfter l es, flags := x.flags ||| eventFlags x.state (x.lane l).soakRole l es } := by
  induction es generalizing x with
  | nil => simp [Slot.confirmAfter, eventFlags]
  | cons e es ih =>
    have flags : x.flags ||| eventFlags x.state (x.lane l).soakRole l (e :: es) =
        (x.flags ||| eventFlag x.state (x.lane l).soakRole l e) ||| eventFlags x.state (x.lane l).soakRole l es := by
      rw [eventFlags, List.foldl_cons, foldl_or_eq, BitVec.zero_or, ← BitVec.or_assoc]
      rfl
    have confirm : (x.heed l e).confirmAfter l es = x.confirmAfter l (e :: es) := by
      by_cases train : x.state = .train
      · simp [Slot.confirmAfter, Slot.heed, train]
      · simp [Slot.confirmAfter, Slot.heed, train]
    rw [List.foldl_cons, ih, confirm, flags]
    rfl

theorem foldl_heed_withLane (l : LaneId) (y : Lane) (es : List LaneEvent) (x : Slot) :
    es.foldl (Slot.heed l) (x.withLane l y) =
      x.laneTold l y (eventFlags x.state y.soakRole l es) (x.confirmAfter l es) := by
  rw [foldl_heed, Slot.withLane_lane, if_pos rfl]
  rfl

/-- R121, R122: every counted lane of the slot is confirmed, the counts as given. -/
def Slot.Confirmed (confirm : Vector Nat 4) (x : Slot) : Prop :=
  ∀ m : LaneId, x.profile.laneMask.getLsbD m.val = true → m.val < x.plugLanes → confirm[m.val] = 4

theorem Slot.allConfirmed_iff {x : Slot} : x.allConfirmed = true ↔ x.Confirmed x.confirm := by
  simp only [Slot.allConfirmed, List.all_eq_true, mem_allLanes, true_implies, Bool.or_eq_true, Bool.not_eq_true',
    decide_eq_true_eq, Slot.Confirmed]
  refine forall_congr' fun m => ?_
  rw [← Bool.not_eq_true, Slot.counted_iff]
  tauto

theorem trainingCheck_of_not {i : SlotId} {s : State}
    (goesOn : ¬ ((s.slot i).state = .train ∧ (s.slot i).Confirmed (s.slot i).confirm)) : trainingCheck i s = s := by
  rw [← Slot.allConfirmed_iff] at goesOn
  exact if_neg goesOn

/-! ### Reports of a slot that is not being swept -/

section
variable {i : SlotId} {l : LaneId} {s : State} {y : Lane} {es : List LaneEvent}

theorem laneReports_nil : laneReports i l y [] s = s.withSlot i ((s.slot i).laneTold l y 0 (s.slot i).confirm) := by
  rw [← Slot.withLane_eq]
  rfl

theorem laneReports_of_unswept {flags : EventFlags} {confirm : Vector Nat 4}
    (unswept : s.scanner.queue.head? ≠ some i) (flagged : eventFlags (s.slot i).state y.soakRole l es = flags)
    (confirmed : (s.slot i).confirmAfter l es = confirm)
    (goesOn : ¬ ((s.slot i).state = .train ∧ (s.slot i).Confirmed confirm)) :
    laneReports i l y es s = s.withSlot i ((s.slot i).laneTold l y flags confirm) := by
  have told : (s.modSlot i fun x => es.foldl (Slot.heed l) (x.withLane l y)) =
      s.withSlot i ((s.slot i).laneTold l y flags confirm) := by
    rw [State.modSlot, foldl_heed_withLane, flagged, confirmed]
  have own := State.withSlot_slot s i i ((s.slot i).laneTold l y flags confirm)
  rw [if_pos rfl] at own
  simp only [laneReports, told]
  split
  · rfl
  · rw [scanReport_of_unswept (s := s.withSlot i _) unswept, trainingCheck_of_not]
    rw [own]
    exact goesOn

/-! ### Reports of the slot being swept (R150 to R155) -/

theorem sweepRun_not_train (n : Nat) {s : State} {j : SlotId} (h : (s.slot j).state ≠ .train) :
    ((sweepRun n s).slot j).state ≠ .train := by
  induction n generalizing s with
  | zero => exact h
  | succ n ih =>
    unfold sweepRun
    split
    · rename_i a rest sw queue sweep
      split
      · exact h
      · split
        · refine ih ?_
          rw [sweepAdvance_slot]
          split
          · rename_i e
            exact e ▸ h
          · exact h
        · refine ih ?_
          rw [sweepComplete_eq, (sweepNext_rescanned _).scans]
          show ((sweepEnded a s).slot j).state ≠ .train
          rw [sweepEnded_slot]
          split
          · exact SlotState.noConfusion
          · exact h
    · exact h

/-- R151 to R153: the part with the step state and the result of lane `l` of the slot being swept replaced, and its
lane engine and flags. -/
def sweptTold (i : SlotId) (l : LaneId) (sw : Sweep) (flags : EventFlags) (y : Lane) (step : StepState) (r : ScanLane)
    (s : State) : State :=
  let sl := s.slot i
  { s with
    slots := s.slots.set i.val { sl with
      lanes := sl.lanes.set l.val y, flags := sl.flags ||| flags
      scan := { sl.scan with lanes := sl.scan.lanes.set l.val r } }
    scanner := { s.scanner with sweep := some { sw with steps := sw.steps.set l.val step } } }

theorem scanReport_of_swept {sw : Sweep} {flags : EventFlags} {f : Nat → StepState → ScanLane → StepState × ScanLane}
    {step : StepState} {r : ScanLane} (head : s.scanner.queue.head? = some i) (sweep : s.scanner.sweep = some sw)
    (stepped : f sw.position sw.steps[l.val] (s.slot i).scan.lanes[l.val] = (step, r)) :
    scanReport i l f (s.withSlot i ((s.slot i).laneTold l y flags (s.slot i).confirm)) =
      sweepSettle (sweptTold i l sw flags y step r s) := by
  let told := (s.slot i).laneTold l y flags (s.slot i).confirm
  have own : (s.withSlot i told).slot i = told := (State.withSlot_slot s i i told).trans (if_pos rfl)
  have head : (s.withSlot i told).scanner.queue.head? = some i := head
  have sweep : (s.withSlot i told).scanner.sweep = some sw := sweep
  have stepped : f sw.position sw.steps[l.val] told.scan.lanes[l.val] = (step, r) := stepped
  simp only [scanReport]
  rw [show s.withSlot i ((s.slot i).laneTold l y flags (s.slot i).confirm) = s.withSlot i told from rfl]
  simp only [sweep, head, if_true, own, stepped, withStep]
  refine congrArg sweepSettle ?_
  have twice := modSlot_modSlot i (fun _ => told)
    (fun x => { x with scan := { x.scan with lanes := x.scan.lanes.set l.val r } }) s
  rw [show s.modSlot i (fun _ => told) = s.withSlot i told from rfl] at twice
  rw [twice]
  rfl

theorem laneReports_of_swept {sw : Sweep} {flags : EventFlags} {step : StepState} {r : ScanLane}
    (head : s.scanner.queue.head? = some i) (sweep : s.scanner.sweep = some sw) (scan : (s.slot i).state = .scan)
    (some_ : es ≠ []) (flagged : eventFlags .scan y.soakRole l es = flags)
    (stepped : scanEvents sw.position sw.steps[l.val] (s.slot i).scan.lanes[l.val] es = (step, r)) :
    laneReports i l y es s = sweepSettle (sweptTold i l sw flags y step r s) := by
  have notTrain : ¬ (s.slot i).state = .train := by rw [scan]; decide
  have told : (s.modSlot i fun x => es.foldl (Slot.heed l) (x.withLane l y)) =
      s.withSlot i ((s.slot i).laneTold l y flags (s.slot i).confirm) := by
    rw [State.modSlot, foldl_heed_withLane, scan, flagged, Slot.confirmAfter, if_neg notTrain]
  simp only [laneReports, told, List.isEmpty_iff, some_, if_false]
  rw [scanReport_of_swept head sweep stepped, trainingCheck_of_not]
  refine fun trained => sweepRun_not_train sweepBound ?_ trained.1
  show ((s.withSlot i _).slot i).state ≠ .train
  rw [State.withSlot_slot, if_pos rfl]
  exact notTrain

end

end Sys2Proof.Machine
end

section
/-! PROOF. What a lane makes of the header places it examines (R65 to R68), and with what it tells its slot, the
events of a lane in a slot that is not being swept. -/

namespace Sys2Proof.Machine

open Sys2Proof Sys2Proof.Safety

/-! ### A header place examined in HUNT (R65, R66) -/

/-- R65: the forms a lane takes. -/
def Lane.Accepts (p : Polarity) (x : Lane) : Prop := x.soakRole = true → x.fixedPol = some p

theorem marker_of_goodHeader {bits : BitVec 48} {h : Header} (good : goodHeader bits = some h) :
    bits.extractLsb' 24 24 = syncMarker := by
  unfold goodHeader at good
  split at good
  · rename_i fits
    exact fits.1
  · cases good

/-- R65: the marker of a good header implies its polarity. -/
theorem impliedPolarity_of_good {x : Lane} {bits : BitVec 48} {p : Polarity} {h : Header} (accepts : x.Accepts p)
    (good : goodHeader (applyPolarity p bits) = some h) : impliedPolarity x bits = some p := by
  have takes : (!x.soakRole || decide (x.fixedPol = some p)) = true := by
    cases role : x.soakRole
    · rfl
    · simp [accepts role]
  have marker := marker_of_goodHeader good
  cases p with
  | normal => exact if_pos ⟨marker, takes⟩
  | inverted =>
    have inverts : (~~~bits).extractLsb' 24 24 = ~~~bits.extractLsb' 24 24 := by
      ext b hb
      simp
      omega
    have inverse : bits.extractLsb' 24 24 = ~~~syncMarker := by
      rw [← marker, applyPolarity, inverts, BitVec.not_not]
    have notNormal : ¬ bits.extractLsb' 24 24 = syncMarker := by rw [inverse]; decide
    exact (if_neg fun normal => notNormal normal.1).trans (if_pos ⟨inverse, takes⟩)

theorem accepts_of_impliedPolarity {x : Lane} {bits : BitVec 48} {p : Polarity}
    (implied : impliedPolarity x bits = some p) : x.Accepts p := by
  intro role
  simp only [impliedPolarity, role, Bool.not_true, Bool.false_or, decide_eq_true_eq] at implied
  split at implied
  · rename_i normal
    cases implied
    exact normal.2
  · split at implied
    · rename_i inverted
      cases implied
      exact inverted.2
    · cases implied

section
variable {x : Lane} {isPrbs : Bool} {bits : BitVec 48} {p : Polarity} {c : Candidate} {h : Header}

theorem Lane.huntHeader_begins (fresh : x.candidate = none) (accepts : x.Accepts p)
    (good : goodHeader (applyPolarity p bits) = some h) :
    x.huntHeader isPrbs bits = ({ x with candidate := some ⟨h.source, p, 1⟩ }, []) := by
  simp only [Lane.huntHeader, fresh, impliedPolarity_of_good accepts good, good]

theorem Lane.huntHeader_passes (fresh : x.candidate = none)
    (bad : ∀ p, x.Accepts p → goodHeader (applyPolarity p bits) = none) : x.huntHeader isPrbs bits = (x, []) := by
  cases implied : impliedPolarity x bits with
  | none => simp only [Lane.huntHeader, fresh, implied]
  | some p => simp only [Lane.huntHeader, fresh, implied, bad p (accepts_of_impliedPolarity implied)]

theorem Lane.huntHeader_ends (candidate : x.candidate = some c)
    (bad : goodHeader (applyPolarity c.polarity bits) = none) :
    x.huntHeader isPrbs bits = ({ x with candidate := none }, []) := by
  simp only [Lane.huntHeader, candidate, bad]

theorem Lane.huntHeader_restarts (candidate : x.candidate = some c)
    (good : goodHeader (applyPolarity c.polarity bits) = some h) (other : h.source ≠ c.source) :
    x.huntHeader isPrbs bits = ({ x with candidate := some ⟨h.source, c.polarity, 1⟩ }, []) := by
  simp only [Lane.huntHeader, candidate, good, if_neg other]

theorem Lane.huntHeader_counts (candidate : x.candidate = some c)
    (good : goodHeader (applyPolarity c.polarity bits) = some h) (same : h.source = c.source) (few : c.count < 3) :
    x.huntHeader isPrbs bits = ({ x with candidate := some ⟨c.source, c.polarity, c.count + 1⟩ }, []) := by
  simp only [Lane.huntHeader, candidate, good, if_pos same, if_pos (Nat.succ_lt_succ few)]

theorem Lane.huntHeader_locks (candidate : x.candidate = some c)
    (good : goodHeader (applyPolarity c.polarity bits) = some h) (same : h.source = c.source) (fourth : 3 ≤ c.count) :
    x.huntHeader isPrbs bits = x.takeLock isPrbs c.polarity h := by
  simp only [Lane.huntHeader, candidate, good, if_pos same, if_neg (show ¬ c.count + 1 < 4 by omega)]

/-- R66: a lane that takes lock with the header `h` in polarity `p`. -/
def Lane.lockedTo (isPrbs : Bool) (p : Polarity) (h : Header) (x : Lane) : Lane := { x with
  rx := .locked, polarity := p, source := some h.source, lastKind := some h.kind, lastCount := some h.count
  badRun := 0, foreign := none, candidate := none, checker := checkerAtLock isPrbs, relock := none
  rxFrame := .atLock }

theorem Lane.takeLock_stays (own : x.soakRole = false ∨ x.soakSource = some h.source) :
    x.takeLock isPrbs p h = (x.lockedTo isPrbs p h, [.lockTaken]) := by
  refine if_neg fun moved => ?_
  rw [Bool.and_eq_true, decide_eq_true_eq] at moved
  obtain ⟨role, other⟩ := moved
  exact own.elim (fun clear => Bool.false_ne_true (clear.symm.trans role)) other

theorem Lane.takeLock_dies (role : x.soakRole = true) (other : x.soakSource ≠ some h.source) :
    x.takeLock isPrbs p h = ((x.lockedTo isPrbs p h).die .sourceChange, [.lockTaken, .died .sourceChange]) :=
  if_pos (by simp [role, other])

/-! ### A header place examined in LOCKED (R67, R68, R76) -/

variable {inSoak : Bool} {relockAt : Timer}

/-- R67: a LOCKED lane that has examined the good header `h`, its foreign run ended. -/
def Lane.seen (h : Header) (x : Lane) : Lane := { x with
  badRun := 0, foreign := none, lastKind := some h.kind, lastCount := some h.count, rxFrame := .inLock }

theorem Lane.lockHeader_own (good : goodHeader (applyPolarity x.polarity bits) = some h)
    (own : x.source = some h.source) :
    x.lockHeader isPrbs inSoak relockAt bits = (x.seen h, [.goodHeader h.kind]) := by
  simp only [Lane.lockHeader, good, if_pos own]
  rfl

theorem Lane.lockHeader_foreign (good : goodHeader (applyPolarity x.polarity bits) = some h)
    (other : x.source ≠ some h.source) (few : foreignCount x.foreign h.source < 4) :
    x.lockHeader isPrbs inSoak relockAt bits =
      ({ x.seen h with foreign := some (h.source, foreignCount x.foreign h.source) }, [.foreignHeader]) := by
  simp only [Lane.lockHeader, good, if_neg other, if_pos few]
  rfl

theorem Lane.lockHeader_dies (good : goodHeader (applyPolarity x.polarity bits) = some h)
    (other : x.source ≠ some h.source) (fourth : 4 ≤ foreignCount x.foreign h.source) (role : x.soakRole = true) :
    x.lockHeader isPrbs inSoak relockAt bits =
      ((x.seen h).die .sourceChange, [.foreignHeader, .died .sourceChange]) := by
  simp only [Lane.lockHeader, good, if_neg other, if_neg (Nat.not_lt.2 fourth)]
  exact if_pos role

theorem Lane.lockHeader_moves (good : goodHeader (applyPolarity x.polarity bits) = some h)
    (other : x.source ≠ some h.source) (fourth : 4 ≤ foreignCount x.foreign h.source) (role : x.soakRole = false) :
    x.lockHeader isPrbs inSoak relockAt bits =
      ({ x.seen h with source := some h.source, checker := checkerAtLock isPrbs }, [.foreignHeader, .sourceMoved]) := by
  simp only [Lane.lockHeader, good, if_neg other, if_neg (Nat.not_lt.2 fourth)]
  exact if_neg (role ▸ Bool.false_ne_true)

/-- R67, R76: a LOCKED lane that has examined a bad header and keeps its lock. -/
def Lane.erred (inSoak : Bool) (x : Lane) : Lane := { x with
  badRun := x.badRun + 1, foreign := none, counters := x.countHeaderError inSoak, rxFrame := .inLock }

/-- R67, R68, R76: a lane that has lost lock. -/
def Lane.unlocked (inSoak : Bool) (relockAt : Timer) (x : Lane) : Lane := { x with
  rx := .hunt, searching := true, badRun := 0, foreign := none
  counters := countDrop x.soakRole inSoak (x.countHeaderError inSoak)
  relock := if x.soakRole then relockAt else x.relock
  checker := .unseeded, rxFrame := .none }

theorem Lane.lockHeader_errs (bad : goodHeader (applyPolarity x.polarity bits) = none) (few : x.badRun < 2) :
    x.lockHeader isPrbs inSoak relockAt bits = (x.erred inSoak, [.badHeader]) := by
  simp only [Lane.lockHeader, bad, if_pos (Nat.succ_lt_succ few)]
  rfl

theorem Lane.lockHeader_loses (bad : goodHeader (applyPolarity x.polarity bits) = none) (third : 2 ≤ x.badRun) :
    x.lockHeader isPrbs inSoak relockAt bits = (x.unlocked inSoak relockAt, [.badHeader, .lockLost]) := by
  simp only [Lane.lockHeader, bad, if_neg (show ¬ x.badRun + 1 < 3 by omega)]
  rfl

end

/-! ### The events (R65 to R68) -/

section
variable {i : SlotId} {l : LaneId} {s : State} {bits : BitVec 48} {y : Lane} {es : List LaneEvent}

theorem exec_headerInHunt (active : ((s.slot i).lane l).power = .active) (hunts : ((s.slot i).lane l).rx = .hunt)
    (searches : ((s.slot i).lane l).searching = true)
    (hunt : ((s.slot i).lane l).huntHeader (s.slot i).profile.payload.isPrbs bits = (y, es)) :
    exec (.headerInHunt i l bits) s = .next (settle (laneReports i l y es s)) := by
  have runs : exec (.headerInHunt i l bits) s = execHeaderInHunt i l bits s := rfl
  simp only [runs, execHeaderInHunt, hunt]
  exact if_pos (by simp [Lane.isSearching, active, hunts, searches])

theorem exec_headerInLock (active : ((s.slot i).lane l).power = .active) (locked : ((s.slot i).lane l).rx = .locked)
    (lock : ((s.slot i).lane l).lockHeader (s.slot i).profile.payload.isPrbs (decide ((s.slot i).state = .soak))
      (timerAfter s.us (s.slot i).profile.relockTimeout) bits = (y, es)) :
    exec (.headerInLock i l bits) s = .next (settle (laneReports i l y es s)) := by
  have runs : exec (.headerInLock i l bits) s = execHeaderInLock i l bits s := rfl
  simp only [runs, execHeaderInLock, lock]
  exact if_pos (Lane.isLocked_iff.2 ⟨active, locked⟩)

theorem exec_relockTimeout {e : BitVec 48} (hunts : ((s.slot i).lane l).rx = .hunt)
    (runs_ : ((s.slot i).lane l).relock = some e) (due : reached s.us e = true) :
    exec (.relockTimeout i l) s = .next (settle
      (laneReports i l (((s.slot i).lane l).die .relockTimeout) [.died .relockTimeout] s)) := by
  have runs : exec (.relockTimeout i l) s = execRelockTimeout i l s := rfl
  simp only [runs, execRelockTimeout]
  exact if_pos (by simp [Lane.relockDue, runs_, timerDue, due, hunts])

end

/-! ### The flags of the events (R76, R98) -/

theorem eventFlags_quiet {st : SlotState} {soakRole : Bool} {l : LaneId} {es : List LaneEvent}
    (quiet : ∀ e ∈ es, eventFlag st soakRole l e = 0) : eventFlags st soakRole l es = 0 := by
  induction es with
  | nil => rfl
  | cons e es ih =>
    have rest := ih fun e' member => quiet e' (List.mem_cons_of_mem e member)
    rw [eventFlags, List.foldl_cons, quiet e List.mem_cons_self]
    exact (congrArg (List.foldl _ · es) BitVec.or_zero).trans rest

theorem eventFlags_sourceChange (st : SlotState) (soakRole : Bool) (l : LaneId) {e : LaneEvent}
    (none_ : eventFlag st soakRole l e = 0) : eventFlags st soakRole l [e, .died .sourceChange] =
      if st = .soak ∨ st = .scan then EventFlags.sourceChange l else 0 := by
  rw [eventFlags, List.foldl_cons, List.foldl_cons, List.foldl_nil, none_]
  show 0#10 ||| 0#10 ||| (if st.soakOrScan = true then EventFlags.sourceChange l else 0#10) = _
  rw [BitVec.zero_or, BitVec.zero_or]
  exact if_congr SlotState.soakOrScan_iff rfl rfl

theorem eventFlags_lockLost (st : SlotState) (soakRole : Bool) (l : LaneId) :
    eventFlags st soakRole l [.badHeader, .lockLost] =
      if soakRole = true ∧ st = .soak then EventFlags.laneDrop l else 0 := by
  show 0#10 ||| 0#10 ||| (if (soakRole && decide (st = .soak)) = true then EventFlags.laneDrop l else 0#10) = _
  rw [BitVec.zero_or, BitVec.zero_or]
  exact if_congr (by rw [Bool.and_eq_true, decide_eq_true_eq]) rfl rfl

/-- Settles O33: what the lane makes of the place, and what it tells a slot that is not being swept. -/
theorem huntingLanesTakeLock : Obligations.HuntingLanesTakeLock := by
  intro i l bits s sl x active hunts searches after accepts locked dropped training
  have quiet {y : Lane} (hunt : x.huntHeader sl.profile.payload.isPrbs bits = (y, [])) :
      exec (.headerInHunt i l bits) s = after 0 sl.confirm y := by
    rw [exec_headerInHunt active hunts searches hunt, laneReports_nil]
    rfl
  refine ⟨fun fresh => ⟨fun p h accepted good => quiet (x.huntHeader_begins fresh accepted good),
    fun bad => quiet (x.huntHeader_passes fresh bad)⟩, fun c candidate => ⟨fun bad =>
    quiet (x.huntHeader_ends candidate bad), fun h good => ⟨fun other =>
    quiet (x.huntHeader_restarts candidate good other), fun same few =>
    quiet (x.huntHeader_counts candidate good same few), fun same fourth unswept goesOn => ?_⟩⟩⟩
  have told {y : Lane} {es : List LaneEvent} {flags : EventFlags}
      (lock : x.takeLock sl.profile.payload.isPrbs c.polarity h = (y, es))
      (flagged : eventFlags sl.state y.soakRole l es = flags)
      (drops : ∀ n, es.foldl confirmAfter n = 0) : exec (.headerInHunt i l bits) s = after flags dropped y := by
    have confirmed : sl.confirmAfter l es = dropped := by rw [Slot.confirmAfter, drops]
    rw [exec_headerInHunt active hunts searches ((x.huntHeader_locks candidate good same fourth).trans lock),
      laneReports_of_unswept unswept flagged confirmed goesOn]
    rfl
  constructor
  · intro own
    exact told (Lane.takeLock_stays own) (eventFlags_quiet (by simp [eventFlag])) fun n => rfl
  · intro role other
    exact told (Lane.takeLock_dies role other) (eventFlags_sourceChange _ _ l rfl) fun n => rfl

/-! ### LOCKED lanes in a slot that is not being swept (R67, R68, R76) -/

theorem Lane.countHeaderError_eq (inSoak : Bool) (x : Lane) : x.countHeaderError inSoak =
    if (x.soakRole = true ∧ inSoak = true) ∧ x.lastKind = some .soak then
      { x.counters with headerErrors := min (x.counters.headerErrors + 1) 255 }
    else x.counters :=
  if_congr (by rw [Bool.and_eq_true, Bool.and_eq_true, decide_eq_true_eq]) rfl rfl

theorem countDrop_eq (soakRole inSoak : Bool) (c : LaneCounters) : countDrop soakRole inSoak c =
    if soakRole = true ∧ inSoak = true then { c with drops := min (c.drops + 1) 255 } else c :=
  if_congr (by rw [Bool.and_eq_true]) rfl rfl

/-- Settles O34: each header place and each expiry by what the lane makes of it and tells its slot. -/
theorem lockedLanesLoseLockAndDie : Obligations.LockedLanesLoseLockAndDie := by
  intro i l s sl x soaking dropped training unswept goesOn after changed dead
  have told {y : Lane} {es : List LaneEvent} {flags : EventFlags} (flagged : eventFlags sl.state y.soakRole l es = flags)
      (drops : sl.confirmAfter l es = dropped) : .next (settle (laneReports i l y es s)) = after flags y := by
    rw [laneReports_of_unswept unswept flagged drops goesOn]
    rfl
  have drops {es : List LaneEvent} (all : ∀ n, es.foldl confirmAfter n = 0) : sl.confirmAfter l es = dropped := by
    rw [Slot.confirmAfter, all]
  refine ⟨fun active locked bits => ⟨fun h good => ?_, fun bad => ?_⟩, fun e hunts running due => ?_⟩
  · intro seen run
    refine ⟨fun notTrain own => ?_, fun other few => ?_, fun other fourth role => ?_, fun other fourth role => ?_⟩
    · rw [exec_headerInLock active locked (x.lockHeader_own good own)]
      refine told (eventFlags_quiet (by simp [eventFlag])) ?_
      rw [Slot.confirmAfter, if_neg notTrain, show dropped = sl.confirm from if_neg notTrain]
    · rw [exec_headerInLock active locked (x.lockHeader_foreign good other few)]
      exact told (eventFlags_quiet (by simp [eventFlag])) (drops fun n => rfl)
    · rw [exec_headerInLock active locked (x.lockHeader_dies good other fourth role)]
      exact told (eventFlags_sourceChange _ _ l rfl) (drops fun n => rfl)
    · rw [exec_headerInLock active locked (x.lockHeader_moves good other fourth role)]
      exact told (eventFlags_quiet (by simp [eventFlag])) (drops fun n => rfl)
  · intro counted droppedOne
    have counted_eq : x.countHeaderError (decide (sl.state = .soak)) = counted := by
      simp only [Lane.countHeaderError_eq, decide_eq_true_eq]
      rfl
    have droppedOne_eq : countDrop x.soakRole (decide (sl.state = .soak)) counted = droppedOne := by
      simp only [countDrop_eq, decide_eq_true_eq]
      rfl
    constructor
    · intro few
      rw [exec_headerInLock active locked (x.lockHeader_errs bad few), Lane.erred]
      refine (told (eventFlags_quiet (by simp [eventFlag])) (drops fun n => rfl)).trans ?_
      rw [counted_eq]
    · intro third
      rw [exec_headerInLock active locked (x.lockHeader_loses bad third), Lane.unlocked]
      refine (told (eventFlags_lockLost _ _ l) (drops fun n => rfl)).trans ?_
      rw [counted_eq, droppedOne_eq]
      rfl
  · rw [exec_relockTimeout hunts running due]
    exact told (eventFlags_quiet (by simp [eventFlag])) (drops fun n => rfl)

end Sys2Proof.Machine
end

section
/-! PROOF. The events of a lane in the slot being swept (R66 to R71, R76, R77, R98, R151 to R153). -/

namespace Sys2Proof.Machine

open Sys2Proof Sys2Proof.Safety

/-! ### The step state and the result after the events of a header place (R151 to R153) -/

/-- R151: the lane dwells. -/
def StepState.dwells : StepState → Bool
  | .dwell .. => true
  | _ => false

/-- R151: a dwelling lane has examined a header at the position (log 29). -/
def StepState.marked : StepState → StepState
  | .dwell f e _ => .dwell f e true
  | st => st

section
variable (p : Nat) (st : StepState) (r : ScanLane)

theorem scanEvents_lockTaken : scanEvents p st r [.lockTaken] =
    (if st = .waitLock then .dwell 0 0 false else st, r) := by
  cases st <;> rfl

theorem scanEvents_marked {es : List LaneEvent} {kind : FrameKind} (es_ : es = [.goodHeader kind] ∨
    es = [.foreignHeader] ∨ es = [.foreignHeader, .sourceMoved] ∨ es = [.badHeader]) :
    scanEvents p st r es = (st.marked, r) := by
  obtain rfl | rfl | rfl | rfl := es_ <;> cases st <;> rfl

/-- R153: what a lane's death makes of its step state and result. -/
def StepState.dies (p : Nat) (cause : DeadCause) (r : ScanLane) (st : StepState) : StepState × ScanLane :=
  if st = .waitLock ∨ st.dwells = true then (.broken, brokenAt r p cause) else (st, r)

theorem scanEvents_died (cause : DeadCause) {es : List LaneEvent} (es_ : es = [.died cause] ∨
    es = [.lockTaken, .died cause] ∨ es = [.foreignHeader, .died cause]) :
    scanEvents p st r es = st.dies p cause r := by
  obtain rfl | rfl | rfl := es_ <;> cases st <;> rfl

theorem scanEvents_lockLost : scanEvents p st r [.badHeader, .lockLost] =
    if st.dwells = true then (.finished, { r with counts := r.counts.setIfInBounds p 255 }) else (st, r) := by
  cases st <;> rfl

end

/-! ### The lane in SCAN (R69 to R76) -/

theorem Lane.countHeaderError_of_scan (x : Lane) : x.countHeaderError false = x.counters := by
  rw [Lane.countHeaderError_eq, if_neg (fun h => Bool.false_ne_true h.1.2)]

theorem countDrop_of_scan (soakRole : Bool) (c : LaneCounters) : countDrop soakRole false c = c := by
  rw [countDrop_eq, if_neg (fun h => Bool.false_ne_true h.2)]

theorem Lane.erred_of_scan (x : Lane) : x.erred false =
    { x with badRun := x.badRun + 1, foreign := none, rxFrame := .inLock } := by
  rw [Lane.erred, x.countHeaderError_of_scan]

theorem Lane.unlocked_of_scan (relockAt : Timer) (x : Lane) : x.unlocked false relockAt = { x with
    rx := .hunt, searching := true, badRun := 0, foreign := none
    relock := if x.soakRole then relockAt else x.relock
    checker := .unseeded, rxFrame := .none } := by
  rw [Lane.unlocked, countDrop_of_scan, x.countHeaderError_of_scan]

theorem Lane.checked_of_scan (isPrbs : Bool) (errors : Nat) (register : BitVec 31) (capture : Option Capture)
    (x : Lane) : x.checked isPrbs false errors register capture = { x with
      checker := if isPrbs = true ∧ 1024 ≤ errors then .seeding else .seeded
      checkReg := register, rxFrame := .none } := by
  rw [Lane.checked, if_neg (fun h => Bool.false_ne_true (Lane.counts_iff.1 h).1)]

/-! ### A frame tallied (R77, R151, R152) -/

theorem scanTally_dwell (dwell m p f e : Nat) (r : ScanLane) : scanTally dwell m p (.dwell f e true) r =
    if f + 1 < 16 * dwell then (.dwell (f + 1) (e + m) true, r)
    else (.finished, { r with counts := r.counts.setIfInBounds p (min (e + m) 255) }) := by
  by_cases more : f + 1 < 16 * dwell
  · rw [if_pos more]
    exact if_neg (by omega)
  · rw [if_neg more]
    exact if_pos (by omega)

theorem scanTally_other (dwell m p : Nat) {st : StepState} (r : ScanLane) (other : ∀ f e, st ≠ .dwell f e true) :
    scanTally dwell m p st r = (st, r) := by
  cases st with
  | dwell f e fresh =>
    cases fresh with
    | true => exact absurd rfl (other f e)
    | false => rfl
  | unscanned | waitLock | finished | broken => rfl

/-! ### The events of the lane (R67, R72, R151 to R153) -/

section
variable {i : SlotId} {l : LaneId} {s : State} {sw : Sweep} {y : Lane} {es : List LaneEvent} {flags : EventFlags}
  {step : StepState} {r : ScanLane} (head : s.scanner.queue.head? = some i) (sweep : s.scanner.sweep = some sw)
  (scan : (s.slot i).state = .scan)
include head sweep scan

/-- R153: a lane of the slot being swept dies. -/
theorem laneReports_died {cause : DeadCause} (some_ : es ≠ []) (flagged : eventFlags .scan y.soakRole l es = flags)
    (died : ∀ p st r, scanEvents p st r es = st.dies p cause r) :
    laneReports i l (y.die cause) es s =
      let after := sw.steps[l.val].dies sw.position cause (s.slot i).scan.lanes[l.val]
      sweepSettle (sweptTold i l sw flags (y.die cause) after.1 after.2 s) :=
  laneReports_of_swept (y := y.die cause) head sweep scan some_ flagged (died _ _ _)

theorem exec_headerInLock_of_swept {bits : BitVec 48} (active : ((s.slot i).lane l).power = .active)
    (locked : ((s.slot i).lane l).rx = .locked)
    (lock : ((s.slot i).lane l).lockHeader (s.slot i).profile.payload.isPrbs false
      (timerAfter s.us (s.slot i).profile.relockTimeout) bits = (y, es))
    (some_ : es ≠ []) (flagged : eventFlags .scan y.soakRole l es = flags)
    (stepped : scanEvents sw.position sw.steps[l.val] (s.slot i).scan.lanes[l.val] es = (step, r)) :
    exec (.headerInLock i l bits) s = .next (settle (sweepSettle (sweptTold i l sw flags y step r s))) := by
  have notSoak : decide ((s.slot i).state = .soak) = false := by rw [scan]; rfl
  rw [exec_headerInLock (y := y) (es := es) active locked (by rw [notSoak]; exact lock),
    laneReports_of_swept head sweep scan some_ flagged stepped]

omit scan in
theorem exec_frameReceived_of_swept {payload : BitVec 4096} {errors : Nat}
    (received : exec (.frameReceived i l payload) s = .next (if (s.slot i).reportsFrame l then
        settle (scanReport i l (scanTally (s.slot i).profile.dwell errors) (s.withSlot i ((s.slot i).withLane l y)))
      else s.withSlot i ((s.slot i).withLane l y)))
    (reports : (s.slot i).reportsFrame l = true)
    (tally : scanTally (s.slot i).profile.dwell errors sw.position sw.steps[l.val] (s.slot i).scan.lanes[l.val] =
      (step, r)) :
    exec (.frameReceived i l payload) s = .next (settle (sweepSettle (sweptTold i l sw 0 y step r s))) := by
  rw [received, if_pos reports, Slot.withLane_eq, scanReport_of_swept head sweep tally]

end

/-- Settles O49: each event by what the lane makes of it and by the step state and the result it leaves. -/
theorem laneEventsMoveTheSweep : Obligations.LaneEventsMoveTheSweep := by
  intro i l s sw sl x p at_ result head sweep scan told dwells marked fixed dies restarted
  have tells {bits : BitVec 48} {y : Lane} {es : List LaneEvent} {flags : EventFlags} {step : StepState} {r : ScanLane}
      (active : x.power = .active) (locked : x.rx = .locked)
      (lock : x.lockHeader sl.profile.payload.isPrbs false (timerAfter s.us sl.profile.relockTimeout) bits = (y, es))
      (some_ : es ≠ []) (flagged : eventFlags .scan y.soakRole l es = flags)
      (stepped : scanEvents p at_ result es = (step, r)) : exec (.headerInLock i l bits) s = told flags y step r :=
    exec_headerInLock_of_swept head sweep scan active locked lock some_ flagged stepped
  have kills (y : Lane) (flags : EventFlags) (cause : DeadCause) : dies flags cause y =
      told flags (y.die cause) (at_.dies p cause result).1 (at_.dies p cause result).2 := by
    by_cases busy : at_ = .waitLock ∨ at_.dwells = true
    · rw [StepState.dies, if_pos busy]
      exact if_pos busy
    · rw [StepState.dies, if_neg busy]
      exact if_neg busy
  have changed (e : LaneEvent) (quiet : eventFlag .scan x.soakRole l e = 0) :
      eventFlags .scan x.soakRole l [e, .died .sourceChange] = EventFlags.sourceChange l :=
    (eventFlags_sourceChange _ _ l quiet).trans (if_pos (.inr rfl))
  refine ⟨fun bits c h active hunts searches candidate fourth good same => ?_, fun active locked bits =>
    ⟨fun h good => ?_, fun bad => ?_⟩, fun e hunts running due => ?_, fun payload want active locked awaits => ?_⟩
  · intro locked
    have locks := x.huntHeader_locks (isPrbs := sl.profile.payload.isPrbs) candidate good same fourth
    constructor
    · intro own
      rw [exec_headerInHunt active hunts searches (locks.trans (Lane.takeLock_stays own)),
        laneReports_of_swept head sweep scan (by simp) (eventFlags_quiet (by simp [eventFlag]))
          (scanEvents_lockTaken p at_ result)]
      rfl
    · intro role other
      rw [exec_headerInHunt active hunts searches (locks.trans (Lane.takeLock_dies role other)), kills,
        laneReports_died (y := x.lockedTo sl.profile.payload.isPrbs c.polarity h) head sweep scan (by simp)
          (changed .lockTaken rfl) fun p st r => scanEvents_died p st r _ (.inr (.inl rfl))]
      rfl
  · intro seen run
    refine ⟨fun own => ?_, fun other few => ?_, fun other fourth role => ?_, fun other fourth role => ?_⟩
    · exact tells active locked (x.lockHeader_own good own) (by simp) (eventFlags_quiet (by simp [eventFlag]))
        (scanEvents_marked p at_ result (.inl rfl))
    · exact tells active locked (x.lockHeader_foreign good other few) (by simp) (eventFlags_quiet (by simp [eventFlag]))
        (scanEvents_marked (kind := h.kind) p at_ result (.inr (.inl rfl)))
    · rw [kills]
      exact tells active locked (x.lockHeader_dies good other fourth role) (by simp) (changed .foreignHeader rfl)
        (scanEvents_died p at_ result _ (.inr (.inr rfl)))
    · exact tells active locked (x.lockHeader_moves good other fourth role) (by simp)
        (eventFlags_quiet (by simp [eventFlag]))
        (scanEvents_marked (kind := h.kind) p at_ result (.inr (.inr (.inl rfl))))
  · constructor
    · intro few
      exact tells active locked ((x.lockHeader_errs bad few).trans (by rw [x.erred_of_scan])) (by simp)
        (eventFlags_quiet (by simp [eventFlag]))
        (scanEvents_marked (kind := .idle) p at_ result (.inr (.inr (.inr rfl))))
    · intro third lost
      have flags : eventFlags .scan x.soakRole l [.badHeader, .lockLost] = 0 :=
        (eventFlags_lockLost _ _ l).trans (if_neg (fun h => absurd h.2 (by decide)))
      have lost_ := (x.lockHeader_loses (isPrbs := sl.profile.payload.isPrbs) (inSoak := false)
        (relockAt := timerAfter s.us sl.profile.relockTimeout) bad third).trans (by rw [x.unlocked_of_scan])
      by_cases dwelt : at_.dwells = true
      · exact (tells active locked lost_ (by simp) flags
          ((scanEvents_lockLost p at_ result).trans (if_pos dwelt))).trans (if_pos dwelt).symm
      · exact (tells active locked lost_ (by simp) flags
          ((scanEvents_lockLost p at_ result).trans (if_neg dwelt))).trans (if_neg dwelt).symm
  · rw [exec_relockTimeout hunts running due, kills, laneReports_died (y := x) head sweep scan (by simp)
      (eventFlags_quiet (by simp [eventFlag])) fun p st r => scanEvents_died p st r _ (.inl rfl)]
    rfl
  · intro count got expected errors
    have notSoak : decide (sl.state = .soak) = false := by rw [scan]; rfl
    obtain ⟨capture, register, receive, after, -⟩ := Lane.receive_eq (decide (sl.state = .soak)) expected
    rw [show x.checked _ (decide (sl.state = .soak)) _ _ _ = _ from notSoak ▸ Lane.checked_of_scan ..] at receive
    have received := exec_frameReceived active locked awaits receive
    refine ⟨register, ?_⟩
    intro y tallied
    have reports : (s.slot i).reportsFrame l = true ↔ tallied := Slot.reportsFrame_iff.trans (and_iff_right scan)
    have told_ {step : StepState} {r : ScanLane} (tallies : tallied)
        (tally : scanTally sl.profile.dwell errors p at_ result = (step, r)) :
        exec (.frameReceived i l payload) s = told 0 y step r :=
      exec_frameReceived_of_swept head sweep received (reports.2 tallies) tally
    refine ⟨after, fun untold => ?_, fun tallies => ⟨fun f e dwelling => ?_, fun other => ?_⟩⟩
    · rw [received, if_neg (fun h => untold (reports.1 h))]
      rfl
    · have tally := scanTally_dwell sl.profile.dwell errors p f e result
      rw [← dwelling] at tally
      by_cases more : f + 1 < 16 * sl.profile.dwell
      · rw [if_pos more] at tally ⊢
        exact told_ tallies tally
      · rw [if_neg more] at tally ⊢
        exact told_ tallies tally
    · exact told_ tallies (scanTally_other _ _ p result other)

end Sys2Proof.Machine
end

section
/-! PROOF. Presence and its debounce (R57, R59, R80 to R83, R86), and entry to DISCOVER (R57, R87, R107, R108). -/

namespace Sys2Proof.Machine

open Sys2Proof Sys2Proof.Safety

/-! ### The raw presence input (R59, R80, R81) -/

/-- R81: a change of the inputs of slot `i`, from the state `s` to `t`, which has the slot as it was. -/
theorem rawChanged_eq {i : SlotId} {s t : State} (same : t.slot i = s.slot i) :
    rawChanged i (rawPresence s i) t =
      if t.porst = true ∨ (s.slot i).tracking = false ∨
          rawInput t i (s.slot i).profile.presenceSource = rawInput s i (s.slot i).profile.presenceSource then t
      else t.withSlot i { s.slot i with
        debounceTimer := if rawInput t i (s.slot i).profile.presenceSource = (s.slot i).present then none
          else some (t.us + BitVec.ofNat 48 ((s.slot i).profile.debounce * 1000)) } := by
  simp only [rawChanged, State.modSlot, rawPresence_eq, same, Bool.or_eq_true, Bool.not_eq_true', decide_eq_true_eq,
    or_assoc]
  rfl

/-- R59: the raw input of a slot does not see the energy detectors of lanes 1 to 3. -/
theorem rawInput_of_energy {s : State} {i : SlotId} {l : LaneId} (other : l ≠ 0) (level : Bool)
    (src : PresenceSource) :
    rawInput { s with energy := s.energy.set i.val ((s.energy[i.val]).set l.val level) } i src = rawInput s i src := by
  have away : l.val ≠ 0 := fun e => other (Fin.ext e)
  cases src <;> simp [rawInput, Vector.getElem_set_ne, away]

/-- R57: a PARKED lane in the mask wakes. -/
theorem Lane.wake_masked (masked : Bool) (i : SlotId) (l : LaneId) (pl : Payload) (pats : Vector Pattern 4) (x : Lane) :
    (if masked then x.wake i l pl pats else x) = if masked = true ∧ x.power = .parked then { x with
      power := .waking, rx := .hunt, searching := false, checker := .unseeded, txCount := 0
      txGen := if pl.isPrbs then laneSeed i l else x.txGen
      sending := some ⟨headerBits (laneSource i l) .idle 0,
        txPayload pl pats (if pl.isPrbs then laneSeed i l else x.txGen) 0⟩ } else x := by
  cases masked with
  | false => rw [if_neg Bool.false_ne_true, if_neg fun h => Bool.false_ne_true h.1]
  | true =>
    rw [if_pos rfl, Lane.wake]
    exact if_congr (and_iff_right rfl).symm rfl rfl

/-! ### The debounce timer's expiry (R81 to R83) -/

theorem reportsInsert_eq (edges : PresenceEdges) : (if edges.reportsInsert then EventFlags.insert else 0) =
    if edges = .insert ∨ edges = .both then 1#10 else 0#10 := by
  cases edges <;> rfl

/-- R81: the slot with its debounced presence at `now` and its debounce timer expired. -/
def Slot.debounced (now : Bool) (x : Slot) : Slot := { x with present := now, debounceTimer := none }

/-- R82: a slot told of a debounced assertion. -/
def Slot.inserted (x : Slot) : Slot := { x.debounced true with flags := x.flags |||
  if x.profile.presenceEdges = .insert ∨ x.profile.presenceEdges = .both then 1#10 else 0#10 }

/-- R83: a slot told of a debounced loss. -/
def Slot.removed (x : Slot) : Slot := { x.debounced false with flags := x.flags |||
  if x.profile.presenceEdges = .remove ∨ x.profile.presenceEdges = .both then 2#10 else 0#10 }

section
variable {i : SlotId} {s : State}

theorem debounceTaken_of_same (raw : rawInput s i (s.slot i).profile.presenceSource = (s.slot i).present) :
    debounceTaken i s = s.withSlot i { s.slot i with debounceTimer := none } := by
  rw [debounceTaken, rawPresence_eq]
  simp only [raw, if_true]
  rfl

/-- R57, R86: a slot as it enters SETTLE. -/
def Slot.settling (i : SlotId) (now : BitVec 48) (pats : Vector Pattern 4) (x : Slot) : Slot :=
  { x.mapLanes (fun l y => if x.inMask l then y.wake i l x.profile.payload pats else y) with
    state := .settle, stateTimer := timerAfter now (x.profile.settle * 16) }

theorem debounceTaken_of_assertion (raw : rawInput s i (s.slot i).profile.presenceSource = true)
    (absent : (s.slot i).present = false) : debounceTaken i s =
      if (s.slot i).state = .watch then s.withSlot i ((s.slot i).inserted.settling i s.us s.patterns)
      else s.withSlot i (s.slot i).inserted := by
  have own : (s.withSlot i ((s.slot i).debounced true)).slot i = (s.slot i).debounced true :=
    (State.withSlot_slot s i i _).trans (if_pos rfl)
  have unfolded : debounceTaken i s = presenceAssertion i (s.withSlot i ((s.slot i).debounced true)) := by
    rw [debounceTaken, rawPresence_eq]
    simp only [raw, absent, Bool.false_eq_true, if_false, if_true]
    rfl
  have told := modSlot_modSlot i (Slot.debounced true) (fun x => { x with flags := x.flags |||
    if ((s.slot i).debounced true).profile.presenceEdges.reportsInsert then EventFlags.insert else 0 }) s
  rw [unfolded, presenceAssertion, own]
  simp only [reportsInsert_eq] at told ⊢
  rw [show s.withSlot i ((s.slot i).debounced true) = s.modSlot i (Slot.debounced true) from rfl, told]
  refine if_congr Iff.rfl ?_ rfl
  exact modSlot_modSlot i Slot.inserted (Slot.settling i s.us s.patterns) s

theorem debounceTaken_of_untested_loss (raw : rawInput s i (s.slot i).profile.presenceSource = false)
    (present : (s.slot i).present = true) (untested : (s.slot i).state.testing = false) :
    debounceTaken i s = s.withSlot i (s.slot i).removed := by
  have own : (s.withSlot i ((s.slot i).debounced false)).slot i = (s.slot i).debounced false :=
    (State.withSlot_slot s i i _).trans (if_pos rfl)
  have unfolded : debounceTaken i s = presenceLoss i (s.withSlot i ((s.slot i).debounced false)) := by
    rw [debounceTaken, rawPresence_eq]
    simp only [raw, present, Bool.true_eq_false, Bool.false_eq_true, if_false]
    rfl
  have told := modSlot_modSlot i (Slot.debounced false) (fun x => { x with flags := x.flags |||
    if ((s.slot i).debounced false).profile.presenceEdges.reportsRemove then EventFlags.remove else 0 }) s
  rw [unfolded, presenceLoss, own]
  simp only [reportsRemove_eq] at told ⊢
  rw [show s.withSlot i ((s.slot i).debounced false) = s.modSlot i (Slot.debounced false) from rfl, told]
  refine if_neg ?_
  rw [show ((s.slot i).debounced false).state = (s.slot i).state from rfl, untested]
  exact Bool.false_ne_true

theorem exec_debounceExpiry {e : BitVec 48} (tracked : (s.slot i).tracking = true)
    (running : (s.slot i).debounceTimer = some e) (due : reached s.us e = true) :
    exec (.debounceExpiry i) s = .next (settle (debounceTaken i s)) :=
  if_pos (by simp [debounceDue, tracked, running, timerDue, due])

end

/-- Settles O39: the inputs by the raw input they leave, the expiry by the debounced presence it finds. -/
theorem presenceIsDebounced : Obligations.PresenceIsDebounced := by
  constructor
  · intro i l level s sl raw pin energy
    have energyRuns : exec (.energyDetectChange i l level) s = .next (rawChanged i (rawPresence s i) energy) := rfl
    have pinRuns : exec (.presNChange i level) s = .next (rawChanged i (rawPresence s i) pin) := rfl
    refine ⟨fun other => ?_, fun c t event => ?_⟩
    · rw [energyRuns, rawChanged_eq (s := s) (t := energy) rfl,
        if_pos (.inr (.inr (rawInput_of_energy other level _)))]
    · intro timer
      have changed : exec c s = .next (if s.porst = true ∨ sl.tracking = false ∨ raw t = raw s then t
          else timer (if raw t = sl.present then none
            else some (s.us + BitVec.ofNat 48 (sl.profile.debounce * 1000)))) := by
        obtain ⟨rfl, rfl⟩ | ⟨rfl, rfl⟩ := event
        · rw [pinRuns, rawChanged_eq (s := s) (t := pin) rfl]
          rfl
        · rw [energyRuns, rawChanged_eq (s := s) (t := energy) rfl]
          rfl
      refine ⟨fun idle => ?_, fun tracked released differs => ?_⟩
      · rw [changed, if_pos (by tauto)]
      · rw [changed, if_neg (by simp [tracked, released, differs])]
        exact ⟨fun back => by rw [if_pos back], fun away => by rw [if_neg away]⟩
  · intro i s e sl p tracked running due raw after inserted removed woken
    rw [exec_debounceExpiry tracked running due]
    refine ⟨fun same => ?_, fun asserted absent elsewhere => ?_, fun asserted absent watch => ?_,
      fun lost present untested => ?_⟩
    · rw [debounceTaken_of_same same]
      rfl
    · rw [debounceTaken_of_assertion asserted absent, if_neg elsewhere]
      rfl
    · rw [debounceTaken_of_assertion asserted absent, if_pos watch]
      have woken_eq (l : LaneId) : (if sl.inMask l then (sl.lane l).wake i l p.payload s.patterns else sl.lane l) =
          woken l := Lane.wake_masked (sl.inMask l) i l p.payload s.patterns (sl.lane l)
      have lanes : (sl.inserted.settling i s.us s.patterns).lanes = byLane woken := congrArg byLane (funext woken_eq)
      have settled : sl.inserted.settling i s.us s.patterns =
        { sl.inserted.settling i s.us s.patterns with lanes := byLane woken } := by rw [← lanes]
      rw [settled]
      rfl
    · have free : sl.state.testing = false := by
        obtain h | h | h | h := untested <;> rw [h] <;> rfl
      rw [debounceTaken_of_untested_loss lost present free]
      rfl

/-! ### Entry to DISCOVER (R57, R87, R107, R108, R111) -/

theorem sbJoin_discovery_idle {s : State} (idle : s.sideband.engine.phase = .idle)
    (empty : s.sideband.queue = []) (i : SlotId) : sbJoin (.discovery i) s = { s with sideband :=
      ⟨[.discovery i], { s.sideband.engine with
        phase := .try, txn := .readStart i, tries := 1, speed := lineSpeed s i, wait := none
        abandoned := false, walk := .fresh, result := none }⟩ } := by
  have started : ¬ (s.withSbQueue [.discovery i]).sideband.engine.phase ≠ .idle := not_not_intro idle
  rw [sbJoin, empty, List.nil_append, serve, if_neg started]
  rfl

/-- R57, R87: a slot as it enters DISCOVER. -/
def Slot.discovering (x : Slot) : Slot := { x.mapLanes (fun _ y => y.activate) with
  state := .discover, stateTimer := none, identity := none }

theorem exec_settleExpiry {i : SlotId} {s : State} {e : BitVec 48} (settles : (s.slot i).state = .settle)
    (running : (s.slot i).stateTimer = some e) (due : reached s.us e = true) : exec (.settleExpiry i) s =
      .next (sbJoin (.discovery i) (s.withSlot i (s.slot i).discovering)) :=
  if_pos (by simp [stateTimerDue, settles, running, timerDue, due])

/-- Settles O41: the slot enters DISCOVER, and its entry joins a busy engine's queue or begins its walk. -/
theorem settledSlotsAreDiscovered : Obligations.SettledSlotsAreDiscovered := by
  intro i s e sl settles running due active found after begun
  have found_eq : sl.discovering = found := rfl
  rw [exec_settleExpiry settles running due, found_eq]
  constructor
  · intro busy
    rw [sbJoin_busy (s := s.withSlot i found) busy]
    rfl
  · intro idle empty
    have speed : lineSpeed (s.withSlot i found) i = sl.profile.sidebandSpeed := by
      rw [lineSpeed, State.withSlot_slot, if_pos rfl]
      rfl
    rw [sbJoin_discovery_idle (s := s.withSlot i found) idle empty, speed]
    rfl

end Sys2Proof.Machine
end

section
/-! PROOF. CLEAR (R37, R97): no named slot is refused, and each returns to OFF. -/

namespace Sys2Proof.Machine

open Sys2Proof Sys2Proof.Safety

theorem actClear_accepts {h : BlockHead} {s : State}
    (accepts : ∀ i : SlotId, h.slotMask.getLsbD i.val = true → (s.slot i).state = .off ∨ (s.slot i).state = .done) :
    actClear h s = ({ s with
      slots := Vector.ofFn fun i => if h.slotMask.getLsbD i.val then (s.slot i).clearSlot else s.slot i },
      some ⟨.done, 0, h.slotMask.setWidth 32⟩) := by
  have free : slotsNot SlotState.offOrDone h.slotMask s = [] :=
    slotsNot_eq_nil fun i named => SlotState.offOrDone_iff.2 (accepts i named)
  simp only [actClear, free, conflictAnswer, foldl_modSlot _ _ (slotsOf_nodup _), mem_slotsOf]
  rfl

/-- Settles O27: no named slot is refused, and each is cleared once. -/
theorem clearReturnsTheSlotsToOff : Obligations.ClearReturnsTheSlotsToOff := by
  intro n h s r legal accepts cleared
  have passes : firstFault [zeroFault h, maskFault h] = none := by
    rw [maskFaults_eq r.2.2, badMask_eq_false_iff.2 legal]
    rfl
  have acted := actClear_accepts (s := countTaken s) accepts
  exact congrArg _ (takeExamined_answered (t := { s with
    slots := Vector.ofFn fun i => if h.slotMask.getLsbD i.val then (s.slot i).clearSlot else s.slot i })
    r passes acted)

end Sys2Proof.Machine
end

section
/-! PROOF. The acknowledgement of a record's pieces, and what the publication of the record changes (R90, R165 to
R169, R174). -/

namespace Sys2Proof.Machine

open Sys2Proof Sys2Proof.Safety

/-! ### Publication (R90, R169, R174) -/

theorem evaluate_writer (s : State) : (evaluate s).writer = s.writer := by rw [evaluate_frame]

theorem startWrite_of_not_waiting {s : State} (none : s.writer.waitingSelection = none) : startWrite s = s := by
  simp only [startWrite, none]

/-- R90, R169: of the slots, only that of a VERDICT record changes. -/
theorem publishedSlot_eq (f : InFlight) (s : State) : publishedSlot f s = { s with
    slots := Vector.ofFn fun i : SlotId =>
      if f.source = .slot i ∧ f.kind = .verdict then { s.slot i with state := .done, stateTimer := none }
      else s.slot i } := by
  have same : (Vector.ofFn fun i : SlotId => s.slot i) = s.slots := Vector.ext fun k hk => by simp [State.slot]
  unfold publishedSlot
  split
  · rename_i i source kind
    have slots : (enterDone i s).slots = Vector.ofFn fun j : SlotId =>
        if f.source = .slot j ∧ f.kind = .verdict then { s.slot j with state := .done, stateTimer := none }
        else s.slot j := Vector.ext fun k hk => by
      have own := State.modSlot_slot s i ⟨k, hk⟩ fun sl => { sl with state := .done, stateTimer := none }
      rw [Vector.getElem_ofFn, source, kind]
      refine own.trans ?_
      by_cases e : (⟨k, hk⟩ : SlotId) = i
      · rw [if_pos e, if_pos ⟨by rw [e], rfl⟩, e]
      · rw [if_neg e, if_neg fun h => e (RecSource.slot.inj h.1).symm]
    rw [← slots]
    rfl
  · rename_i other
    have none (i : SlotId) : ¬ (f.source = .slot i ∧ f.kind = .verdict) := fun h => other i h.1 h.2
    simp only [none, if_false, same]

/-- R174: a record joins the list: the timer is set on it where no record in the mask was held. -/
theorem ageFrom_append (mask : BitVec 6) (delay : Nat) (now : BitVec 48) {list : List Published}
    (none : list.filter (fun p => kindInMask mask p.kind) = []) (more : List Published) :
    ageFrom mask delay now (list ++ more) = ageFrom mask delay now more := by
  rw [ageFrom, ageFrom, List.filter_append, none, List.nil_append]

/-- R90, R169, R174: the state with the record in flight `f` published in the ring `r`, before the condition is
evaluated and the writer goes on. -/
def recordPublished (f : InFlight) (r : Ring) (s : State) : State :=
  let entry : Published := { offset := f.offset, length := f.length, kind := f.kind, time := s.us }
  { s with
    slots := Vector.ofFn fun i =>
      if f.source = .slot i ∧ f.kind = .verdict then { s.slot i with state := .done, stateTimer := none }
      else s.slot i
    writer := { s.writer with
      list := s.writer.list ++ [entry], used := s.writer.used + f.length
      write := (s.writer.write + f.length) % r.size, seq := s.writer.seq + 1, inFlight := none }
    attention := { s.attention with
      age := if ∃ p ∈ s.writer.list, kindInMask s.attention.mask p.kind = true then s.attention.age
        else ageFrom s.attention.mask s.attention.delay s.us [entry] } }

theorem publish_eq {f : InFlight} {r : Ring} {s : State} (ring : s.writer.ring = some r) :
    publish f s = settle (startWrite (evaluate (recordPublished f r s))) := by
  have held : (qualifying s).isEmpty = true ↔ ¬ ∃ p ∈ s.writer.list, kindInMask s.attention.mask p.kind = true := by
    simp [qualifying]
  simp only [publish, ring, publishedSlot_eq]
  by_cases some_ : ∃ p ∈ s.writer.list, kindInMask s.attention.mask p.kind = true
  · rw [if_neg fun h => held.1 h some_, recordPublished, if_pos some_]
    rfl
  · have none := List.isEmpty_iff.1 (held.2 some_)
    rw [if_pos (held.2 some_), recordPublished, if_neg some_, resetAge_eq, ← ageFrom_append _ _ _ none]
    rfl

/-- R169: the acknowledgement of a piece of the record in flight. -/
theorem exec_insertAck_piece {s : State} {place : BitVec 8} {e : InsEntry} {f : InFlight}
    (issued : s.path.ins.find? (fun e => e.issued && decide (e.place.val = place.toNat)) = some e)
    (live : e.void = false) (record : e.producer = .record) (flies : s.writer.inFlight = some f)
    (joined : f.joined = some e.place) :
    exec (.insertAck place .ok) s = .next (pieceDone f (s.modPath (leaveQueue e.place))) := by
  have acked : producerAcked .record e.place .ok (s.modPath (leaveQueue e.place)) =
      pieceDone f (s.modPath (leaveQueue e.place)) := by
    simp [producerAcked, recordAcked, flies, joined]
  rw [execInsertAck_of_issued issued, live, record, acked]
  rfl

theorem pieceDone_last {f : InFlight} {last : InsWrite} (one : f.pieces = [last]) (s : State) :
    pieceDone f s = publish f s := by
  simp only [pieceDone, one, List.tail_cons]

theorem pieceDone_more {f : InFlight} {done next : InsWrite} {more : List InsWrite}
    (pieces : f.pieces = done :: next :: more) (s : State) : pieceDone f s = { s with
      writer := { s.writer with inFlight := some { f with pieces := next :: more, joined := none } } } := by
  simp only [pieceDone, pieces, List.tail_cons]
  rfl

/-- R166, R167: the write of a waiting selection that fits starts with RECORD_WRITE_START. -/
theorem exec_recordWriteStart {s : State} {sel : Selection} (waits : s.writer.waitingSelection = some sel)
    (fits : s.writer.fits sel.length = true) : exec .recordWriteStart s = .next (settle (startWrite s)) := by
  simp only [exec, execRecordWriteStart, waits, fits, if_true]

/-- R166: at the start of the ring a selection fits where it is no longer than the free bytes. -/
theorem Writer.fits_at_start {w : Writer} {r : Ring} {len : Nat} (ring : w.ring = some r) (start : w.write = 0)
    (room : len ≤ r.size - w.used) (within : len ≤ r.size) : w.fits len = true := by
  have noPad : w.padNeeded r.size len = false := by simp [Writer.padNeeded, start, within]
  simp [Writer.fits, ring, noPad, room]

/-- Settles O13: the piece is not the last, the last of a record, or that of a PAD. -/
theorem lastPiecePublishes : Obligations.LastPiecePublishes := by
  intro s place e f r ok issued live record flies joined ring path entry published
  have acked := exec_insertAck_piece issued live record flies joined
  have placed := (((ringOk_iff s.writer r).1 (ok.1 r ring)).inFlight f flies)
  have published_eq : recordPublished f r (s.modPath (leaveQueue e.place)) = published := rfl
  have publishes {last : InsWrite} (one : f.pieces = [last]) : exec (.insertAck place .ok) s =
      .next (settle (startWrite (evaluate published))) := by
    rw [acked, pieceDone_last one, publish_eq (s := s.modPath (leaveQueue e.place)) ring, published_eq]
  have waiting : (evaluate published).writer.waitingSelection = s.writer.selection := by
    rw [evaluate_writer]
    rfl
  refine ⟨fun done next more pieces => ?_, fun last one notPad => ?_,
    fun last sel one pad atEnd held room within => ?_⟩
  · rw [acked, pieceDone_more pieces]
    rfl
  · rw [publishes one, startWrite_of_not_waiting (waiting.trans (placed.alone notPad))]
  · have start : published.writer.write = 0 := by
      show (s.writer.write + f.length) % r.size = 0
      rw [← placed.offset, atEnd, Nat.mod_self]
    have fits : (evaluate published).writer.fits sel.length = true := by
      rw [evaluate_writer]
      exact Writer.fits_at_start ring start room within
    exact ⟨start, (publishes one).trans (exec_recordWriteStart (waiting.trans held) fits).symm⟩

end Sys2Proof.Machine
end

section
/-! PROOF. The end of a walk (R86, R89, R108, R114, R115, R119, R120, R122, R125): the findings it adds, the entry
to TRAIN or VERDICT, and the engine passing on. -/

namespace Sys2Proof.Machine

open Sys2Proof Sys2Proof.Safety

/-! ### The expected map and the findings of a plug too narrow (R119, R120, R123, R125) -/

theorem find?_allLanes {p : LaneId → Bool} {k : LaneId} (own : p k = true) (lowest : ∀ j, j < k → ¬ p j = true) :
    allLanes.find? p = some k := by
  simp only [Bool.not_eq_true] at lowest
  fin_cases k
  · simp [allLanes, show p 0 = true from own]
  · simp [allLanes, lowest 0 (by decide), show p 1 = true from own]
  · simp [allLanes, lowest 0 (by decide), lowest 1 (by decide), show p 2 = true from own]
  · simp [allLanes, lowest 0 (by decide), lowest 1 (by decide), lowest 2 (by decide), show p 3 = true from own]

/-- R120: plug lane `k` is used and returns onto receive lane `r`. -/
def LoopMap.returns (m : LoopMap) (plugLanes : Nat) (r k : LaneId) : Bool :=
  (m.lanes[k.val]).present && decide (k.val < plugLanes) && decide ((m.lanes[k.val]).ret = r)

theorem LoopMap.returns_iff {m : LoopMap} {plugLanes : Nat} {r k : LaneId} : m.returns plugLanes r k = true ↔
    (m.lanes[k.val]).present = true ∧ k.val < plugLanes ∧ (m.lanes[k.val]).ret = r := by
  simp [LoopMap.returns, and_assoc]

section
variable {identity : PlugIdentity}

theorem expectLane_unmapped (unmapped : identity.loopMap = none) (i : SlotId) (n : Nat) (r : LaneId) :
    expectLane i (some identity) n r = ⟨some (laneSource i r), .normal⟩ := by
  simp [expectLane, unmapped]

theorem expectLane_of_lowest {m : LoopMap} (map : identity.loopMap = some m) {n : Nat} {r k : LaneId}
    (own : m.returns n r k = true) (lowest : ∀ j, j < k → ¬ m.returns n r j = true) (i : SlotId) :
    expectLane i (some identity) n r =
      ⟨some (laneSource i k), if (m.lanes[k.val]).invert then .inverted else .normal⟩ := by
  have found : allLanes.find? (m.returns n r) = some k := find?_allLanes own lowest
  unfold LoopMap.returns at found
  simp only [expectLane, Option.bind_some, map, found]
  rfl

theorem expectLane_of_unreturned {m : LoopMap} (map : identity.loopMap = some m) {n : Nat} {r : LaneId}
    (unreturned : ∀ k, ¬ m.returns n r k = true) (i : SlotId) :
    expectLane i (some identity) n r = ⟨none, .normal⟩ := by
  have found : allLanes.find? (m.returns n r) = none := List.find?_eq_none.2 fun k _ => unreturned k
  unfold LoopMap.returns at found
  simp only [expectLane, Option.bind_some, map, found]

end

section
variable {i : SlotId} {x : Slot}

theorem Slot.noneCounted_iff : x.noneCounted = true ↔ ∀ l, ¬ x.counted l = true := by
  simp [Slot.noneCounted, mem_allLanes]

theorem wireMap_excluded (uncounted : ∀ l, ¬ x.counted l = true) (l : LaneId) :
    ((wireMap i x)[l.val]).cls = .excluded := by
  rw [wireMap_lane]
  exact wireClass_of_uncounted (uncounted l)

theorem anyUsable_of_excluded {m : Vector WireEntry 4} (excluded : ∀ l : LaneId, (m[l.val]).cls = .excluded) :
    anyUsable m = false := by
  rw [anyUsable_eq_false_iff]
  intro l
  rw [excluded l]
  decide

/-- R125: the findings where no lane is counted. -/
theorem wireFindings_of_uncounted (uncounted : ∀ l, ¬ x.counted l = true) : wireFindings x (wireMap i x) =
    ((allLanes.filter fun l => x.profile.laneMask.getLsbD l.val).map
      fun l => ⟨.plugNarrow, some l, false, x.plugLanes⟩) ++ [⟨.noUsableLane, none, true, 0⟩] := by
  have narrow (l : LaneId) : wireFinding x l ((wireMap i x)[l.val]) =
      if x.profile.laneMask.getLsbD l.val then [⟨.plugNarrow, some l, false, x.plugLanes⟩] else [] := by
    rw [wireFinding_eq, wireMap_excluded uncounted l]
  have lanes (ls : List LaneId) : (ls.flatMap fun l => wireFinding x l ((wireMap i x)[l.val])) =
      (ls.filter fun l => x.profile.laneMask.getLsbD l.val).map
        fun l => ⟨.plugNarrow, some l, false, x.plugLanes⟩ := by
    induction ls with
    | nil => rfl
    | cons l ls ih =>
      rw [List.flatMap_cons, narrow, ih, List.filter_cons]
      split <;> rfl
  rw [wireFindings, lanes, anyUsable_of_excluded (wireMap_excluded uncounted)]
  rfl

end

/-! ### The slot at the end of its walk (R86, R89, R115, R119 to R122) -/

/-- R115: the identity and the findings of a walk applied. -/
def Slot.walked (w : Walk) (x : Slot) : Slot :=
  { x with identity := some w.identity, findings := addFindings x.findings w.findings }

/-- R115, R122: the slot as the end of its walk leaves it. -/
def Slot.walkEnded (now : BitVec 48) (i : SlotId) (intoTrain : Bool) (w : Walk) (x : Slot) : Slot :=
  let y := (x.walked w).training now i
  if intoTrain then if y.noneCounted then (y.mapped i).judged else y else (x.walked w).judged

section
variable {now : BitVec 48} {i : SlotId} {w : Walk} {x : Slot}

theorem Slot.walkEnded_trains (some_ : ¬ ((x.walked w).training now i).noneCounted = true) :
    x.walkEnded now i true w = (x.walked w).training now i := if_neg some_

theorem Slot.walkEnded_uncounted (none : ((x.walked w).training now i).noneCounted = true) :
    x.walkEnded now i true w = (((x.walked w).training now i).mapped i).judged := if_pos none

theorem Slot.walkEnded_state {intoTrain : Bool} : (x.walkEnded now i intoTrain w).state =
    if intoTrain = true ∧ ¬ ((x.walked w).training now i).noneCounted = true then .train else .verdict := by
  cases intoTrain with
  | false => rfl
  | true =>
    by_cases none : ((x.walked w).training now i).noneCounted = true
    · rw [Slot.walkEnded_uncounted none, if_neg fun h => h.2 none]
      rfl
    · rw [Slot.walkEnded_trains none, if_pos ⟨rfl, none⟩]
      rfl

theorem Slot.plugLanes_training : ((x.walked w).training now i).plugLanes =
    match w.identity.plugId with
    | some p => p.laneCount
    | none => 4 := by
  cases plug : w.identity.plugId <;> simp [Slot.training, Slot.walked, plugLaneCount, plug]

/-- R121: the confirmation counts of a slot that entered TRAIN in the same event stay 0. -/
theorem Slot.parkedConfirm_training :
    parkedConfirm (((x.walked w).training now i).mapped i) = Vector.replicate 4 0 := by
  have zeros : (fun l : LaneId => if ((((x.walked w).training now i).mapped i).lane l).power = .parked then
      (((x.walked w).training now i).mapped i).confirm[l.val] else 0) = fun _ => 0 := by
    funext l
    have zero : (((x.walked w).training now i).mapped i).confirm[l.val] = 0 :=
      byLane_getElem (fun _ => 0) l
    rw [zero, ite_self]
  exact congrArg byLane zeros

/-- R89, R119, R125: the slot whose training ends as it begins, no lane being counted. -/
theorem Slot.judged_uncounted (uncounted : ∀ l, ¬ ((x.walked w).training now i).counted l = true) :
    let y := (x.walked w).training now i
    let findings := addFindings y.findings (((allLanes.filter fun l => x.profile.laneMask.getLsbD l.val).map
      fun l => ⟨.plugNarrow, some l, false, y.plugLanes⟩) ++ [⟨.noUsableLane, none, true, 0⟩])
    (y.mapped i).judged = { y with
      wiring := wireMap i y, findings := findings, state := .verdict, stateTimer := none, finals := x.finalLanes
      lanes := parkedLanes x, confirm := Vector.replicate 4 0, verdictPending := true
      outcome := some (composeOutcome x.abortedMark findings) } := by
  intro y findings
  have zeros : parkedConfirm (y.mapped i) = Vector.replicate 4 0 := Slot.parkedConfirm_training
  have found : (y.mapped i).findings = findings :=
    congrArg (addFindings y.findings) (wireFindings_of_uncounted uncounted)
  rw [← zeros, ← found]
  rfl

end

/-! ### The end of a walk in the state (R108, R115) -/

theorem enginePasses_same {s t : State} (engine : t.sideband.engine = s.sideband.engine)
    (speed : trySpeed t = trySpeed s) (q : List SbEntry) : enginePasses t q = enginePasses s q := by
  unfold enginePasses
  rw [engine, speed]

/-- R104: the line speeds depend on the slots' states and profiles only. -/
theorem trySpeed_modSlot {i : SlotId} {f : Slot → Slot} {s : State} (state : (f (s.slot i)).state = (s.slot i).state)
    (profile : (f (s.slot i)).profile = (s.slot i).profile) : trySpeed (s.modSlot i f) = trySpeed s := by
  funext j
  rw [trySpeed, trySpeed, State.modSlot_slot]
  split
  · rename_i e
    rw [state, profile, e]
  · rfl

section
variable {i : SlotId} {rest : List SbEntry} {s : State}

/-- R119 to R122: a slot in neither queue enters TRAIN, or VERDICT where it has no counted lane. -/
theorem toTrain_modSlot {f : Slot → Slot} (unqueued : i ∉ s.scanner.queue) (absent : .discovery i ∉ s.sideband.queue)
    (profile : (f (s.slot i)).profile = (s.slot i).profile) : toTrain i (s.modSlot i f) =
      if ((f (s.slot i)).training s.us i).noneCounted then
        verdictOf i (fun x => ((f x).training s.us i).mapped i) s
      else entered i (fun x => (f x).training s.us i) s.patterns s := by
  have own : (s.modSlot i fun x => (f x).training s.us i).slot i = (f (s.slot i)).training s.us i :=
    (State.modSlot_slot s i i _).trans (if_pos rfl)
  have trains : (s.modSlot i f).modSlot i (Slot.training s.us i) = s.modSlot i fun x => (f x).training s.us i :=
    modSlot_modSlot i f (Slot.training s.us i) s
  have begun : toTrain i (s.modSlot i f) =
      if (((s.modSlot i f).modSlot i (Slot.training s.us i)).slot i).noneCounted then
        endTraining i ((s.modSlot i f).modSlot i (Slot.training s.us i))
      else (s.modSlot i f).modSlot i (Slot.training s.us i) := rfl
  rw [begun, trains, own]
  refine ite_congr rfl (fun none => ?_) fun _ => rfl
  have fails : ((s.modSlot i fun x => (f x).training s.us i).slot i).failsTraining i := by
    rw [own]
    exact .inr (anyUsable_of_excluded (wireMap_excluded (Slot.noneCounted_iff.1 none)))
  rw [endTraining_of_fails fails, modSlot_modSlot, toVerdict_of_absent unqueued absent]
  exact profile

/-- What slot `i` is changed to and the patterns decide the state. -/
theorem entered_congr {f g : Slot → Slot} {p q : Vector Pattern 4} (slot : f (s.slot i) = g (s.slot i))
    (patterns : p = q) : entered i f p s = entered i g q s := by
  unfold entered State.modSlot
  rw [slot, patterns]

/-- R108, R115: the walk's entry leaves the queue and the engine passes on; of the slots only its own changes, and
only an entry to VERDICT releases a claim. -/
theorem walkEnd_eq (queue : s.sideband.queue = .discovery i :: rest) (unqueued : i ∉ s.scanner.queue)
    (absent : .discovery i ∉ rest) (intoTrain : Bool) (w : Walk) : walkEnd i intoTrain w s =
      entered i (Slot.walkEnded s.us i intoTrain w)
        (if ((s.slot i).walkEnded s.us i intoTrain w).state = .verdict then claimReleased s i else s.patterns)
        { s with sideband := ⟨rest, enginePasses s rest⟩ } := by
  let left : State := { s with sideband := ⟨rest, enginePasses s rest⟩ }
  have ended : headEnds (s.modSlot i (Slot.walked w)) = left.modSlot i (Slot.walked w) := by
    have passes : enginePasses (s.modSlot i (Slot.walked w)) rest = enginePasses s rest :=
      enginePasses_same (s := s) (t := s.modSlot i (Slot.walked w)) rfl (trySpeed_modSlot (f := Slot.walked w) rfl rfl) rest
    rw [headEnds_eq, show (s.modSlot i (Slot.walked w)).sideband.queue = .discovery i :: rest from queue,
      List.tail_cons, passes]
    rfl
  have unfolded : walkEnd i intoTrain w s = if intoTrain then toTrain i (headEnds (s.modSlot i (Slot.walked w)))
      else toVerdict i (headEnds (s.modSlot i (Slot.walked w))) := rfl
  rw [unfolded, ended]
  cases intoTrain with
  | false =>
    refine (toVerdict_of_absent (s := left) (f := Slot.walked w) unqueued absent rfl).trans ?_
    exact entered_congr (s := left) rfl (if_pos rfl).symm
  | true =>
    refine (toTrain_modSlot (s := left) (f := Slot.walked w) unqueued absent rfl).trans ?_
    by_cases none : (((s.slot i).walked w).training s.us i).noneCounted = true
    · have ends := Slot.walkEnded_uncounted none
      exact (if_pos none).trans (entered_congr (s := left) ends.symm (if_pos (by rw [ends]; rfl)).symm)
    · have ends := Slot.walkEnded_trains none
      exact (if_neg none).trans (entered_congr (s := left) ends.symm (if_neg (by rw [ends]; nofun)).symm)

/-! ### The event that ends a walk (R103, R105, R114, R115) -/

theorem exec_plugSettleExpiry_walk {e : BitVec 48} (queue : s.sideband.queue = .discovery i :: rest)
    (settling : s.sideband.engine.phase = .plugSettle) (waits : s.sideband.engine.wait = some e)
    (due : reached s.us e = true) :
    exec .plugSettleExpiry s = .next (settle (walkEnd i true s.sideband.engine.walk s)) := by
  have waited : waitDue s .plugSettle = true := by simp [waitDue, settling, waits, timerDue, due]
  have ended : plugSettled s = walkEnd i true s.sideband.engine.walk s := by simp only [plugSettled, queue]
  rw [← ended]
  exact if_pos waited

theorem exec_tryEnd_walk {r : TryResult} {result : TxnResult} {intoTrain : Bool} {w : Walk}
    (queue : s.sideband.queue = .discovery i :: rest) (trying : s.sideband.engine.phase = .try)
    (inService : s.sideband.engine.abandoned = false)
    (ends : endsTxn s.sideband.engine.txn s.sideband.engine.tries r result)
    (finishes : s.sideband.engine.walk.next (s.slot i).profile.plugPolicy
      (Config.findingValue s.freeCount).toNat result = .finish intoTrain w) :
    exec (.tryEnd r) s = .next (settle (walkEnd i intoTrain w
      { lineUsed (s.sideband.engine.txn.sent r) s with freeCount := s.freeCount + 1 })) := by
  let t := lineUsed (s.sideband.engine.txn.sent r) s
  have ended : txnEnd result t = walkGoesOn i result t := by
    have inService' : t.sideband.engine.abandoned = false := inService
    have queue' : t.sideband.queue = .discovery i :: rest := queue
    simp only [txnEnd, inService', queue', Bool.false_eq_true, if_false]
  have finishes' : t.sideband.engine.walk.next (t.slot i).profile.plugPolicy
    (Config.findingValue t.freeCount).toNat result = .finish intoTrain w := finishes
  rw [execTryEnd_of_endsTxn s r result trying inService ends, ended, walkGoesOn]
  simp only [finishes']
  rfl

end

/-- The end of an event after which the slots, the claims, the Sideband Controller and the count of free values are
as given. -/
theorem settle_frame {s v : State} {patterns : Vector Pattern 4} {slots : Vector Slot 12} {sideband : Sideband}
    {freeCount : Nat} (ended : v = { s with
      patterns := patterns, slots := slots, sideband := sideband, freeCount := freeCount }) : settle v = { s with
        patterns := patterns, slots := (settle v).slots, sideband := sideband, freeCount := freeCount
        writer := { s.writer with
          selection := (settle v).writer.selection, lastSource := (settle v).writer.lastSource }
        attention := { s.attention with
          condition := (settle v).attention.condition, count := (settle v).attention.count,
          waiting := (settle v).attention.waiting } } := by
  have settled : SameButSettled v (settle v) := settle_settled v
  refine Eq.trans settled ?_
  rw [settle_slots, ended]

/-- R85, R107: the slot of the entry at the head of the Sideband Queue is not in the Scan Queue and has no other
entry. -/
theorem SlotsOk.walking {s : State} {i : SlotId} {rest : List SbEntry} (ok : SlotsOk s)
    (queue : s.sideband.queue = .discovery i :: rest) : i ∉ s.scanner.queue ∧ .discovery i ∉ rest := by
  obtain ⟨-, inScan, once, inDiscover, -⟩ := ok
  have discover := inDiscover i (by rw [queue]; exact List.mem_cons_self)
  refine ⟨fun h => SlotState.noConfusion (discover.symm.trans ((inScan i).1 h)), ?_⟩
  have one := once i
  rw [queue, List.count_cons_self] at one
  exact List.count_eq_zero.1 (by omega)

/-- Settles O46: both events end the walk of the slot at the queue's head, which enters TRAIN or VERDICT. -/
theorem walksEndTheDiscovery : Obligations.WalksEndTheDiscovery := by
  intro i s rest c intoTrain w line ok queue g sl event count counted applied verdict
  obtain ⟨unqueued, absent⟩ := SlotsOk.walking ok queue
  let t : State := { s with
    sideband := ⟨s.sideband.queue, { g with line := line }⟩
    freeCount := if c = .plugSettleExpiry then s.freeCount else s.freeCount + 1 }
  have taken : exec c s = .next (settle (walkEnd i intoTrain w t)) := by
    obtain ⟨rfl, settling, ⟨e, waits, due⟩, rfl, rfl, rfl⟩ |
      ⟨r, result, rfl, trying, inService, ends, finishes, rfl⟩ := event
    · exact exec_plugSettleExpiry_walk queue settling waits due
    · exact exec_tryEnd_walk queue trying inService ends finishes
  let y := sl.walkEnded s.us i intoTrain w
  let patterns := if y.state = .verdict then claimReleased s i else s.patterns
  have ended : walkEnd i intoTrain w t = entered i (fun _ => y) patterns
      { t with sideband := ⟨rest, { enginePasses s rest with line := line }⟩ } := by
    have passes : enginePasses t rest = { enginePasses s rest with line := line } := enginePasses_line s line rest _
    rw [walkEnd_eq (s := t) queue unqueued absent, passes]
    rfl
  have slot (j : SlotId) : (settle (walkEnd i intoTrain w t)).slot j = if j = i then y else s.slot j := by
    rw [settle_slot, ended]
    exact entered_slot i j _ _ _
  have own := (slot i).trans (if_pos rfl)
  let z := (sl.walked w).training s.us i
  have count_eq : z.plugLanes = count := Slot.plugLanes_training
  have expects (r : LaneId) : z.expected[r.val] = expectLane i (some w.identity) count r := by
    rw [← count_eq]
    exact byLane_getElem _ r
  have isCounted (l : LaneId) : z.counted l = true ↔ counted l := by
    rw [Slot.counted_iff, count_eq]
    rfl
  have noneCounted : z.noneCounted = true ↔ ¬ ∃ l, counted l := by
    simp only [Slot.noneCounted_iff, isCounted, not_exists]
  have trains (into : intoTrain = true) (some_ : ∃ l, counted l) : y = z := by
    subst into
    exact Slot.walkEnded_trains fun none => noneCounted.1 none some_
  have narrows (into : intoTrain = true) (none : ¬ ∃ l, counted l) : y = (z.mapped i).judged := by
    subst into
    exact Slot.walkEnded_uncounted (noneCounted.2 none)
  have goesOn_iff : (intoTrain = true ∧ ¬ z.noneCounted = true) ↔ intoTrain = true ∧ ∃ l, counted l := by
    rw [noneCounted, not_not]
  have state : y.state = if intoTrain = true ∧ ∃ l, counted l then .train else .verdict :=
    Slot.walkEnded_state.trans (if_congr goesOn_iff rfl rfl)
  have claims : patterns = if intoTrain = true ∧ ∃ l, counted l then s.patterns else claimReleased s i := by
    by_cases goesOn : intoTrain = true ∧ ∃ l, counted l
    · exact (if_neg (by rw [state, if_pos goesOn]; nofun)).trans (if_pos goesOn).symm
    · exact (if_pos (by rw [state, if_neg goesOn])).trans (if_neg goesOn).symm
  refine ⟨_, taken, fun into => ?_, fun into some_ => ⟨z.expected, ?_, fun r => ⟨fun unmapped => ?_, ?_⟩⟩, ?_,
    fun j other => (slot j).trans (if_neg other), (congrArg Slot.state own).trans state, ?_⟩
  · subst into
    exact own
  · rw [own, trains into some_, ← count_eq]
    rfl
  · rw [expects]
    exact expectLane_unmapped unmapped i count r
  · intro m map returns
    have isReturned (k : LaneId) : m.returns count r k = true ↔ returns k := LoopMap.returns_iff
    rw [expects]
    exact ⟨fun k own lowest => expectLane_of_lowest map ((isReturned k).2 own)
        (fun j below => mt (isReturned j).1 (lowest j below)) i,
      fun none => expectLane_of_unreturned map (fun k => mt (isReturned k).1 (none k)) i⟩
  · intro into none narrow v
    have uncounted (l : LaneId) : ¬ z.counted l = true := mt (isCounted l).1 (none l)
    have v_eq : v = (z.mapped i).judged := own.trans (narrows into (not_exists.2 none))
    clear_value v
    subst v_eq
    refine ⟨(Slot.judged_uncounted uncounted).trans ?_, wireMap_excluded uncounted⟩
    rw [count_eq]
    rfl
  · rw [← claims]
    exact settle_frame ended

end Sys2Proof.Machine
end

section
/-! PROOF. What stands on a sideband line (R102 to R106): the sequences of a try for each of its ends, their framing
on the two wires, the wait after an address NAK, and the STOP of an abandoned try or recovery. -/

namespace Sys2Proof.Machine

open Sys2Proof Sys2Proof.Safety

/-! ### The sequences of a try (R103, R105) -/

/-- R103: the items before the data of a write and before the repeated START of a read. -/
def Txn.addressed (t : Txn) : List LineItem := [.start, .send 0x58, .send (BitVec.ofNat 8 t.offset)]

/-- R103: the items before the bytes of a read. -/
def Txn.turned (t : Txn) : List LineItem := t.addressed ++ [.repeatedStart, .send 0x59]

/-- R103: the bytes that a read receives. -/
def Txn.received (t : Txn) : List LineItem := (List.range t.count).map fun k => .receive (decide (k + 1 = t.count))

section
variable {t : Txn}

theorem Txn.sequence_of_read (read : t.direction = .read) : t.sequence = t.turned ++ t.received ++ [.stop] := by
  simp only [Txn.sequence, read]
  rfl

theorem Txn.sequence_of_write (write : t.direction = .write) :
    t.sequence = t.addressed ++ (t.data.take t.count).map .send ++ [.stop] := by
  simp only [Txn.sequence, write]
  rfl

/-- R105: of bytes sent one after another, those up to and with the `k`-th. -/
theorem throughSend_map_send (rest : List LineItem) (bytes : List Byte) {k : Nat} (inside : k < bytes.length) :
    throughSend k (bytes.map .send ++ rest) = (bytes.take (k + 1)).map .send := by
  induction bytes generalizing k with
  | nil => simp at inside
  | cons b bytes ih =>
    cases k with
    | zero => rfl
    | succ k => exact congrArg (LineItem.send b :: ·) (ih (by simpa using inside))

theorem Txn.cutAt_zero : t.cutAt 0 = [.start, .send 0x58, .stop] := by
  cases direction : t.direction <;> simp only [Txn.cutAt, Txn.sequence, direction] <;> rfl

theorem Txn.cutAt_one : t.cutAt 1 = t.addressed ++ [.stop] := by
  cases direction : t.direction <;> simp only [Txn.cutAt, Txn.sequence, direction] <;> rfl

theorem Txn.cutAt_two (read : t.direction = .read) : t.cutAt 2 = t.turned ++ [.stop] := by
  rw [Txn.cutAt, Txn.sequence_of_read read]
  rfl

/-- R105: a NAK of data byte `k` of a write: the bytes up to and with it have been sent. -/
theorem Txn.cutAt_data (write : t.direction = .write) {k : Nat} (sends : k < t.count)
    (stored : t.count ≤ t.data.length) :
    t.cutAt (2 + k) = t.addressed ++ (t.data.take (k + 1)).map .send ++ [.stop] := by
  have through : throughSend (2 + k) t.sequence =
      t.addressed ++ throughSend k ((t.data.take t.count).map .send ++ [.stop]) := by
    rw [Txn.sequence_of_write write, Nat.add_comm]
    rfl
  rw [Txn.cutAt, through, throughSend_map_send _ _ (by simp; omega), List.take_take, Nat.min_eq_left sends]

end

/-- R103, R105: however a try ends, the last it sends is a STOP. -/
theorem Txn.sent_ends_with_stop (t : Txn) (r : TryResult) : ∃ items, t.sent r = items ++ [.stop] := by
  cases r with
  | success bytes =>
    cases direction : t.direction with
    | read => exact ⟨_, Txn.sequence_of_read direction⟩
    | write => exact ⟨_, Txn.sequence_of_write direction⟩
  | addressNak byte => exact ⟨_, rfl⟩
  | dataNak acked => exact ⟨_, rfl⟩

/-! ### Clock periods (R102, R103, R106) -/

theorem linePeriods_append (a b : List LineItem) : linePeriods (a ++ b) = linePeriods a + linePeriods b := by
  simp [linePeriods]

/-- R102: items of `p` periods each. -/
theorem linePeriods_map {α : Type} {f : α → LineItem} {p : Nat} (each : ∀ x, (f x).periods = p) (xs : List α) :
    linePeriods (xs.map f) = p * xs.length := by
  have all : (xs.map f).map LineItem.periods = List.replicate xs.length p :=
    List.eq_replicate_iff.2 ⟨by simp, by simp [each]⟩
  rw [linePeriods, all, List.sum_replicate, smul_eq_mul, Nat.mul_comm]

theorem linePeriods_read {t : Txn} (read : t.direction = .read) : linePeriods t.sequence = 30 + 9 * t.count := by
  have bytes : linePeriods t.received = 9 * t.count :=
    (linePeriods_map (p := 9) (fun _ => rfl) _).trans (by rw [List.length_range])
  have turned : linePeriods t.turned = 29 := rfl
  have stop : linePeriods [.stop] = 1 := rfl
  rw [Txn.sequence_of_read read, linePeriods_append, linePeriods_append, bytes, turned, stop]
  omega

theorem linePeriods_write {t : Txn} (write : t.direction = .write) (stored : t.count ≤ t.data.length) :
    linePeriods t.sequence = 20 + 9 * t.count := by
  have bytes : linePeriods ((t.data.take t.count).map .send) = 9 * t.count :=
    (linePeriods_map (p := 9) (fun _ => rfl) _).trans (by rw [List.length_take_of_le stored])
  have addressed : linePeriods t.addressed = 19 := rfl
  have stop : linePeriods [.stop] = 1 := rfl
  rw [Txn.sequence_of_write write, linePeriods_append, linePeriods_append, bytes, addressed, stop]
  omega

/-! ### The wires at each move (R102) -/

/-- Each of the moves, made from the wires `w` on, meets `P` with the wires it finds. -/
def EachMove (P : LineMove → Wires → Prop) : Wires → List LineMove → Prop
  | _, [] => True
  | w, m :: rest => P m w ∧ EachMove P (m.apply w) rest

section
variable {P : LineMove → Wires → Prop}

theorem EachMove.append {a b : List LineMove} {w : Wires} (first : EachMove P w a)
    (second : EachMove P (w.after a) b) : EachMove P w (a ++ b) := by
  induction a generalizing w with
  | nil => exact second
  | cons m a ih => exact ⟨first.1, ih first.2 second⟩

/-- A move in the midst of others finds the wires as those before it left them. -/
theorem EachMove.at_move {before rest : List LineMove} {m : LineMove} {w : Wires}
    (all : EachMove P w (before ++ m :: rest)) : P m (w.after before) := by
  induction before generalizing w with
  | nil => exact all.1
  | cons m' before ih => exact ih all.2

/-- Runs of moves that each start and end with the wires in `I`. -/
theorem eachMove_flatMap {α : Type} {f : α → List LineMove} {I : Wires → Prop}
    (run : ∀ x w, I w → EachMove P w (f x) ∧ I (w.after (f x))) (xs : List α) {w : Wires} (start : I w) :
    EachMove P w (xs.flatMap f) ∧ I (w.after (xs.flatMap f)) := by
  induction xs generalizing w with
  | nil => exact ⟨trivial, start⟩
  | cons x xs ih =>
    obtain ⟨first, between⟩ := run x w start
    obtain ⟨others, last⟩ := ih between
    rw [List.flatMap_cons, Wires.after_append]
    exact ⟨first.append others, last⟩

end

/-- R102, R106: SBD is sampled while SBC is released, and needed high while both wires are. -/
def SampledHigh (m : LineMove) (w : Wires) : Prop :=
  (m = .sample → w.sbc = .released) ∧ (m = .needData → w = ⟨.released, .released⟩)

/-- R102: within a byte SBD moves while SBC is low. -/
def MovedLow (m : LineMove) (w : Wires) : Prop := m = .pullData ∨ m = .releaseData → w.sbc = .low

theorem clockBit_sampledHigh (b : Bool) (w : Wires) : EachMove SampledHigh w (clockBit b) := by
  cases b <;> simp [clockBit, setData, EachMove, SampledHigh, LineMove.apply]

theorem clockBit_movedLow (b : Bool) (w : Wires) (low : w.sbc = .low) :
    EachMove MovedLow w (clockBit b) ∧ (w.after (clockBit b)).sbc = .low := by
  cases b <;> simp [clockBit, setData, EachMove, MovedLow, LineMove.apply, Wires.after, low]

/-- R102: the nine clocks of a byte sent. -/
theorem LineItem.moves_send (b : Byte) : LineItem.moves (.send b) = (bitsOf b ++ [true]).flatMap clockBit := by
  simp [LineItem.moves]

/-- R102: the nine clocks of a byte received. -/
theorem LineItem.moves_receive (last : Bool) :
    LineItem.moves (.receive last) = (List.replicate 8 true ++ [last]).flatMap clockBit := by
  simp only [LineItem.moves, List.flatMap_append, List.flatMap_singleton]

/-- R102, R106: whatever the wires were, an item samples and needs SBD as it must. -/
theorem LineItem.moves_sampledHigh (item : LineItem) (w : Wires) : EachMove SampledHigh w item.moves := by
  have bits (bits : List Bool) : EachMove SampledHigh w (bits.flatMap clockBit) :=
    (eachMove_flatMap (I := fun _ => True) (fun b w _ => ⟨clockBit_sampledHigh b w, trivial⟩) bits trivial).1
  cases item with
  | send b =>
    rw [LineItem.moves_send]
    exact bits _
  | receive last =>
    rw [LineItem.moves_receive]
    exact bits _
  | start | repeatedStart | stop | releaseData | clockPulse =>
    simp [LineItem.moves, EachMove, SampledHigh, LineMove.apply]

theorem lineMoves_sampledHigh (items : List LineItem) (w : Wires) : EachMove SampledHigh w (lineMoves items) :=
  (eachMove_flatMap (I := fun _ => True) (fun item w _ => ⟨item.moves_sampledHigh w, trivial⟩) items trivial).1

/-- R102: a sequence that ends with a STOP leaves both wires released. -/
theorem after_lineMoves_stop (items : List LineItem) (w : Wires) : w.after (lineMoves (items ++ [.stop])) = .idle := by
  simp [lineMoves]

/-! ### The bits of a byte (R102) -/

/-- R102: what the part does with SBD for a bit. -/
def driveOf (high : Bool) : Drive := if high then .released else .low

theorem sampledDrives_append (a b : List LineMove) (w : Wires) :
    sampledDrives w (a ++ b) = sampledDrives w a ++ sampledDrives (w.after a) b := by
  induction a generalizing w with
  | nil => rfl
  | cons m a ih => simp only [List.cons_append, sampledDrives, ih, List.append_assoc]; rfl

theorem sampledDrives_clockBits (bits : List Bool) (w : Wires) :
    sampledDrives w (bits.flatMap clockBit) = bits.map driveOf := by
  induction bits generalizing w with
  | nil => rfl
  | cons b bits ih =>
    have first : sampledDrives w (clockBit b) = [driveOf b] := by cases b <;> rfl
    rw [List.flatMap_cons, sampledDrives_append, first, ih]
    rfl

/-- R102: most significant bit first. -/
theorem bitsOf_eq (b : Byte) : bitsOf b = (List.range 8).map b.getMsbD := by
  simp [bitsOf, List.range_succ, BitVec.getMsbD]

/-! ### The STOP of an abandoned try or recovery (R109, R110) -/

theorem engineFree_withLine (line : Option LineUse) (s : State) : engineFree (withLine line s) =
    { s with sideband := ⟨s.sideband.queue, { enginePasses s s.sideband.queue with line := line }⟩ } := by
  rw [engineFree_eq, withLine]
  simp only [enginePasses_line]

theorem txnEnd_abandoned (r : TxnResult) {s : State} (abandoned : s.sideband.engine.abandoned = true) :
    txnEnd r s = engineFree s := if_pos abandoned

theorem tryResult_abandoned (r : TryResult) {s : State} (abandoned : s.sideband.engine.abandoned = true) :
    tryResult r s = engineFree s := by
  cases r with
  | success bytes => exact txnEnd_abandoned _ abandoned
  | addressNak byte => exact if_pos abandoned
  | dataNak acked => exact txnEnd_abandoned _ abandoned

theorem exec_tryEnd_possible {s : State} {r : TryResult} (trying : s.sideband.engine.phase = .try)
    (possible : resultPossible s.sideband.engine.txn r = true) : exec (.tryEnd r) s =
      .next (settle (tryResult r (lineUsed (s.sideband.engine.txn.sent r) s))) := if_pos ⟨trying, possible⟩

theorem exec_recoveryEnd {s : State} (recovers : s.sideband.engine.phase = .recovery) : exec .recoveryEnd s =
    .next (settle (txnEnd (.stuck s.sideband.engine.cause) (lineUsed recoverySequence s))) := if_pos recovers

theorem exec_clockHeldLow_recovery {s : State} (recovers : s.sideband.engine.phase = .recovery) :
    exec .clockHeldLow s = .next (settle (txnEnd (.stuck s.sideband.engine.cause) s)) := by
  simp only [exec, execClockHeldLow, recovers]
  rfl

/-- R108: the line that is driven is that of the transaction. -/
theorem lineDriven_slot {s : State} {i : SlotId} (driven : lineDriven s i ≠ none) :
    s.sideband.engine.txn.slot = i := by
  by_contra other
  exact driven (if_neg other)

/-- Settles O43: the sequences by the direction and the end of the try, the wires by the moves of each item, and the
abandoned entry by the STOP that frees the engine. -/
theorem triesAreFramed : Obligations.TriesAreFramed := by
  refine ⟨?_, ⟨rfl, rfl, after_lineMoves_stop (.releaseData :: List.replicate 9 .clockPulse)⟩, ?_, ?_,
    fun s i j first second => (lineDriven_slot first).symm.trans (lineDriven_slot second), ?_⟩
  · intro t offset data addressed turned received
    refine ⟨Txn.cutAt_zero, Txn.cutAt_one, fun read => ?_, fun write stored => ?_⟩
    · exact ⟨Txn.cutAt_two read, fun _ => Txn.sequence_of_read read, fun _ => linePeriods_read read⟩
    · exact ⟨fun _ => Txn.sequence_of_write write, fun _ => linePeriods_write write stored,
        fun _ sends => Txn.cutAt_data write sends stored⟩
  · refine fun t r => ⟨?_, fun before m rest moves => ?_⟩
    · obtain ⟨items, ends⟩ := t.sent_ends_with_stop r
      rw [ends]
      exact after_lineMoves_stop items _
    · have all := lineMoves_sampledHigh (t.sent r) .idle
      rw [moves] at all
      exact all.at_move
  · intro b last w low drive
    refine ⟨?_, ?_, fun item listed before m rest moves => ?_⟩
    · rw [LineItem.moves_send, sampledDrives_clockBits, bitsOf_eq, List.map_append, List.map_map]
      rfl
    · rw [LineItem.moves_receive, sampledDrives_clockBits]
      rfl
    · obtain ⟨bits, ofBits⟩ : ∃ bits : List Bool, item.moves = bits.flatMap clockBit := by
        obtain rfl | rfl : item = .send b ∨ item = .receive last := by simpa using listed
        · exact ⟨_, LineItem.moves_send b⟩
        · exact ⟨_, LineItem.moves_receive last⟩
      have all := (eachMove_flatMap clockBit_movedLow bits low).1
      rw [← ofBits, moves] at all
      exact all.at_move
  · intro s g freed abandoned
    refine ⟨fun r trying possible => ?_, fun recovers => ⟨?_, ?_⟩⟩
    · rw [exec_tryEnd_possible trying possible, tryResult_abandoned (s := lineUsed _ s) r abandoned]
      exact congrArg (fun u => Host.Outcome.next (settle u)) (engineFree_withLine _ s)
    · rw [exec_recoveryEnd recovers, txnEnd_abandoned (s := lineUsed _ s) _ abandoned]
      exact congrArg (fun u => Host.Outcome.next (settle u)) (engineFree_withLine _ s)
    · rw [exec_clockHeldLow_recovery recovers, txnEnd_abandoned _ abandoned, engineFree_eq]

/-! ### The wait after an address NAK (R104, R105) -/

theorem tryFailed_early {s : State} (inService : s.sideband.engine.abandoned = false)
    (few : s.sideband.engine.tries < 3) : tryFailed s = s.withEngine { s.sideband.engine with
      phase := .retryWait, wait := timerAfter s.us 1000 } := by
  simp only [tryFailed, inService, Bool.false_eq_true, if_false, if_pos few]

theorem waitDue_iff {s : State} {phase : Phase} : waitDue s phase = true ↔
    s.sideband.engine.phase = phase ∧ ∃ e, s.sideband.engine.wait = some e ∧ reached s.us e = true := by
  cases wait : s.sideband.engine.wait <;> simp [waitDue, timerDue, wait]

/-- Settles O42: what an address NAK leaves on the line is the sequence cut at that byte. -/
theorem addressNaksAreRetried : Obligations.AddressNaksAreRetried := by
  refine ⟨?_, ?_⟩
  · intro s byte g offset items trying inService few sends
    have possible : resultPossible g.txn (.addressNak byte) = true := by
      simpa only [resultPossible, Bool.or_eq_true, decide_eq_true_eq] using sends
    have sent : g.txn.sent (.addressNak byte) = items := by
      fin_cases byte
      · exact Txn.cutAt_zero
      · exact Txn.cutAt_one
      · exact Txn.cutAt_two (sends.resolve_right (by decide))
    rw [exec_tryEnd_possible trying possible, sent, tryResult, tryFailed_early (s := lineUsed items s) inService few]
    rfl
  · intro s e g waits wait due speed
    exact if_pos (waitDue_iff.2 ⟨waits, e, wait, due⟩)

end Sys2Proof.Machine
end

section
/-! PROOF. What a walk does with the result of each transaction (R111 to R114), that it goes forward through the
plug's bytes, and its end on a stuck line (R106, R115). -/

namespace Sys2Proof.Machine

open Sys2Proof Sys2Proof.Safety

/-! ### The steps of the walk as the rules say them (R111 to R114) -/

/-- R111: the policy decides whether the finding fails and whether the slot trains. -/
theorem Walk.noChain_eq (w : Walk) (policy : PlugPolicy) (code : FindingCode) (value : Nat) :
    w.noChain policy code value = .finish (decide (policy = .acceptAnonymous))
      (w.note code (decide (policy = .requireDescriptor)) value) := by
  cases policy <;> rfl

/-- R112 steps 1 to 3. -/
theorem Walk.chainAt_eq (w : Walk) (o : Nat) : w.chainAt o =
    if 16 ≤ w.identity.descriptors ∨ 256 < o + 4 then w.failWith .chainBad o
    else .transact .read o 4 [] { w with stage := .head o } := by
  by_cases full : 16 ≤ w.identity.descriptors <;> simp [Walk.chainAt, full]

/-- R112 step 7, R114. -/
theorem Walk.onward_eq (w : Walk) (policy : PlugPolicy) (next : Nat) : w.onward policy next =
    if next ≠ 0 then w.chainAt next
    else if w.identity.plugId ≠ none then w.closeLoop
    else if policy = .requireDescriptor then w.failWith .plugUnknown 0
    else (w.note .plugAnonymous false 0).closeLoop := by
  by_cases last : next = 0
  · cases plug : w.identity.plugId with
    | some p => simp [Walk.onward, Walk.chainDone, last, plug]
    | none => cases policy <;> simp [Walk.onward, Walk.chainDone, last, plug]
  · simp [Walk.onward, last]

section
variable {w : Walk} {policy : PlugPolicy} {free : Nat} {bytes : List Byte}

theorem Walk.next_start (start : w.stage = .start) : w.next policy free (.success bytes) =
    if byteAt bytes 0 = 0 then w.noChain policy .plugAnonymous free else w.chainAt (byteAt bytes 0) := by
  simp only [Walk.next, start]

theorem Walk.next_head {o : Nat} (head : w.stage = .head o) :
    w.next policy free (.success bytes) = w.afterHead policy o bytes := by
  simp only [Walk.next, head]

theorem Walk.next_payload {o type next length : Nat} {flags : Byte}
    (payload : w.stage = .payload o type next length flags) :
    w.next policy free (.success bytes) = w.afterPayload policy o type next length flags bytes := by
  simp only [Walk.next, payload]

theorem Walk.next_loopWrite {m : LoopMap} (wrote : w.stage = .loopWrite) (map : w.identity.loopMap = some m) :
    w.next policy free (.success bytes) =
      if m.settle = 0 then .finish true w else .settle m.settle { w with stage := .settling } := by
  simp only [Walk.next, wrote, map, Option.map_some, Option.getD_some]

/-- R103, R111 to R114: the four ends of a walk whose transaction is answered NAK. -/
theorem Walk.next_nak {result : TxnResult} (nak : result = .nakAddress ∨ ∃ k, result = .nakData k) :
    w.next policy free result = match w.stage with
      | .start => w.noChain policy .plugSilent 0
      | .head o => w.failWith .descriptorNak o
      | .payload o .. => w.failWith .descriptorNak (o + 4)
      | .loopWrite | .settling =>
        w.failWith .loopCloseFailed ((w.identity.loopMap.map LoopMap.control).getD 0) := by
  obtain rfl | ⟨k, rfl⟩ := nak <;> rfl

end

/-! ### A head and a payload (R112, R113) -/

/-- R112 step 4: the walk with one more descriptor read. -/
def Walk.counted (w : Walk) : Walk :=
  { w with identity := { w.identity with descriptors := w.identity.descriptors + 1 } }

/-- R112 steps 4 and 5: the head read at `o` does not lead forward within the 256 bytes. -/
def headBad (o : Nat) (bytes : List Byte) : Prop :=
  32 < byteAt bytes 2 ∨ 256 < o + 4 + byteAt bytes 2 ∨
    (byteAt bytes 1 ≠ 0 ∧ byteAt bytes 1 < o + 4 + byteAt bytes 2)

section
variable {w : Walk} {policy : PlugPolicy} {o : Nat} {bytes : List Byte}

theorem Walk.afterHead_fails (bad : headBad o bytes ∨ byteAt bytes 2 < payloadBytes w.identity (byteAt bytes 0)) :
    w.afterHead policy o bytes = w.counted.failWith .chainBad o := by
  by_cases long : 32 < byteAt bytes 2 ∨ 256 < o + 4 + byteAt bytes 2
  · exact if_pos long
  refine (if_neg long).trans ?_
  by_cases back : byteAt bytes 1 ≠ 0 ∧ byteAt bytes 1 < o + 4 + byteAt bytes 2
  · exact if_pos back
  refine (if_neg back).trans ?_
  have short : byteAt bytes 2 < payloadBytes w.identity (byteAt bytes 0) :=
    bad.resolve_left fun h => h.elim (long ∘ .inl) fun h => h.elim (long ∘ .inr) back
  exact (if_neg (Nat.ne_zero_of_lt short)).trans (if_pos short)

theorem Walk.afterHead_of_good (good : ¬ headBad o bytes) : w.afterHead policy o bytes =
    let n := payloadBytes w.identity (byteAt bytes 0)
    if n = 0 then w.counted.onward policy (byteAt bytes 1)
    else if byteAt bytes 2 < n then w.counted.failWith .chainBad o
    else .transact .read (o + 4) n [] { w.counted with
      stage := .payload o (byteAt bytes 0) (byteAt bytes 1) (byteAt bytes 2) (bytes.getD 3 0) } :=
  (if_neg fun long => good (long.elim .inl (.inr ∘ .inl))).trans (if_neg fun back => good (.inr (.inr back)))

end

theorem blockField_succ (bytes : List Byte) (k n : Nat) :
    blockField bytes k (n + 1) = byteAt bytes k + 256 * blockField bytes (k + 1) n := by
  unfold blockField byteAt
  by_cases inside : k < bytes.length
  · rw [List.drop_eq_getElem_cons inside, List.take_succ_cons, leNat, List.getD_eq_getElem _ _ inside]
  · have outside : bytes.length ≤ k := by omega
    simp [List.drop_eq_nil_of_le outside, List.drop_eq_nil_of_le (Nat.le_succ_of_le outside), outside, leNat]

/-- R113: a PLUG_ID, its fields little-endian. -/
theorem PlugId.ofBytes_eq (bytes : List Byte) (flags : Byte) : PlugId.ofBytes bytes flags =
    ⟨BitVec.ofNat 16 (byteAt bytes 0 + 256 * byteAt bytes 1), bytes.getD 2 0,
      BitVec.ofNat 32 (byteAt bytes 3 + 256 * (byteAt bytes 4 + 256 * (byteAt bytes 5 + 256 * byteAt bytes 6))),
      byteAt bytes 7, flags⟩ := by
  have empty (k : Nat) : blockField bytes k 0 = 0 := by simp [blockField, leNat]
  simp only [PlugId.ofBytes, blockField_succ, empty, Nat.mul_zero, Nat.add_zero]

/-! ### The walk goes forward (R111 to R114) -/

/-- R112 to R114: the transaction with which the walk `w` goes on as `w'`: a read of 4 bytes at `from_` or beyond for
a head, one of the payload behind the head just read, or the write that closes the loop. -/
def Walk.GoesForward (w w' : Walk) (direction : Direction) (offset count : Nat) (data : List Byte) (from_ : Nat) :
    Prop :=
  (direction = .read → data = [] ∧ offset + count ≤ 256 ∧
    (w'.stage = .head offset ∧ count = 4 ∧ from_ ≤ offset ∧ w'.identity.descriptors < 16 ∨
      ∃ o type next length flags, w'.stage = .payload o type next length flags ∧
        w.stage = .head o ∧ offset = o + 4 ∧ count ≤ length ∧ o + 4 + length ≤ 256 ∧
        (next = 0 ∨ o + 4 + length ≤ next))) ∧
  (direction = .write → count = 1 ∧ data = [0x01] ∧ w'.stage = .loopWrite ∧
    ∃ m, w'.identity.loopMap = some m ∧ m.control = offset ∧ m.control ≠ 0)

section
variable {v w w' : Walk} {direction : Direction} {offset count from_ next o : Nat} {data bytes : List Byte}
  {policy : PlugPolicy}

theorem Walk.chainAt_goesForward (goesOn : w.chainAt o = .transact direction offset count data w')
    (beyond : from_ ≤ o) : v.GoesForward w' direction offset count data from_ ∧ w'.identity = w.identity := by
  rw [Walk.chainAt_eq] at goesOn
  split at goesOn
  · cases goesOn
  · rename_i within
    cases goesOn
    exact ⟨⟨fun _ => ⟨rfl, by omega, .inl ⟨rfl, rfl, beyond, show w.identity.descriptors < 16 by omega⟩⟩, nofun⟩, rfl⟩

theorem Walk.closeLoop_goesForward (goesOn : w.closeLoop = .transact direction offset count data w') :
    v.GoesForward w' direction offset count data from_ ∧ w'.identity = w.identity := by
  unfold Walk.closeLoop at goesOn
  split at goesOn
  · cases goesOn
  · rename_i m map
    split at goesOn
    · cases goesOn
    · rename_i control
      cases goesOn
      exact ⟨⟨nofun, fun _ => ⟨rfl, rfl, rfl, m, map, rfl, control⟩⟩, rfl⟩

theorem Walk.onward_goesForward (goesOn : w.onward policy next = .transact direction offset count data w')
    (beyond : next = 0 ∨ from_ ≤ next) :
    v.GoesForward w' direction offset count data from_ ∧ w'.identity = w.identity := by
  rw [Walk.onward_eq] at goesOn
  split at goesOn
  · rename_i more
    exact Walk.chainAt_goesForward goesOn (beyond.resolve_left more)
  · split at goesOn
    · exact Walk.closeLoop_goesForward goesOn
    · split at goesOn
      · cases goesOn
      · exact Walk.closeLoop_goesForward (w := w.note .plugAnonymous false 0) goesOn

theorem Walk.afterHead_goesForward (head : w.stage = .head o)
    (goesOn : w.afterHead policy o bytes = .transact direction offset count data w') :
    w.GoesForward w' direction offset count data (o + 4 + byteAt bytes 2) ∧
      w'.identity.descriptors = w.identity.descriptors + 1 := by
  by_cases bad : headBad o bytes
  · rw [Walk.afterHead_fails (.inl bad)] at goesOn
    cases goesOn
  · rw [Walk.afterHead_of_good bad] at goesOn
    unfold headBad at bad
    have beyond : byteAt bytes 1 = 0 ∨ o + 4 + byteAt bytes 2 ≤ byteAt bytes 1 := by omega
    dsimp only at goesOn
    split at goesOn
    · obtain ⟨forward, identity⟩ := Walk.onward_goesForward (v := w) goesOn beyond
      exact ⟨forward, congrArg PlugIdentity.descriptors identity⟩
    · split at goesOn
      · cases goesOn
      · cases goesOn
        refine ⟨⟨fun _ => ⟨rfl, by omega, .inr ⟨o, _, _, _, _, rfl, head, rfl, ?_, ?_, beyond⟩⟩, nofun⟩, rfl⟩ <;> omega

theorem Walk.afterPayload_goesForward {type length : Nat} {flags : Byte}
    (goesOn : w.afterPayload policy o type next length flags bytes = .transact direction offset count data w')
    (beyond : next = 0 ∨ o + 4 + length ≤ next) :
    w.GoesForward w' direction offset count data (o + 4 + length) ∧
      w'.identity.descriptors = w.identity.descriptors := by
  have taken {x : PlugIdentity}
      (goesOn : { w with identity := x }.onward policy next = .transact direction offset count data w')
      (same : x.descriptors = w.identity.descriptors) :
      w.GoesForward w' direction offset count data (o + 4 + length) ∧
        w'.identity.descriptors = w.identity.descriptors := by
    obtain ⟨forward, identity⟩ := Walk.onward_goesForward (v := w) goesOn beyond
    exact ⟨forward, (congrArg PlugIdentity.descriptors identity).trans same⟩
  unfold Walk.afterPayload at goesOn
  split at goesOn
  · dsimp only at goesOn
    split at goesOn
    · cases goesOn
    · exact taken goesOn rfl
  · dsimp only at goesOn
    split at goesOn
    · cases goesOn
    · exact taken goesOn rfl

end

/-! ### The walk and the engine (R103, R104, R108, R114, R115) -/

section
variable {i : SlotId} {rest : List SbEntry} {s : State}

/-- R111, R115: the result of a transaction of the walk at the queue's head goes to the walk. -/
theorem txnEnd_walk (queue : s.sideband.queue = .discovery i :: rest)
    (inService : s.sideband.engine.abandoned = false) (result : TxnResult) :
    txnEnd result s = walkGoesOn i result s := by
  simp only [txnEnd, inService, queue, Bool.false_eq_true, if_false]

theorem walkGoesOn_transact {result : TxnResult} {direction : Direction} {offset count : Nat} {data : List Byte}
    {w : Walk} (goesOn : s.sideband.engine.walk.next (s.slot i).profile.plugPolicy
      (Config.findingValue s.freeCount).toNat result = .transact direction offset count data w) :
    walkGoesOn i result s = { s with
      sideband := ⟨s.sideband.queue, { s.sideband.engine with
        phase := .try, txn := ⟨i, direction, offset, count, data⟩, tries := 1, speed := trySpeed s i
        wait := none, walk := w }⟩
      freeCount := s.freeCount + 1 } := by
  simp only [walkGoesOn, goesOn]
  rfl

theorem walkGoesOn_settle {result : TxnResult} {units : Nat} {w : Walk}
    (goesOn : s.sideband.engine.walk.next (s.slot i).profile.plugPolicy
      (Config.findingValue s.freeCount).toNat result = .settle units w) :
    walkGoesOn i result s = { s with
      sideband := ⟨s.sideband.queue, { s.sideband.engine with
        phase := .plugSettle, wait := some (s.us + BitVec.ofNat 48 (units * 100)), walk := w }⟩
      freeCount := s.freeCount + 1 } := by
  simp only [walkGoesOn, goesOn]
  rfl

/-- R106, R115: a walk whose line is stuck ends, failing, with the cause. -/
theorem walkGoesOn_stuck (cause : StuckCause) : walkGoesOn i (.stuck cause) s =
    walkEnd i false (s.sideband.engine.walk.note .lineStuck true cause.value)
      { s with freeCount := s.freeCount + 1 } := rfl

theorem exec_tryEnd_walkGoesOn {r : TryResult} {result : TxnResult} (queue : s.sideband.queue = .discovery i :: rest)
    (trying : s.sideband.engine.phase = .try) (inService : s.sideband.engine.abandoned = false)
    (ends : endsTxn s.sideband.engine.txn s.sideband.engine.tries r result) :
    exec (.tryEnd r) s = .next (settle (walkGoesOn i result (lineUsed (s.sideband.engine.txn.sent r) s))) := by
  rw [execTryEnd_of_endsTxn s r result trying inService ends,
    txnEnd_walk (s := lineUsed (s.sideband.engine.txn.sent r) s) queue inService]

end

/-- Settles O47: each stage of the walk by its own equation, and what follows a success by the kind of transaction. -/
theorem walksGoForward : Obligations.WalksGoForward := by
  refine ⟨?_, ?_, ?_⟩
  · intro i s rest r result g queue trying inService ends next after
    have taken := exec_tryEnd_walkGoesOn queue trying inService ends
    refine ⟨fun direction offset count data w goesOn => ?_, fun units w goesOn => ?_⟩
    · rw [taken, walkGoesOn_transact (s := lineUsed (g.txn.sent r) s) goesOn]
      rfl
    · rw [taken, walkGoesOn_settle (s := lineUsed (g.txn.sent r) s) goesOn]
      rfl
  · intro w policy free bytes noted failed silent chain close onward byte nak
    have onward_eq (w : Walk) (next : Nat) : w.onward policy next = onward w next := by
      rw [Walk.onward_eq, Walk.chainAt_eq]
      rfl
    refine ⟨fun result naks => ?_, fun start => ?_, fun o head => ?_, fun o next length flags payload => ?_,
      fun o next length flags payload => ?_, fun m wrote map => Walk.next_loopWrite wrote map⟩
    · rw [Walk.next_nak naks]
      refine ⟨fun start => ?_, fun o head => ?_, fun o type next length flags payload => ?_, fun m wrote map => ?_⟩
      · simp only [start]
        exact w.noChain_eq policy .plugSilent 0
      · simp only [head]
        rfl
      · simp only [payload]
        rfl
      · simp only [wrote, map]
        rfl
    · rw [Walk.next_start start, Walk.noChain_eq, Walk.chainAt_eq]
      rfl
    · intro w' end_ bad need
      rw [Walk.next_head head]
      refine ⟨Walk.afterHead_fails, fun good none => ?_, fun good some_ long => ?_⟩
      · rw [Walk.afterHead_of_good good, ← onward_eq]
        exact if_pos none
      · rw [Walk.afterHead_of_good good]
        exact (if_neg some_).trans (if_neg (Nat.not_lt.2 long))
    · intro plug
      have plug_eq : PlugId.ofBytes bytes flags = plug := PlugId.ofBytes_eq bytes flags
      rw [Walk.next_payload payload, ← onward_eq, ← plug_eq]
      rfl
    · intro lane map
      rw [Walk.next_payload payload, ← onward_eq]
      rfl
  · intro w w' policy free offset count bytes data direction goesOn forward
    refine ⟨fun start => ?_, fun o head => ?_, fun o type next length flags payload beyond => ?_⟩
    · rw [Walk.next_start start] at goesOn
      split at goesOn
      · rw [Walk.noChain_eq] at goesOn
        cases goesOn
      · rename_i pointer
        exact Walk.chainAt_goesForward goesOn (Nat.one_le_iff_ne_zero.2 pointer)
    · rw [Walk.next_head head] at goesOn
      exact Walk.afterHead_goesForward head goesOn
    · rw [Walk.next_payload payload] at goesOn
      exact Walk.afterPayload_goesForward goesOn beyond

/-! ### Stuck lines (R106, R115) -/

/-- R89, R115: a walk that fails takes its slot, which is in neither queue any more, to VERDICT. -/
theorem walkEnd_fails {i : SlotId} {rest : List SbEntry} {s : State} (queue : s.sideband.queue = .discovery i :: rest)
    (unqueued : i ∉ s.scanner.queue) (absent : .discovery i ∉ rest) (w : Walk) : walkEnd i false w s =
      entered i (fun x => (x.walked w).judged) (claimReleased s i)
        { s with sideband := ⟨rest, enginePasses s rest⟩ } := by
  rw [walkEnd_eq queue unqueued absent]
  rfl

theorem StuckCause.value_eq (c : StuckCause) : c.value = if c = .clock then 1 else 2 := by cases c <;> rfl

/-- Settles O45: a recovery begins in the try, and its end, or its cut, fails the walk. -/
theorem stuckLinesAreRecovered : Obligations.StuckLinesAreRecovered := by
  refine ⟨?_, ?_⟩
  · intro s g after trying
    refine ⟨?_, if_pos trying⟩
    simp only [exec, execClockHeldLow, show s.sideband.engine.phase = .try from trying]
    rfl
  · intro s i rest c line ok g queue recovers inService ends sl value findings
    obtain ⟨unqueued, absent⟩ := SlotsOk.walking ok queue
    let w := g.walk.note .lineStuck true value
    let t : State := { s with
      sideband := ⟨s.sideband.queue, { g with line := line }⟩, freeCount := s.freeCount + 1 }
    have taken : exec c s = .next (settle (walkEnd i false w t)) := by
      rw [show w = g.walk.note .lineStuck true g.cause.value from
        congrArg (g.walk.note .lineStuck true) (StuckCause.value_eq g.cause).symm]
      obtain ⟨rfl, rfl⟩ | ⟨rfl, rfl⟩ := ends
      · rw [exec_recoveryEnd recovers, txnEnd_walk (s := lineUsed _ s) queue inService]
        rfl
      · rw [exec_clockHeldLow_recovery recovers, txnEnd_walk queue inService]
        rfl
    have ended : walkEnd i false w t = entered i (fun _ => (sl.walked w).judged) (claimReleased s i)
        { t with sideband := ⟨rest, { enginePasses s rest with line := line }⟩ } := by
      have passes : enginePasses t rest = { enginePasses s rest with line := line } := enginePasses_line s line rest _
      rw [walkEnd_fails (s := t) queue unqueued absent, passes]
      rfl
    have slot (j : SlotId) :
        (settle (walkEnd i false w t)).slot j = if j = i then (sl.walked w).judged else s.slot j := by
      rw [settle_slot, ended]
      exact entered_slot i j _ _ _
    exact ⟨_, taken, (slot i).trans (if_pos rfl), fun j other => (slot j).trans (if_neg other), settle_frame ended⟩

end Sys2Proof.Machine
end

section
/-! PROOF. The header places that a LOCKED lane examines in TRAIN, the confirmation counts they leave and the end of
training they bring (R121, R122). -/

namespace Sys2Proof.Machine

open Sys2Proof Sys2Proof.Safety

/-! ### The check for the end of training (R122) -/

theorem trainingCheck_of_confirmed {i : SlotId} {s : State} (train : (s.slot i).state = .train)
    (confirmed : (s.slot i).Confirmed (s.slot i).confirm) : trainingCheck i s = endTraining i s :=
  if_pos ⟨train, Slot.allConfirmed_iff.2 confirmed⟩

/-- R121: the slot with lane engine `l` replaced and its confirmation count `n`. -/
def Slot.counting (l : LaneId) (n : Nat) (y : Lane) (x : Slot) : Slot :=
  { x with lanes := x.lanes.set l.val y, confirm := x.confirm.set l.val n }

theorem Slot.laneTold_confirm_set (l : LaneId) (n : Nat) (y : Lane) (x : Slot) :
    x.laneTold l y 0 (x.confirm.set l.val n) = x.counting l n y := by
  simp [Slot.laneTold, Slot.counting]

/-- R122: a counted lane is not confirmed, the count of lane `l` taken as `n`. -/
def Slot.Waits (l : LaneId) (n : Nat) (x : Slot) : Prop :=
  ∃ m : LaneId, x.profile.laneMask.getLsbD m.val = true ∧ m.val < x.plugLanes ∧
    (if m = l then n else x.confirm[m.val]) ≠ 4

theorem Slot.confirm_set_getElem (l m : LaneId) (n : Nat) (x : Slot) :
    (x.confirm.set l.val n)[m.val] = if m = l then n else x.confirm[m.val] := by
  rw [Vector.getElem_set]
  exact if_congr (by rw [Fin.val_inj, eq_comm]) rfl rfl

theorem Slot.not_waits_iff {l : LaneId} {n : Nat} {y : Lane} {x : Slot} :
    ¬ x.Waits l n ↔ (x.counting l n y).Confirmed (x.counting l n y).confirm := by
  simp only [Slot.Waits, Slot.Confirmed, Slot.counting, Slot.confirm_set_getElem, not_exists, not_and, not_not]

/-! ### A header place in TRAIN (R67, R121) -/

theorem confirmAfter_goodHeader (n : Nat) (kind : FrameKind) :
    confirmAfter n (.goodHeader kind) = if kind = .idle then n else min (n + 1) 4 := by
  cases kind <;> rfl

section
variable {i : SlotId} {l : LaneId} {s : State} {bits : BitVec 48} {y : Lane} {e : LaneEvent} {n : Nat}

/-- R121, R122: one event of a lane in TRAIN, in a slot that is not being swept, sets the lane's count, and the check
for the end of training follows. -/
theorem laneReports_of_train (train : (s.slot i).state = .train) (unswept : s.scanner.queue.head? ≠ some i)
    (quiet : eventFlag .train y.soakRole l e = 0) (counts : confirmAfter (s.slot i).confirm[l.val] e = n) :
    laneReports i l y [e] s = trainingCheck i (s.withSlot i ((s.slot i).counting l n y)) := by
  have flagged : eventFlags (s.slot i).state y.soakRole l [e] = 0 :=
    eventFlags_quiet (by simpa [train] using quiet)
  have confirmed : (s.slot i).confirmAfter l [e] = (s.slot i).confirm.set l.val n := by
    rw [Slot.confirmAfter, if_pos train, ← counts]
    rfl
  have told : (s.modSlot i fun x => [e].foldl (Slot.heed l) (x.withLane l y)) =
      s.withSlot i ((s.slot i).counting l n y) := by
    rw [State.modSlot, foldl_heed_withLane, flagged, confirmed, Slot.laneTold_confirm_set]
  show trainingCheck i (scanReport i l _ (s.modSlot i fun x => [e].foldl (Slot.heed l) (x.withLane l y))) = _
  rw [told, scanReport_of_unswept (s := s.withSlot i _) unswept]

theorem trainingCheck_counting_of_waits (waits : (s.slot i).Waits l n) :
    trainingCheck i (s.withSlot i ((s.slot i).counting l n y)) = s.withSlot i ((s.slot i).counting l n y) := by
  refine trainingCheck_of_not fun trained => ?_
  rw [State.withSlot_slot, if_pos rfl] at trained
  exact Slot.not_waits_iff.2 trained.2 waits

theorem trainingCheck_counting_of_not_waits (train : (s.slot i).state = .train)
    (done : ¬ (s.slot i).Waits l n) :
    trainingCheck i (s.withSlot i ((s.slot i).counting l n y)) =
      endTraining i (s.withSlot i ((s.slot i).counting l n y)) := by
  have own := (State.withSlot_slot s i i ((s.slot i).counting l n y)).trans (if_pos rfl)
  apply trainingCheck_of_confirmed
  · rw [own]
    exact train
  · rw [own]
    exact Slot.not_waits_iff.1 done

theorem exec_headerInLock_of_train (train : (s.slot i).state = .train) (unswept : s.scanner.queue.head? ≠ some i)
    (active : ((s.slot i).lane l).power = .active) (locked : ((s.slot i).lane l).rx = .locked)
    (lock : ((s.slot i).lane l).lockHeader (s.slot i).profile.payload.isPrbs false
      (timerAfter s.us (s.slot i).profile.relockTimeout) bits = (y, [e]))
    (quiet : eventFlag .train y.soakRole l e = 0) (counts : confirmAfter (s.slot i).confirm[l.val] e = n) :
    exec (.headerInLock i l bits) s =
      .next (settle (trainingCheck i (s.withSlot i ((s.slot i).counting l n y)))) := by
  have notSoak : decide ((s.slot i).state = .soak) = false := by rw [train]; rfl
  rw [exec_headerInLock (y := y) (es := [e]) active locked (by rw [notSoak]; exact lock),
    laneReports_of_train train unswept quiet counts]

end

/-- Settles O35: what the lane makes of the place and counts, and then the check for the end of training. -/
theorem headersConfirmTraining : Obligations.HeadersConfirmTraining := by
  intro i l bits s sl x train unswept active locked trained wait
  have goesOn {n : Nat} {y : Lane} (waits : wait n) : trainingCheck i (trained n y) = trained n y :=
    trainingCheck_counting_of_waits waits
  have ends {n : Nat} {y : Lane} (done : ¬ wait n) : trainingCheck i (trained n y) = endTraining i (trained n y) :=
    trainingCheck_counting_of_not_waits train done
  refine ⟨fun h good own => ?_, fun bad few waits => ?_⟩
  · intro n y
    have confirms : exec (.headerInLock i l bits) s = .next (settle (trainingCheck i (trained n y))) :=
      exec_headerInLock_of_train train unswept active locked (x.lockHeader_own good own) rfl
        (confirmAfter_goodHeader _ h.kind)
    exact ⟨fun waits => by rw [confirms, goesOn waits], fun done => by rw [confirms, ends done]⟩
  · have drops : exec (.headerInLock i l bits) s =
        .next (settle (trainingCheck i (trained 0 (x.erred false)))) :=
      exec_headerInLock_of_train train unswept active locked (x.lockHeader_errs bad few) rfl rfl
    rw [drops, goesOn waits, Lane.erred_of_scan]

end Sys2Proof.Machine
end

section
/-! PROOF. The increments of the µs counter that make no checkpoint, and SET_TIMEBASE (R132, R133). -/

namespace Sys2Proof.Machine

open Sys2Proof Sys2Proof.Safety

/-! ### The increment, count by count (R132) -/

section
variable {s : State}

theorem usTick_of_below (below : s.timebase.prescalerCount + 1 < s.timebase.prescale) :
    usTick s = { s with
      us := s.us + 1
      timebase := { s.timebase with prescalerCount := s.timebase.prescalerCount + 1 } } :=
  if_neg (not_le.2 below)

theorem usTick_of_wrap (wraps : s.timebase.prescalerCount + 1 = s.timebase.prescale) :
    usTick s = periodTick { s with
      us := s.us + 1
      timebase := { s.timebase with prescalerCount := 0 } } :=
  if_pos wraps.ge

theorem periodTick_of_below (below : s.timebase.periodCount + 1 < s.timebase.period) :
    periodTick s = { s with timebase := { s.timebase with periodCount := s.timebase.periodCount + 1 } } :=
  if_neg (not_le.2 below)

theorem periodTick_of_wrap (wraps : s.timebase.periodCount + 1 = s.timebase.period) :
    periodTick s = intervalTick { s with timebase := { s.timebase with periodCount := 0 } } :=
  if_pos wraps.ge

theorem intervalTick_of_below (below : s.timebase.postscalerCount + 1 < s.timebase.postscale) :
    intervalTick s = { s with
      timebase := { s.timebase with postscalerCount := s.timebase.postscalerCount + 1 } } :=
  if_neg (not_le.2 below)

theorem wrapDue_of_wrap (wraps : s.timebase.prescalerCount + 1 = s.timebase.prescale) : wrapDue s = true :=
  decide_eq_true wraps.ge

theorem intervalDue_of_wraps (prescaler : s.timebase.prescalerCount + 1 = s.timebase.prescale)
    (period : s.timebase.periodCount + 1 = s.timebase.period) : intervalDue s = true := by
  rw [intervalDue, wrapDue_of_wrap prescaler, decide_eq_true period.ge]
  rfl

/-! ### The increment as a step (R132) -/

/-- An increment is a checkpoint only where each of the three counts returns to 0. -/
theorem checkpointDue_eq_false (below : s.timebase.prescalerCount + 1 < s.timebase.prescale ∨
    s.timebase.periodCount + 1 < s.timebase.period ∨
    s.timebase.postscalerCount + 1 < s.timebase.postscale) : checkpointDue s = false := by
  simp only [checkpointDue, intervalDue, wrapDue, Bool.and_eq_false_iff, decide_eq_false_iff_not, not_le,
    or_assoc, below]

theorem tick_of_no_checkpoint (none : checkpointDue s = false) : tick s = usTick s := by
  rw [tick, none]
  rfl

theorem step_of_no_command (awake : s.porst = false) (noCommand : s.pending = []) :
    step s = .next (tick s) := by
  rw [step, noCommand, idle, awake]
  rfl

theorem exec_prescalerWrap_of_due (awake : s.porst = false) (due : wrapDue s = true) :
    exec .prescalerWrap s = .next (tick s) :=
  if_pos (by rw [awake, due]; rfl)

theorem exec_interval_of_due (awake : s.porst = false) (due : intervalDue s = true) :
    exec .interval s = .next (tick s) :=
  if_pos (by rw [awake, due]; rfl)

end

/-- Settles O3: no checkpoint is due, so the increment goes no further than the first count
that does not return to 0. -/
theorem microsecondsDriveTheTimebase : Obligations.MicrosecondsDriveTheTimebase := by
  intro s awake _
  refine ⟨fun noCommand below => ?_, fun prescaler below => ?_, fun prescaler period below => ?_⟩
  · rw [step_of_no_command awake noCommand, tick_of_no_checkpoint (checkpointDue_eq_false (.inl below)),
      usTick_of_below below]
  · rw [exec_prescalerWrap_of_due awake (wrapDue_of_wrap prescaler),
      tick_of_no_checkpoint (checkpointDue_eq_false (.inr (.inl below))), usTick_of_wrap prescaler]
    exact congrArg _ (periodTick_of_below below)
  · rw [exec_interval_of_due awake (intervalDue_of_wraps prescaler period),
      tick_of_no_checkpoint (checkpointDue_eq_false (.inr (.inr below))), usTick_of_wrap prescaler]
    exact congrArg _ (Eq.trans (periodTick_of_wrap period) (intervalTick_of_below below))

/-! ### SET_TIMEBASE (R29, R33, R133) -/

/-- R29: whether a field with the lower limit 1 is clamped. -/
theorem clampCount_one {w : Nat} (hi : Nat) (x : BitVec w) :
    clampCount 1 hi x.toNat = if x = 0 ∨ hi < x.toNat then 1 else 0 := by
  have zero : x.toNat < 1 ↔ x = 0 := Nat.lt_one_iff.trans (BitVec.toNat_inj (y := 0#w))
  simp only [clampCount, zero]

theorem soakingSlots_eq_nil {s : State} (none : ∀ i, (s.slot i).state ≠ .soak) : soakingSlots s = [] := by
  rw [soakingSlots, List.filter_eq_nil_iff]
  intro i _
  simp [none i]

theorem actSetTimebase_of_no_soak {s : State} (p : TimebaseParams) (none : ∀ i, (s.slot i).state ≠ .soak) :
    actSetTimebase p s =
      ({ s with timebase :=
          ⟨p.prescale.toNat, clamp 1 65535 p.period.toNat, clamp 1 16 p.postscale.toNat, 0, 0, 0⟩ },
       some (doneOrClamped (clampCount 1 65535 p.period.toNat + clampCount 1 16 p.postscale.toNat))) := by
  rw [actSetTimebase, soakingSlots_eq_nil none]

/-- Settles O21: the checks pass, and the limits of the period and the postscale are those of R133. -/
theorem setTimebaseRestartsTheCounts : Obligations.SetTimebaseRestartsTheCounts := by
  intro n h p s r prescale noSoak badPeriod badPostscale answer new
  have ⟨_, _, zero⟩ := r
  have passes : firstFault (timebaseFaults h p) = none := by rw [timebaseFaults_eq zero, if_pos prescale]
  have small : p.period.toNat ≤ 65535 := by omega
  have period : clamp 1 65535 p.period.toNat = max 1 p.period.toNat := by
    rw [clamp_eq (by decide), min_eq_left small]
  have badPeriod_eq : clampCount 1 65535 p.period.toNat = badPeriod := by
    simp only [clampCount_one, not_lt.2 small, or_false, badPeriod]
  have badPostscale_eq : clampCount 1 16 p.postscale.toNat = badPostscale := clampCount_one 16 p.postscale
  have acted : actSetTimebase p (countTaken s) = (countTaken { s with timebase := new }, some answer) := by
    rw [actSetTimebase_of_no_soak (s := countTaken s) p noSoak, period, clamp_eq (by decide), badPeriod_eq,
      badPostscale_eq]
    rfl
  exact congrArg _ (takeExamined_answered r passes acted)

end Sys2Proof.Machine
end

section
/-! PROOF. The eye of a lane's counts (R156): the runs of clean positions and the choice among the longest. -/

namespace Sys2Proof.Machine

open Sys2Proof Sys2Proof.Safety

/-! ### Clean positions (R156) -/

section
variable {counts : Vector Nat 32} {t : Nat}

theorem clean_iff {p : Nat} : clean counts t p = true ↔ countAt counts p ≤ t ∧ countAt counts p ≠ 255 := by
  simp [clean]

/-- Positions are taken modulo 32. -/
theorem clean_congr {p q : Nat} (same : p % 32 = q % 32) : clean counts t p = clean counts t q := by
  have counted : countAt counts p = countAt counts q := by simp only [countAt, same]
  rw [clean, clean, counted]

theorem all_clean_iff : allPositions.all (clean counts t) = true ↔ ∀ p, clean counts t p = true := by
  simp only [List.all_eq_true, allPositions, List.mem_range]
  refine ⟨fun all p => ?_, fun all p _ => all p⟩
  rw [← clean_congr (Nat.mod_mod p 32)]
  exact all _ (Nat.mod_lt p (by decide))

/-! ### The length of a run -/

theorem runLength_le (n p : Nat) : runLength counts t n p ≤ n := by
  induction n generalizing p with
  | zero => exact Nat.le_refl 0
  | succ n ih =>
    rw [runLength]
    split
    · exact Nat.succ_le_succ (ih _)
    · exact Nat.zero_le _

theorem clean_of_lt_runLength {n p q : Nat} (below : q < runLength counts t n p) :
    clean counts t (p + q) = true := by
  induction n generalizing p q with
  | zero => exact absurd below (Nat.not_lt_zero q)
  | succ n ih =>
    rw [runLength] at below
    split at below
    · rename_i first
      cases q with
      | zero => exact first
      | succ q =>
        rw [Nat.add_comm q 1, ← Nat.add_assoc]
        exact ih (by omega)
    · exact absurd below (Nat.not_lt_zero q)

theorem not_clean_at_runLength {n p : Nat} (ends : runLength counts t n p < n) :
    clean counts t (p + runLength counts t n p) = false := by
  induction n generalizing p with
  | zero => exact absurd ends (Nat.not_lt_zero _)
  | succ n ih =>
    rw [runLength] at ends ⊢
    split
    · rename_i first
      rw [if_pos first] at ends
      rw [Nat.add_comm _ 1, ← Nat.add_assoc]
      exact ih (by omega)
    · rename_i first
      exact Bool.not_eq_true _ ▸ first

theorem le_runLength {n p m : Nat} (within : m ≤ n) (run : ∀ q < m, clean counts t (p + q) = true) :
    m ≤ runLength counts t n p := by
  by_contra short
  have stops := not_clean_at_runLength (counts := counts) (t := t) (n := n) (p := p) (by omega)
  rw [run _ (by omega)] at stops
  cases stops

/-! ### The runs -/

/-- A run is named by its start, whose predecessor is not clean, and its length. -/
theorem mem_runs {r : Nat × Nat} : r ∈ runs counts t ↔
    r.1 < 32 ∧ clean counts t r.1 = true ∧ clean counts t (r.1 + 31) = false ∧
      r.2 = runLength counts t 32 r.1 := by
  obtain ⟨start, len⟩ := r
  simp only [runs, allPositions, List.mem_map, List.mem_filter, List.mem_range, Bool.and_eq_true,
    Bool.not_eq_true', Prod.mk.injEq]
  constructor
  · rintro ⟨p, ⟨below, first, before⟩, rfl, rfl⟩
    exact ⟨below, first, before, rfl⟩
  · rintro ⟨below, first, before, rfl⟩
    exact ⟨start, ⟨below, first, before⟩, rfl, rfl⟩

theorem runs_ascend : (runs counts t).Pairwise fun r r' => r.1 < r'.1 :=
  List.pairwise_map.2 (List.pairwise_lt_range.filter _)

/-- A clean stretch lies in a run: the run starts behind the nearest position before the stretch that is not
clean. -/
theorem exists_run_of_clean {a m : Nat} (stop : ∃ p, clean counts t p = false) (pos : 0 < m) (within : m ≤ 32)
    (stretch : ∀ q < m, clean counts t (a + q) = true) : ∃ r ∈ runs counts t, m ≤ r.2 := by
  obtain ⟨p, stop⟩ := stop
  have behind : ∃ d, clean counts t (a + 31 * (d + 1)) = false := by
    refine ⟨(a + 31 * p + 31) % 32 , ?_⟩
    rw [← stop]
    exact clean_congr (by omega)
  obtain ⟨d, before, after⟩ : ∃ d, clean counts t (a + 31 * (d + 1)) = false ∧
      ∀ c < d, clean counts t (a + 31 * (c + 1)) = true :=
    ⟨Nat.find behind, Nat.find_spec behind, fun c below => by simpa using Nat.find_min behind below⟩
  have back : ∀ c ≤ d, clean counts t (a + 31 * c) = true := by
    rintro (_ | c) le
    · exact stretch 0 pos
    · exact after c le
  have starts : ∀ q < m, clean counts t ((a + 31 * d) % 32 + q) = true := by
    intro q below
    by_cases inside : q ≤ d
    · rw [← back (d - q) (by omega)]
      exact clean_congr (by omega)
    · rw [← stretch (q - d) (by omega)]
      exact clean_congr (by omega)
  refine ⟨⟨(a + 31 * d) % 32, runLength counts t 32 ((a + 31 * d) % 32)⟩,
    mem_runs.2 ⟨Nat.mod_lt _ (by decide), starts 0 pos, ?_, rfl⟩, le_runLength within starts⟩
  rw [← before]
  exact clean_congr (by omega)

end

/-! ### The choice (R156) -/

theorem runHasZero_iff {a n : Nat} (below : a < 32) : runHasZero (a, n) = true ↔ ∃ q < n, (a + q) % 32 = 0 := by
  rw [runHasZero, decide_eq_true_eq]
  exact ⟨fun h => ⟨_, h, by omega⟩, fun ⟨q, inside, zero⟩ => by omega⟩

/-- The greatest of the lengths, as `chosenRun` finds it. -/
theorem longest_isGreatest {rs : List (Nat × Nat)} (some_ : rs ≠ []) :
    (∃ r ∈ rs, r.2 = rs.foldl (fun n r => max n r.2) 0) ∧ ∀ r ∈ rs, r.2 ≤ rs.foldl (fun n r => max n r.2) 0 := by
  have greatest : (0 :: rs.map Prod.snd).max? = some (rs.foldl (fun n r => max n r.2) 0) := by
    rw [List.max?_cons', List.foldl_map]
  obtain ⟨attained, bound⟩ := List.max?_eq_some_iff.1 greatest
  have above : ∀ r ∈ rs, r.2 ≤ rs.foldl (fun n r => max n r.2) 0 := fun r member =>
    bound _ (List.mem_cons_of_mem 0 (List.mem_map_of_mem member))
  refine ⟨?_, above⟩
  rcases List.mem_cons.1 attained with zero | member
  · obtain ⟨r, member⟩ := List.exists_mem_of_ne_nil rs some_
    exact ⟨r, member, by have := above r member; omega⟩
  · exact List.mem_map.1 member

theorem chosenRun_eq_none {rs : List (Nat × Nat)} (none : chosenRun rs = none) : rs = [] := by
  by_contra some_
  obtain ⟨r, member, longest⟩ := (longest_isGreatest some_).1
  simp only [chosenRun, Option.or_eq_none_iff, List.head?_eq_none_iff] at none
  exact List.not_mem_nil (none.2 ▸ List.mem_filter.2 ⟨member, decide_eq_true longest⟩)

/-- The chosen run is one of the longest; it contains position 0 where any of them does, and is the first of
them where none does. -/
theorem chosenRun_eq_some {rs : List (Nat × Nat)} {r : Nat × Nat} (chosen : chosenRun rs = some r)
    (ascend : rs.Pairwise fun r r' => r.1 < r'.1) : r ∈ rs ∧ (∀ x ∈ rs, x.2 ≤ r.2) ∧
      ∀ x ∈ rs, x.2 = r.2 →
        (runHasZero x = true → runHasZero r = true) ∧ (runHasZero r = false → r.1 ≤ x.1) := by
  simp only [chosenRun] at chosen
  generalize same : rs.filter (fun r => decide (r.2 = rs.foldl (fun n r => max n r.2) 0)) = best at chosen
  have mem_best (x) : x ∈ best ↔ x ∈ rs ∧ x.2 = rs.foldl (fun n r => max n r.2) 0 := by
    rw [← same, List.mem_filter, decide_eq_true_eq]
  have best_ascend : best.Pairwise fun r r' => r.1 < r'.1 := same ▸ ascend.filter _
  have member : r ∈ best := by
    rcases Option.or_eq_some_iff.1 chosen with found | ⟨-, head⟩
    · exact List.mem_of_find?_eq_some found
    · exact List.mem_of_head? head
  obtain ⟨run, longest⟩ := (mem_best r).1 member
  refine ⟨run, fun x run' => longest ▸ (longest_isGreatest (List.ne_nil_of_mem run)).2 x run',
    fun x run' tie => ?_⟩
  have rival : x ∈ best := (mem_best x).2 ⟨run', tie.trans longest⟩
  rcases Option.or_eq_some_iff.1 chosen with found | ⟨noZero, head⟩
  · have zero := List.find?_some found
    exact ⟨fun _ => zero, fun none => absurd (zero.symm.trans none) nofun⟩
  · refine ⟨fun zero => absurd zero (List.find?_eq_none.1 noZero x rival), fun _ => ?_⟩
    obtain ⟨rest, rfl⟩ := List.head?_eq_some_iff.1 head
    rcases List.mem_cons.1 rival with rfl | later
    · exact Nat.le_refl _
    · exact Nat.le_of_lt (List.rel_of_pairwise_cons best_ascend later)

/-! ### The eye (R156) -/

section
variable {counts : Vector Nat 32} {t : Nat}

theorem eye_of_all_clean (all : ∀ p, clean counts t p = true) : eye counts t = (32, 0, false) :=
  if_pos (all_clean_iff.2 all)

theorem eye_of_none_clean (none : ∀ p, clean counts t p = false) : eye counts t = (0, 0, true) := by
  have some_ : ¬ allPositions.all (clean counts t) = true := fun all =>
    absurd ((none 0).symm.trans (all_clean_iff.1 all 0)) nofun
  have noRun : runs counts t = [] := List.eq_nil_iff_forall_not_mem.2 fun r member =>
    absurd ((none r.1).symm.trans (mem_runs.1 member).2.1) nofun
  rw [eye, if_neg some_, noRun]
  rfl

theorem eye_of_some_clean {p p' : Nat} (clean_ : clean counts t p = true) (stop : clean counts t p' = false) :
    ∃ r, chosenRun (runs counts t) = some r ∧ eye counts t = (r.2, (r.1 + (r.2 - 1) / 2) % 32, false) := by
  have notAll : ¬ allPositions.all (clean counts t) = true := fun all =>
    absurd (stop.symm.trans (all_clean_iff.1 all p')) nofun
  obtain ⟨run, member, -⟩ := exists_run_of_clean (a := p) (m := 1) ⟨p', stop⟩ (by decide) (by decide)
    fun q first => by rwa [Nat.lt_one_iff.1 first]
  rw [eye, if_neg notAll]
  cases chosen : chosenRun (runs counts t) with
  | none => exact absurd (chosenRun_eq_none chosen) (List.ne_nil_of_mem member)
  | some r => exact ⟨r, rfl, rfl⟩

/-- A run that reaches position 0 after `q` positions starts no further from it than any run that does: the
predecessor of a later start, which is not clean, would lie in it. -/
theorem distance_le_of_zero {a b n q q' : Nat} (run : ∀ q < n, clean counts t (a + q) = true)
    (before : clean counts t (b + 31) = false) (inside : q < n) (zero : (a + q) % 32 = 0)
    (zero' : (b + q') % 32 = 0) : q ≤ q' := by
  by_contra further
  have holds := run (q - q' - 1) (by omega)
  rw [clean_congr (q := b + 31) (by omega), before] at holds
  cases holds

/-- Two runs of one length that contain position 0 are one run. -/
theorem start_eq_of_zero {a b n : Nat} (belowA : a < 32) (belowB : b < 32)
    (runA : ∀ q < n, clean counts t (a + q) = true) (runB : ∀ q < n, clean counts t (b + q) = true)
    (beforeA : clean counts t (a + 31) = false) (beforeB : clean counts t (b + 31) = false)
    (zeroA : ∃ q < n, (a + q) % 32 = 0) (zeroB : ∃ q < n, (b + q) % 32 = 0) : a = b := by
  obtain ⟨q, inside, zero⟩ := zeroA
  obtain ⟨q', inside', zero'⟩ := zeroB
  have := distance_le_of_zero runA beforeB inside zero zero'
  have := distance_le_of_zero runB beforeA inside' zero' zero
  omega

/-- R156: the chosen run, and what makes it the chosen one. -/
theorem chosenRun_extremal {start width : Nat} (stop : ∃ p, clean counts t p = false)
    (chosen : chosenRun (runs counts t) = some (start, width)) :
    1 ≤ width ∧ width ≤ 31 ∧ start < 32 ∧ (∀ q < width, clean counts t (start + q) = true) ∧
      clean counts t (start + 31) = false ∧ clean counts t (start + width) = false ∧
      (∀ a n, n ≤ 32 → (∀ q < n, clean counts t (a + q) = true) → n ≤ width) ∧
      ∀ a < 32, (∀ q < width, clean counts t (a + q) = true) → clean counts t (a + 31) = false →
        ((∃ q < width, (a + q) % 32 = 0) → start = a) ∧
        (¬ (∃ q < width, (start + q) % 32 = 0) → start ≤ a) := by
  obtain ⟨member, longest, ties⟩ := chosenRun_eq_some chosen runs_ascend
  obtain ⟨below, first, before, (rfl : width = runLength counts t 32 start)⟩ := mem_runs.1 member
  have run : ∀ q < runLength counts t 32 start, clean counts t (start + q) = true := fun q =>
    clean_of_lt_runLength
  have short : runLength counts t 32 start ≤ 31 := by
    by_contra long
    have holds := run 31 (by omega)
    rw [before] at holds
    cases holds
  have maximal : ∀ a n, n ≤ 32 → (∀ q < n, clean counts t (a + q) = true) → n ≤ runLength counts t 32 start := by
    intro a n within stretch
    rcases Nat.eq_zero_or_pos n with rfl | pos
    · exact Nat.zero_le _
    · obtain ⟨r, member', long⟩ := exists_run_of_clean stop pos within stretch
      exact long.trans (longest r member')
  have pos : 1 ≤ runLength counts t 32 start :=
    maximal start 1 (by decide) fun q zero => by rwa [Nat.lt_one_iff.1 zero]
  refine ⟨pos, short, below, run, before, not_clean_at_runLength (by omega), maximal,
    fun a belowA runA beforeA => ?_⟩
  have length : runLength counts t 32 start = runLength counts t 32 a :=
    Nat.le_antisymm (le_runLength (by omega) runA)
      (maximal a _ (runLength_le ..) fun q => clean_of_lt_runLength)
  have memberA : (a, runLength counts t 32 start) ∈ runs counts t :=
    mem_runs.2 ⟨belowA, runA 0 pos, beforeA, length⟩
  obtain ⟨zero, lowest⟩ := ties _ memberA rfl
  rw [runHasZero_iff below, runHasZero_iff belowA] at zero
  rw [← Bool.not_eq_true, runHasZero_iff below] at lowest
  exact ⟨fun zeroA => start_eq_of_zero below belowA run runA before beforeA (zero zeroA) zeroA, lowest⟩

end

/-- Settles O51: the positions are all clean, none is, or the eye is the chosen run. -/
theorem eyesAreTheLongestRuns : Obligations.EyesAreTheLongestRuns := by
  intro counts tolerance open_ width centre noEye
  have open_iff (p : Nat) : open_ p ↔ clean counts tolerance p = true := clean_iff.symm
  simp only [open_iff, Bool.not_eq_true]
  by_cases all : ∀ p, clean counts tolerance p = true
  · have eyed := eye_of_all_clean all
    have opened {p} : clean counts tolerance p ≠ false := fun stop => absurd ((all p).symm.trans stop) nofun
    simp only [width, centre, noEye, eyed]
    exact ⟨⟨nofun, fun none => absurd (none 0) opened⟩, nofun, fun _ => ⟨trivial, trivial⟩,
      fun _ ⟨_, stop⟩ => absurd stop opened⟩
  · obtain ⟨p, stop⟩ : ∃ p, clean counts tolerance p = false := by simpa using all
    by_cases none : ∀ p, clean counts tolerance p = false
    · have eyed := eye_of_none_clean none
      simp only [width, centre, noEye, eyed]
      exact ⟨⟨fun _ => none, fun _ => trivial⟩, fun _ => ⟨trivial, trivial⟩, fun all' => absurd all' all, nofun⟩
    · obtain ⟨p', clean_⟩ : ∃ p, clean counts tolerance p = true := by simpa using none
      obtain ⟨⟨start, length⟩, chosen, eyed⟩ := eye_of_some_clean clean_ stop
      obtain ⟨pos, short, below, run, before, ends, maximal, ties⟩ := chosenRun_extremal ⟨p, stop⟩ chosen
      simp only [width, centre, noEye, eyed]
      exact ⟨⟨nofun, fun none' => absurd none' none⟩, nofun, fun all' => absurd all' all,
        fun _ _ => ⟨pos, short, start, below, rfl, run, before, ends, maximal, ties⟩⟩

end Sys2Proof.Machine
end

section
/-! PROOF. The bytes of the records (R163, R168, R179, chapter 11.2): a part of a record spans a range of offsets,
parts that follow one another make a longer part, and each part holds the fields of its layout. -/

namespace Sys2Proof.Machine

open Sys2Proof Sys2Proof.Safety

/-! ### Parts of a record (R179) -/

/-- The bytes `b`, at the offsets from `o` to before `e`, hold every field of the layout, and are 0 where no field
lies. -/
structure Spans (o e : Nat) (b : List Byte) (layout : List Field) : Prop where
  length : o + b.length = e
  inside : ∀ f ∈ layout, o ≤ f.offset ∧ f.offset + f.size ≤ e
  holds  : ∀ f ∈ layout, leNat ((b.drop (f.offset - o)).take f.size) = f.value % 256 ^ f.size
  clear  : ∀ k < b.length, (∀ f ∈ layout, o + k < f.offset ∨ f.offset + f.size ≤ o + k) → b[k]? = some 0

namespace Spans

theorem carries {e : Nat} {b : List Byte} {layout : List Field} (h : Spans 0 e b layout) : carries b layout := by
  refine ⟨h.holds, fun k below apart => h.clear k below ?_⟩
  simpa using apart

/-- The order in which a layout lists its fields does not matter. -/
theorem perm {o e : Nat} {b : List Byte} {L M : List Field} (h : Spans o e b L) (p : L.Perm M) : Spans o e b M where
  length := h.length
  inside f member := h.inside f (p.mem_iff.2 member)
  holds f member := h.holds f (p.mem_iff.2 member)
  clear k below apart := h.clear k below fun f member => apart f (p.mem_iff.1 member)

theorem append {o m e : Nat} {a b : List Byte} {L M : List Field} (first : Spans o m a L) (second : Spans m e b M) :
    Spans o e (a ++ b) (L ++ M) := by
  obtain ⟨lengthA, insideA, holdsA, clearA⟩ := first
  obtain ⟨lengthB, insideB, holdsB, clearB⟩ := second
  refine ⟨by rw [List.length_append]; omega, fun f member => ?_, fun f member => ?_, fun k below apart => ?_⟩
  · rcases List.mem_append.1 member with member | member
    · have := insideA f member; omega
    · have := insideB f member; omega
  · rcases List.mem_append.1 member with member | member
    · have within := insideA f member
      rw [← holdsA f member, List.drop_append_of_le_length (by omega),
        List.take_append_of_le_length (by rw [List.length_drop]; omega)]
    · have within := insideB f member
      have skip : f.offset - o = a.length + (f.offset - m) := by omega
      rw [← holdsB f member, skip, List.drop_length_add_append]
  · rw [List.length_append] at below
    by_cases early : k < a.length
    · rw [List.getElem?_append_left early]
      exact clearA k early fun f member => apart f (List.mem_append_left M member)
    · rw [List.getElem?_append_right (by omega)]
      refine clearB _ (by omega) fun f member => ?_
      have := apart f (List.mem_append_right L member)
      omega

/-! One field, bytes that no field holds, and the two in front of more. -/

theorem nil {o e : Nat} (at_ : o = e := by omega) : Spans o e [] [] :=
  ⟨at_, nofun, nofun, fun _ below => absurd below (Nat.not_lt_zero _)⟩

theorem zeros (o k : Nat) : Spans o (o + k) (zeroBytes k) [] := by
  refine ⟨by simp [zeroBytes], nofun, nofun, fun j below _ => ?_⟩
  rw [zeroBytes, List.getElem?_replicate, if_pos (by simpa [zeroBytes] using below)]

theorem length_leBytes (k n : Nat) : (leBytes k n).length = k := by
  induction k generalizing n with
  | zero => rfl
  | succ k ih => exact congrArg (· + 1) (ih _)

theorem number (o k n : Nat) : Spans o (o + k) (leBytes k n) [⟨o, k, n⟩] := by
  refine ⟨by rw [length_leBytes], by simp, ?_, fun j below apart => ?_⟩
  · rw [List.forall_mem_singleton, Nat.sub_self, List.drop_zero, List.take_of_length_le (length_leBytes ..).le,
      leNat_leBytes]
  · rw [length_leBytes] at below
    simp only [List.forall_mem_singleton] at apart
    omega

/-- A number at the end. -/
theorem last {o p e k n v : Nat} (holds : v = n := by rfl) (at_ : p = o := by omega) (end_ : o + k = e := by omega) :
    Spans o e (leBytes k n) [⟨p, k, v⟩] := by
  rw [← end_, at_, holds]
  exact number o k n

/-- A number in front of more. -/
theorem field {o p e k n v : Nat} {b : List Byte} {L : List Field} (more : Spans (o + k) e b L)
    (holds : v = n := by rfl) (at_ : p = o := by omega) : Spans o e (leBytes k n ++ b) (⟨p, k, v⟩ :: L) :=
  (last holds at_).append more

/-- A byte in front of more. -/
theorem byte {o p e n : Nat} {x : Byte} {b : List Byte} {L : List Field} (more : Spans (o + 1) e b L)
    (holds : x = byteOf n := by rfl) (at_ : p = o := by omega) : Spans o e (x :: b) (⟨p, 1, n⟩ :: L) :=
  holds ▸ field (k := 1) more rfl at_

/-- A byte of no field in front of more. -/
theorem gap {o e : Nat} {b : List Byte} {L : List Field} (more : Spans (o + 1) e b L) : Spans o e (0 :: b) L :=
  (zeros o 1).append more

/-! Parts of one size, one after another. -/

theorem flatMap_from {α : Type} {f : α → List Byte} {g : α × Nat → List Field} {o m : Nat} (xs : List α) (n : Nat)
    (each : ∀ x k, (x, k) ∈ xs.zipIdx n → Spans (o + m * k) (o + m * k + m) (f x) (g (x, k))) :
    Spans (o + m * n) (o + m * (n + xs.length)) (xs.flatMap f) ((xs.zipIdx n).flatMap g) := by
  induction xs generalizing n with
  | nil => exact nil rfl
  | cons x xs ih =>
    have step : o + m * n + m = o + m * (n + 1) := by rw [Nat.mul_succ, Nat.add_assoc]
    have length : n + (x :: xs).length = n + 1 + xs.length := by rw [List.length_cons]; omega
    rw [List.zipIdx_cons] at each ⊢
    rw [length]
    exact (step ▸ each x n List.mem_cons_self).append
      (ih (n + 1) fun x' k member => each x' k (List.mem_cons_of_mem _ member))

theorem flatMap {α : Type} {f : α → List Byte} {g : α × Nat → List Field} {o e : Nat} (m : Nat) {xs : List α}
    (each : ∀ x k, (x, k) ∈ xs.zipIdx → Spans (o + m * k) (o + m * k + m) (f x) (g (x, k)))
    (at_ : o + m * xs.length = e) : Spans o e (xs.flatMap f) (xs.zipIdx.flatMap g) := by
  have parts := flatMap_from xs 0 each
  rwa [Nat.mul_zero, Nat.add_zero, Nat.zero_add, at_] at parts

/-- A part for each lane, in ascending order. -/
theorem lanes {f : LaneId → List Byte} {g : LaneId → List Field} {o e : Nat} (m : Nat)
    (each : ∀ l : LaneId, Spans (o + m * l.val) (o + m * l.val + m) (f l) (g l)) (at_ : o + m * 4 = e := by omega) :
    Spans o e (allLanes.flatMap f) (allLanes.flatMap g) := by
  have places : ∀ p ∈ allLanes.zipIdx, p.2 = p.1.val := by decide
  exact flatMap (g := fun p => g p.1) m (fun l k member => (show l.val = k from (places _ member).symm) ▸ each l) at_

/-- One byte for each of the first numbers. -/
theorem bytes (o : Nat) (v : Nat → Nat) (n : Nat) :
    Spans o (o + n) ((List.range n).map fun k => byteOf (v k)) ((List.range n).map fun k => ⟨o + k, 1, v k⟩) := by
  induction n with
  | zero => exact nil rfl
  | succ n ih =>
    rw [List.range_succ, List.map_append, List.map_append]
    exact ih.append (byte nil)

/-- R179: the bytes after the last field are 0. -/
theorem padTo {e n : Nat} {b : List Byte} {L : List Field} (h : Spans 0 e b L) (room : e ≤ n) :
    Spans 0 n (padTo n b) L := by
  have length := h.length
  have all : (b ++ zeroBytes (n - b.length)).length = n := by simp [zeroBytes]; omega
  have rest : Spans e n (zeroBytes (n - b.length)) [] := by
    have ends : e + (n - b.length) = n := by omega
    have filled := zeros e (n - b.length)
    rwa [ends] at filled
  rw [Machine.padTo, List.take_of_length_le all.le, ← L.append_nil]
  exact h.append rest

end Spans

/-! ### The values of fields -/

theorem byteOf_toNat (x : Byte) : byteOf x.toNat = x := by
  rw [byteOf, BitVec.ofNat_toNat, BitVec.setWidth_eq]

theorem bit_eq_flag {b : Bool} {p : Prop} [Decidable p] (same : b = true ↔ p) : bit b = flag p := by
  simp only [bit, flag, same]

theorem bit_isSome {α : Type} (x : Option α) [Decidable (x ≠ none)] : bit x.isSome = flag (x ≠ none) :=
  bit_eq_flag Option.isSome_iff_ne_none

theorem bit_decide (p : Prop) [Decidable p] : bit (decide p) = flag p := bit_eq_flag decide_eq_true_iff

/-- A field of a value that may not be there is that of an empty value. -/
theorem map_getD_zero {α : Type} (x : Option α) (g : α → Nat) (d : α) (zero : g d = 0 := by rfl) :
    (x.map g).getD 0 = g (x.getD d) := by
  cases x with
  | none => exact zero.symm
  | some y => rfl

theorem byteOf_map_getD {α : Type} (x : Option α) (g : α → Byte) (d : α) (zero : g d = 0 := by rfl) :
    g (x.getD d) = byteOf ((x.map fun y => (g y).toNat).getD 0) := by
  cases x with
  | none => exact zero
  | some y => exact (byteOf_toNat (g y)).symm

/-- The lanes of a vector in ascending order. -/
theorem toList_lanes {α : Type} (v : Vector α 4) : v.toList = [v[0], v[1], v[2], v[3]] := by
  obtain ⟨⟨l⟩, h⟩ := v
  match l, h with
  | [a, b, c, d], _ => rfl

/-! ### The header (R163, chapter 11.2) -/

theorem headerBytes_spans (s : State) (sel : Selection) : Spans 0 16
    (headerBytes sel.kind sel.source.byte sel.length (moreFlag s sel.source sel.kind) s.writer.seq s.us)
    (headerLayout s sel) := by
  obtain ⟨source, kind, length⟩ := sel
  cases source with
  | status =>
    simp only [headerBytes, List.append_assoc, List.cons_append, List.nil_append]
    exact .byte (holds := (byteOf_toNat _).symm) <| .byte <| .byte <| .byte <| .field <| .field <| .zeros 12 4
  | slot i =>
    have more : bit (moreFlag s (.slot i) kind) = flag (∃ k ∈ pendingKinds s (.slot i), k ≠ kind) :=
      bit_eq_flag (by simp [moreFlag])
    simp only [headerBytes, more, List.append_assoc, List.cons_append, List.nil_append]
    exact .byte (holds := (byteOf_toNat _).symm) <| .byte <| .byte <| .byte <| .field <| .field <| .zeros 12 4

/-! ### VERDICT (chapter 11.2.1) -/

theorem summaryBytes_spans (sl : Slot) : Spans 16 32 (summaryBytes sl) (summaryLayout sl) := by
  have plug : (sl.identity.getD ⟨none, none, 0⟩).plugId = sl.identity.bind PlugIdentity.plugId := by
    cases sl.identity <;> rfl
  have loop : (sl.identity.getD ⟨none, none, 0⟩).loopMap = sl.identity.bind PlugIdentity.loopMap := by
    cases sl.identity <;> rfl
  simp only [summaryBytes, plug, loop, bit_isSome, List.append_assoc, List.cons_append, List.nil_append]
  exact .byte <| .byte <| .byte <| .byte <| .byte <| .byte (holds := congrArg byteOf (map_getD_zero ..).symm) <|
    .byte (holds := byteOf_map_getD _ PlugId.flags _) <|
    .byte (holds := by cases sl.identity.bind PlugIdentity.loopMap with
      | none => rfl
      | some m => exact (byteOf_toNat m.flags).symm) <|
    .field (holds := map_getD_zero ..) <| .byte (holds := byteOf_map_getD _ PlugId.revision _) <|
    .byte (holds := congrArg byteOf (map_getD_zero ..).symm) <| .last (holds := map_getD_zero ..)

theorem laneSection_spans (sl : Slot) (o : Nat) (l : LaneId) :
    Spans o (o + 32) (laneSection sl l) (sectionLayout sl o l) := by
  simp only [laneSection, bit_decide, bit_isSome, List.append_assoc, List.cons_append, List.nil_append]
  exact .byte <| .byte (holds := by cases sl.wiring[l.val].source <;> rfl) <| .byte <| .byte <| .byte <| .byte <|
    .byte <| .byte (holds := byteOf_map_getD _ Capture.frameCount _) <| .field <| .field <| .field <| .field <|
    .field (holds := map_getD_zero ..) <| .field (holds := map_getD_zero ..) <| .last (holds := map_getD_zero ..)

theorem verdictBytes_spans (sl : Slot) :
    Spans 16 (32 + 32 * (maskLanes sl).length + 8 * sl.findings.length) (verdictBytes sl) (verdictLayout sl) := by
  have sections : Spans 32 (32 + 32 * (maskLanes sl).length) ((maskLanes sl).flatMap (laneSection sl))
      ((maskLanes sl).zipIdx.flatMap fun (l, k) => sectionLayout sl (32 + 32 * k) l) :=
    .flatMap 32 (fun l k _ => laneSection_spans sl _ l) rfl
  refine ((summaryBytes_spans sl).append sections).append (.flatMap 8 (fun f k _ => ?_) rfl)
  refine .byte (holds := (byteOf_toNat _).symm) <| .byte (holds := ?_) <| .byte <| .gap <| .last
  cases f.lane <;> rfl

/-! ### SCAN, PROGRESS and EVENT (chapter 11.2.2) -/

/-- The counts of a lane, one byte for each position. -/
theorem counts_spans (counts : Vector Nat 32) (o : Nat) : Spans o (o + 32) (counts.toList.map byteOf)
    (counts.toList.zipIdx.map fun (n, p) => ⟨o + p, 1, n⟩) := by
  rw [List.map_eq_flatMap, List.map_eq_flatMap]
  exact .flatMap 1 (fun n p _ => .byte .nil) (by simp)

theorem scanBytes_spans (sl : Slot) : Spans 16 160 (scanBytes sl) (scanLayout sl) := by
  refine Spans.perm (.append (m := 32) (.lanes 4 fun l => ?_) (.lanes 32 fun l => counts_spans _ _))
    (List.flatMap_append_perm ..)
  have report : sl.scanReport l = reportedScan sl l := rfl
  simp only [report]
  refine .byte (holds := ?_) <| .byte <| .byte <| .byte (holds := ?_) <| .nil
  · cases (reportedScan sl l).broken <;> rfl
  · cases (reportedScan sl l).broken <;> rfl

theorem progressBytes_spans (sl : Slot) : ∃ e ≤ 64, Spans 16 e (progressBytes sl) (progressLayout sl) := by
  unfold progressBytes progressLayout
  cases sl.frozen with
  | none => exact ⟨16, by decide, .nil⟩
  | some f =>
    refine ⟨64, by decide, ?_⟩
    have lanes : f.lanes.toList = [f.lanes[0], f.lanes[1], f.lanes[2], f.lanes[3]] := toList_lanes f.lanes
    have each (l : LaneId) : Spans (32 + 8 * l.val) (32 + 8 * l.val + 8)
        (leBytes 4 f.lanes[l.val].blocks ++ leBytes 2 f.lanes[l.val].errors ++
          [byteOf f.lanes[l.val].drops, byteOf f.lanes[l.val].state.code])
        [⟨32 + 8 * l.val, 4, f.lanes[l.val].blocks⟩, ⟨36 + 8 * l.val, 2, f.lanes[l.val].errors⟩,
          ⟨38 + 8 * l.val, 1, f.lanes[l.val].drops⟩, ⟨39 + 8 * l.val, 1, f.lanes[l.val].state.code⟩] := by
      simp only [List.append_assoc]
      exact .field <| .field <| .byte <| .byte <| .nil
    simp only [lanes]
    have head : Spans 16 32 ([byteOf f.checkpoints, byteOf (bit f.snapshot)] ++ zeroBytes 14)
        [⟨16, 1, f.checkpoints⟩, ⟨17, 1, flag (f.snapshot = true)⟩] :=
      .byte <| .byte <| .zeros 18 14
    exact head.append (.lanes 8 each)

theorem eventBytes_spans (sl : Slot) : Spans 16 21 (eventBytes sl) (eventLayout sl) :=
  .field <| .byte <| .byte <| .byte <| .nil

/-! ### STATUS (chapter 11.2.3) -/

/-- R168: the Scan Queue's slots, and 0xFF for each place behind them. -/
theorem queueBytes_eq {q : List SlotId} (short : q.length ≤ 12) :
    (q.map fun i => byteOf i.val) ++ List.replicate (12 - q.length) 0xFF =
      (List.range 12).map fun k => byteOf (((q[k]?).map Fin.val).getD 255) := by
  refine List.ext_getElem (by simp; omega) fun k _ _ => ?_
  rw [List.getElem_map, List.getElem_range]
  by_cases queued : k < q.length
  · rw [List.getElem_append_left (by rwa [List.length_map]), List.getElem_map, List.getElem?_eq_getElem queued]
    rfl
  · rw [List.getElem_append_right (by rw [List.length_map]; omega), List.getElem_replicate,
      List.getElem?_eq_none (by omega)]
    rfl

/-- The bytes of a STATUS record in the parts of its layout. -/
theorem statusBytes_eq {s : State} (short : s.scanner.queue.length ≤ 12) : statusBytes s =
    s.path.windows.toList.flatMap windowBytes ++ ringBytes s.writer ++ s.slots.toList.flatMap slotBytes ++
      ((List.range 12).map fun k => byteOf (((s.scanner.queue[k]?).map Fin.val).getD 255)) ++
      ([byteOf (s.sideband.queue.length - hostEntries s.sideband.queue),
        byteOf (hostEntries s.sideband.queue), byteOf s.timebase.prescale, byteOf s.timebase.postscale] ++
        leBytes 2 s.timebase.period ++ zeroBytes 2) ++
      s.patterns.toList.flatMap patternBytes ++ (countBytes s.decoder.counts ++ attentionBytes s.attention) := by
  simp only [statusBytes, ← queueBytes_eq short, List.append_assoc]

theorem windowBytes_spans (w : Window) (k : Nat) : Spans (16 + 8 * k) (16 + 8 * k + 8) (windowBytes w)
    [⟨16 + 8 * k, 4, w.base.toNat / 4096⟩, ⟨20 + 8 * k, 2, w.size / 4096⟩,
     ⟨22 + 8 * k, 1, w.role.code⟩, ⟨23 + 8 * k, 1, w.pattern.val⟩] := by
  simp only [windowBytes, List.append_assoc]
  exact .field <| .field <| .byte <| .byte <| .nil

theorem ringBytes_spans (w : Writer) : Spans 80 104 (ringBytes w)
    [⟨80, 4, ((w.ring.map fun r => r.base.toNat).getD 0) / 4096⟩,
     ⟨84, 2, ((w.ring.map Ring.size).getD 0) / 4096⟩, ⟨86, 1, flag (w.broken = true)⟩,
     ⟨88, 4, w.write⟩, ⟨92, 4, w.oldest⟩, ⟨96, 4, w.used⟩, ⟨100, 2, w.list.length⟩, ⟨102, 2, w.seq.toNat⟩] := by
  simp only [ringBytes, List.append_assoc, List.cons_append, List.nil_append]
  refine .field (holds := ?_) <| .field (holds := ?_) <| .byte <| .gap <| .field <| .field <| .field <| .field <|
    .last
  · cases w.ring <;> rfl
  · cases w.ring <;> rfl

theorem countBytes_spans (c : Counts) : Spans 180 208 (countBytes c)
    [⟨180, 4, c.commandsTaken⟩, ⟨184, 4, c.commandsRefused⟩, ⟨188, 4, c.partialWrites⟩,
     ⟨192, 4, c.commandWritesFailed⟩, ⟨196, 4, c.crossingRequests⟩, ⟨200, 4, c.trespassWrites⟩,
     ⟨204, 4, c.insertedWritesFailed⟩] := by
  simp only [countBytes, List.append_assoc]
  exact .field <| .field <| .field <| .field <| .field <| .field <| .last

theorem attentionBytes_spans (a : Attention) : Spans 208 224 (attentionBytes a)
    [⟨208, 1, flag (a.lineEnable = true) + 2 * flag (a.wordEnable = true)⟩, ⟨209, 1, a.mask.toNat⟩,
     ⟨210, 1, a.threshold⟩, ⟨211, 1, a.delay⟩, ⟨212, 5, a.address.toNat⟩, ⟨220, 4, a.count.toNat⟩] := by
  simp only [attentionBytes, List.append_assoc, List.cons_append, List.nil_append]
  exact .byte <| .byte (holds := (BitVec.ofNat_toNat 8 a.mask).symm) <| .byte <| .byte <| .field <|
    .append (L := []) (.zeros 217 3) .last

theorem statusBytes_spans {s : State} (short : s.scanner.queue.length ≤ 12) :
    Spans 16 224 (statusBytes s) (statusLayout s) := by
  have windows : Spans 16 80 (s.path.windows.toList.flatMap windowBytes) (s.path.windows.toList.zipIdx.flatMap
      fun (w, k) => [⟨16 + 8 * k, 4, w.base.toNat / 4096⟩, ⟨20 + 8 * k, 2, w.size / 4096⟩,
        ⟨22 + 8 * k, 1, w.role.code⟩, ⟨23 + 8 * k, 1, w.pattern.val⟩]) :=
    .flatMap 8 (fun w k _ => windowBytes_spans w k) (by simp)
  have slots : Spans 104 128 (s.slots.toList.flatMap slotBytes) (s.slots.toList.zipIdx.flatMap fun (sl, k) =>
      [⟨104 + 2 * k, 1, sl.state.code⟩, ⟨105 + 2 * k, 1, sl.attempts + 16 * sl.profileNumber.val⟩]) :=
    .flatMap 2 (fun sl k _ => .byte <| .byte <| .nil) (by simp)
  have patterns : Spans 148 180 (s.patterns.toList.flatMap patternBytes) (s.patterns.toList.zipIdx.flatMap
      fun (p, k) => [⟨148 + 8 * k, 1, p.length⟩, ⟨149 + 8 * k, 1, p.inUse⟩, ⟨152 + 8 * k, 4, p.valid.toNat⟩]) :=
    .flatMap 8 (fun p k _ => .byte <| .byte <| .gap <| .gap <| .last) (by simp)
  have settings : Spans 140 148 ([byteOf (s.sideband.queue.length - hostEntries s.sideband.queue),
        byteOf (hostEntries s.sideband.queue), byteOf s.timebase.prescale, byteOf s.timebase.postscale] ++
        leBytes 2 s.timebase.period ++ zeroBytes 2)
      [⟨140, 1, s.sideband.queue.length - (s.sideband.queue.filter SbEntry.isHost).length⟩,
       ⟨141, 1, (s.sideband.queue.filter SbEntry.isHost).length⟩, ⟨142, 1, s.timebase.prescale⟩,
       ⟨143, 1, s.timebase.postscale⟩, ⟨144, 2, s.timebase.period⟩] := by
    exact .byte <| .byte <| .byte <| .byte <| .field <| .zeros 146 2
  rw [statusBytes_eq short]
  exact (((((windows.append (ringBytes_spans s.writer)).append slots).append (.bytes 128 _ 12)).append
    settings).append patterns).append ((countBytes_spans s.decoder.counts).append (attentionBytes_spans s.attention))

/-! ### The record (R163, R168) -/

/-- R164: a slot has no STATUS record pending, nor a PAD. -/
theorem kind_of_slotPending {x : Slot} {kind : RecordKind} (pending : kind ∈ x.pendingKinds) :
    kind = .event ∨ kind = .progress ∨ kind = .scan ∨ kind = .verdict := by
  simp only [Slot.pendingKinds, List.mem_append, List.mem_ite_nil_right, List.mem_singleton] at pending
  tauto

theorem kind_of_statusPending {s : State} {kind : RecordKind} (pending : kind ∈ pendingKinds s .status) :
    kind = .status := by
  simp only [pendingKinds, List.mem_ite_nil_right, List.mem_singleton] at pending
  exact pending.2

theorem verdictLength_bounds (sl : Slot) :
    verdictLength sl % 32 = 0 ∧ 32 + 32 * (maskLanes sl).length + 8 * sl.findings.length ≤ verdictLength sl ∧
      verdictLength sl < 32 + 32 * (maskLanes sl).length + 8 * sl.findings.length + 32 := by
  have length : verdictLength sl = (32 + 32 * (maskLanes sl).length + 8 * sl.findings.length + 31) / 32 * 32 := rfl
  omega

/-- R163, R168: the content of a pending kind holds its layout and fits the record. -/
theorem contentBytes_spans {s : State} {src : RecSource} {kind : RecordKind} (len : Nat)
    (pending : kind ∈ pendingKinds s src) (short : s.scanner.queue.length ≤ 12) :
    ∃ e ≤ recordLength s src kind, Spans 16 e (contentBytes s src kind) (contentLayout s ⟨src, kind, len⟩) := by
  cases src with
  | status =>
    obtain rfl : kind = .status := kind_of_statusPending pending
    exact ⟨224, show 224 ≤ 256 by decide, statusBytes_spans short⟩
  | slot i =>
    obtain rfl | rfl | rfl | rfl := kind_of_slotPending pending
    · exact ⟨21, show 21 ≤ 32 by decide, eventBytes_spans _⟩
    · exact progressBytes_spans (s.slot i)
    · exact ⟨160, show 160 ≤ 192 by decide, scanBytes_spans _⟩
    · obtain ⟨-, above, -⟩ := verdictLength_bounds (s.slot i)
      exact ⟨_, above, verdictBytes_spans _⟩

theorem recordBytes_spans {s : State} {sel : Selection} (pending : sel.kind ∈ pendingKinds s sel.source)
    (length : sel.length = recordLength s sel.source sel.kind) (short : s.scanner.queue.length ≤ 12) :
    Spans 0 sel.length (recordBytes s sel) (headerLayout s sel ++ contentLayout s sel) := by
  obtain ⟨e, room, content⟩ := contentBytes_spans sel.length pending short
  exact ((headerBytes_spans s sel).append content).padTo (room.trans length.ge)

/-! ### The start of the write (R166, R167) -/

theorem settle_inFlight (s : State) : (settle s).writer.inFlight = s.writer.inFlight := by rw [settle_settled s]

/-- R166: the write of a selection that fits before the end of the ring starts. -/
theorem startWrite_record {s : State} {sel : Selection} {r : Ring} (held : s.writer.selection = some sel)
    (free : s.writer.inFlight = none) (ring : s.writer.ring = some r)
    (before : s.writer.write + sel.length ≤ r.size) (room : s.writer.used + sel.length ≤ r.size) :
    ∃ u, exec .recordWriteStart s = .next u ∧ u.writer.inFlight = some (recordInFlight s r sel) := by
  have waits : s.writer.waitingSelection = some sel := by rw [Writer.waitingSelection, free, held]; rfl
  have noPad : s.writer.padNeeded r.size sel.length = false := by simpa [Writer.padNeeded] using before
  have fits : s.writer.fits sel.length = true :=
    (fits_iff ring sel.length).2 ⟨fun pad => absurd (noPad.symm.trans pad) nofun, fun _ => by omega⟩
  have begun : startWrite s = clearPending sel.source sel.kind (s.modWriter fun w =>
      { w with inFlight := some (recordInFlight s r sel), selection := none }) := by
    simp only [startWrite, waits, ring, fits, noPad, if_true, Bool.false_eq_true, if_false]
  obtain ⟨-, -, -, writer⟩ := clearPending_apart sel.source sel.kind (s.modWriter fun w =>
      { w with inFlight := some (recordInFlight s r sel), selection := none })
  refine ⟨_, exec_recordWriteStart waits fits, ?_⟩
  rw [settle_inFlight, begun, writer]
  rfl

/-- Settles O53: the parts of the record follow one another, each with its layout. -/
theorem recordsCarryTheirLayouts : Obligations.RecordsCarryTheirLayouts := by
  refine ⟨fun s sel r held free ring pending length short _ before room => ?_, fun s i => ?_, by decide⟩
  · obtain ⟨u, started, flies⟩ := startWrite_record held free ring before room
    have spans := recordBytes_spans pending length short
    exact ⟨u, _, recordBytes s sel, started, flies, rfl, rfl, (Nat.zero_add _).symm.trans spans.length, spans.carries⟩
  · obtain ⟨units, above, below⟩ := verdictLength_bounds (s.slot i)
    exact ⟨units, above, below, rfl, rfl, rfl, rfl⟩

end Sys2Proof.Machine
end

section
/-! PROOF. The end of an event (R164 to R166, R173 to R176): the selection it makes, and the evaluation of the
attention condition. -/

namespace Sys2Proof.Machine

open Sys2Proof Sys2Proof.Safety

/-! ### The parts of the condition (R174, R176) -/

theorem Writer.stalled_iff (w : Writer) : w.stalled = true ↔
    ∃ sel, w.selection = some sel ∧ w.inFlight = none ∧ w.fits sel.length = false := by
  cases flies : w.inFlight with
  | some f => simp [Writer.stalled, Writer.waitingSelection, flies]
  | none => cases held : w.selection <;> simp [Writer.stalled, Writer.waitingSelection, flies, held]

section
variable (s : State)

theorem threshold_iff : (attentionParts s).1 = true ↔
    s.attention.threshold ≤ (s.writer.list.filter fun p => kindInMask s.attention.mask p.kind).length :=
  decide_eq_true_iff

theorem age_iff : (attentionParts s).2.1 = true ↔ s.attention.delay ≠ 0 ∧ s.attention.age = .expired := by
  simp [attentionParts]

theorem stall_iff : (attentionParts s).2.2 = true ↔ s.attention.mask.getLsbD 5 = true ∧
    (s.writer.broken = true ∨ ∃ sel, s.writer.selection = some sel ∧ s.writer.inFlight = none ∧
      s.writer.fits sel.length = false) := by
  simp only [attentionParts, Bool.and_eq_true, Bool.or_eq_true, Writer.stalled_iff]
  rw [or_comm]

theorem attentionTrue_iff : attentionTrue s = true ↔
    (attentionParts s).1 = true ∨ (attentionParts s).2.1 = true ∨ (attentionParts s).2.2 = true := by
  simp [attentionTrue, or_assoc]

/-- R176: the reason flags are the parts of the condition. -/
theorem attentionReasons_bits : (attentionReasons s).getLsbD 0 = (attentionParts s).1 ∧
    (attentionReasons s).getLsbD 1 = (attentionParts s).2.1 ∧
    (attentionReasons s).getLsbD 2 = (attentionParts s).2.2 := by
  have bits : ∀ threshold age stall : Bool,
      let reasons := BitVec.ofNat 3 (bit threshold + 2 * bit age + 4 * bit stall)
      reasons.getLsbD 0 = threshold ∧ reasons.getLsbD 1 = age ∧ reasons.getLsbD 2 = stall := by decide
  exact bits ..

end

/-! ### The evaluation of the condition (R174 to R176) -/

section
variable {s : State}

/-- R174, R176: a change to true. -/
theorem evaluate_rises (now : attentionTrue s = true) (before : s.attention.condition = false) :
    (evaluate s).attention = { s.attention with
      condition := true, count := s.attention.count + 1
      waiting := if s.attention.wordEnable then some (attentionWord s (s.attention.count + 1))
        else s.attention.waiting } := by
  simp [evaluate, now, before]

/-- R174: an evaluation that is no change to true. -/
theorem evaluate_of_not_rising (same : attentionTrue s = false ∨ s.attention.condition = true) :
    (evaluate s).attention = { s.attention with condition := attentionTrue s } := by
  unfold evaluate
  split
  · rename_i e
    rw [e]
  · rename_i changes
    have off : attentionTrue s = false := same.elim id fun on => by simpa [on] using changes
    simp [off]

theorem evaluate_condition : (evaluate s).attention.condition = attentionTrue s := by
  by_cases rises : attentionTrue s = true ∧ s.attention.condition = false
  · rw [evaluate_rises rises.1 rises.2, rises.1]
  · have same : attentionTrue s = false ∨ s.attention.condition = true :=
      (Decidable.not_and_iff_not_or_not.1 rises).imp eq_false_of_ne_true eq_true_of_ne_false
    rw [evaluate_of_not_rising same]

end

/-- R174 to R176: what an evaluation at the end of an event leaves in `t`, where the event's effect but for the
selection is `s`. -/
def Evaluated (s t : State) : Prop :=
  let a := s.attention
  let b := t.attention
  let w := t.writer
  let threshold := a.threshold ≤ (s.writer.list.filter fun p => kindInMask a.mask p.kind).length
  let age := a.delay ≠ 0 ∧ a.age = .expired
  let stall := a.mask.getLsbD 5 = true ∧ (w.broken = true ∨
    ∃ sel, w.selection = some sel ∧ w.inFlight = none ∧ w.fits sel.length = false)
  (b.condition = true ↔ threshold ∨ age ∨ stall) ∧
  (b.condition = true ∧ a.condition = false → b.count = a.count + 1 ∧
    (a.wordEnable = false → b.waiting = a.waiting) ∧
    (a.wordEnable = true → ∃ word, b.waiting = some word ∧ word.addr = a.address ∧
      word.seq = s.writer.seq - 1 ∧ word.records = s.writer.list.length ∧
      word.count = a.count + 1 ∧ (word.reasons.getLsbD 0 = true ↔ threshold) ∧
      (word.reasons.getLsbD 1 = true ↔ age) ∧ (word.reasons.getLsbD 2 = true ↔ stall))) ∧
  (b.condition = false ∨ a.condition = true → b.count = a.count ∧ b.waiting = a.waiting) ∧
  (attnAsserted t = true ↔ b.condition = true ∧ a.lineEnable = true ∧ s.porst = false)

theorem evaluate_evaluated (s : State) : Evaluated s (evaluate s) := by
  obtain ⟨bit0, bit1, bit2⟩ := attentionReasons_bits s
  have line : (evaluate s).attention.lineEnable = s.attention.lineEnable := by rw [evaluate_frame]
  have porst : (evaluate s).porst = s.porst := by rw [evaluate_frame]
  simp only [Evaluated, evaluate_writer, ← threshold_iff s, ← age_iff s, ← stall_iff s, evaluate_condition]
  refine ⟨attentionTrue_iff s, fun ⟨now, before⟩ => ?_, fun same => ?_, ?_⟩
  · rw [evaluate_rises now before]
    refine ⟨rfl, fun off => if_neg (by simp [off]), fun on => ⟨_, if_pos on, rfl, rfl, rfl, rfl, ?_⟩⟩
    exact ⟨by rw [← bit0]; rfl, by rw [← bit1]; rfl, by rw [← bit2]; rfl⟩
  · rw [evaluate_of_not_rising same]
    exact ⟨rfl, rfl⟩
  · simp [attnAsserted, evaluate_condition, line, porst, and_assoc]

/-! ### The selection (R165) -/

theorem Writer.free_iff (w : Writer) : w.free = true ↔
    w.selection = none ∧ w.inFlight = none ∧ w.abandoned = none ∧ w.ring ≠ none ∧ w.broken = false := by
  simp [Writer.free, and_assoc, Option.isSome_iff_ne_none]

section
variable {s : State}

theorem dropStale_of_pending (pending : ∀ sel, s.writer.selection = some sel → sel.kind ∈ pendingKinds s sel.source) :
    dropStale s = s := by
  unfold dropStale
  split
  · rfl
  · rename_i sel held
    exact if_pos (pending sel held)

theorem dropStale_of_stale (stale : ∀ sel, s.writer.selection = some sel → sel.kind ∉ pendingKinds s sel.source) :
    dropStale s = { s with writer := { s.writer with selection := none } } := by
  unfold dropStale
  split
  · rename_i none
    rw [← none]
  · rename_i sel held
    exact if_neg (stale sel held)

theorem select_of_not_free (busy : ¬ s.writer.free = true) : select s = s := if_neg busy

theorem select_of_first {before after : List RecSource} {src : RecSource} {kind : RecordKind}
    {kinds : List RecordKind} (free : s.writer.free = true)
    (order : sourcesAfter s.writer.lastSource = before ++ src :: after)
    (nothing : ∀ q ∈ before, pendingKinds s q = []) (first : pendingKinds s src = kind :: kinds) :
    select s = { s with writer := { s.writer with
      selection := some ⟨src, kind, recordLength s src kind⟩, lastSource := src } } := by
  have passed : before.findSome? (fun q => (pendingKinds s q).head?.map fun k => (q, k)) = none :=
    List.findSome?_eq_none_iff.2 fun q earlier => by rw [nothing q earlier]; rfl
  have chosen : chooseSource s = some (src, kind) := by
    rw [chooseSource, order, List.findSome?_append, passed, List.findSome?_cons, first]
    rfl
  simp only [select, free, chosen, if_true]
  rfl

theorem select_of_nothing (nothing : ∀ q, pendingKinds s q = []) : select s = s := by
  have chosen : chooseSource s = none :=
    List.findSome?_eq_none_iff.2 fun q _ => by rw [nothing q]; rfl
  simp only [select, chosen, ite_self]

theorem settle_writer : (settle s).writer = (select (dropStale s)).writer := evaluate_writer _

/-- R165: a writer with a selection that stands, or with none to make, goes on as it is. -/
theorem settle_writer_of_not_free
    (pending : ∀ sel, s.writer.selection = some sel → sel.kind ∈ pendingKinds s sel.source)
    (busy : ¬ s.writer.free = true) : (settle s).writer = s.writer := by
  rw [settle_writer, dropStale_of_pending pending, select_of_not_free busy]

end

/-- R165: the selection changes nothing else of the part. -/
theorem select_dropStale_frame (s : State) : select (dropStale s) = { s with writer := { s.writer with
    selection := (select (dropStale s)).writer.selection
    lastSource := (select (dropStale s)).writer.lastSource } } := by
  have dropped : dropStale s = { s with writer := { s.writer with
      selection := (dropStale s).writer.selection } } := by
    unfold dropStale
    split
    · rfl
    · split <;> rfl
  have selected (v : State) : select v = { v with writer := { v.writer with
      selection := (select v).writer.selection, lastSource := (select v).writer.lastSource } } := by
    obtain e | ⟨src, kind, -, e⟩ := select_cases v
    · rw [e]
    · rw [e]
      rfl
  refine (selected _).trans ?_
  rw [dropped]

/-- What an event's end evaluates is the event's effect but for the selection, which `Evaluated` takes from the
state that it leaves. -/
theorem settle_evaluated (s : State) : Evaluated s (settle s) := by
  have evaluated := evaluate_evaluated (select (dropStale s))
  rw [select_dropStale_frame s] at evaluated
  have same : settle s = evaluate { s with writer := { s.writer with
      selection := (select (dropStale s)).writer.selection
      lastSource := (select (dropStale s)).writer.lastSource } } :=
    congrArg evaluate (select_dropStale_frame s)
  rw [same]
  exact evaluated

/-! ### The age timer, the order of the sources and the kinds (R164, R165, R174) -/

theorem exec_ageTimerExpiry {s : State} {e : BitVec 48} (runs : s.attention.age = .running e)
    (due : reached s.us e = true) : exec .ageTimerExpiry s =
      .next (evaluate { s with attention := { s.attention with age := .expired } }) := by
  have comes : ageDue s = true := by simp only [ageDue, runs, due]
  exact if_pos comes

/-- Settles O16, with the selection by the state of the writer and of what is pending. -/
theorem eventsEndInSelectionAndAttention : Obligations.EventsEndInSelectionAndAttention := by
  refine ⟨fun s => ⟨settle_evaluated s, settle_settled s, fun sel held pending => ?_, fun stale => ?_⟩,
    fun s => ⟨evaluate_evaluated s, evaluate_settled s, evaluate_writer s⟩, fun s e runs due => ?_,
    by decide, by decide, fun s => ⟨rfl, fun i => rfl⟩, fun mask => rfl⟩
  · refine settle_writer_of_not_free (fun other h => ?_) fun free => ?_
    · obtain rfl : sel = other := Option.some.inj (held.symm.trans h)
      exact pending
    · have none := ((Writer.free_iff _).1 free).1
      exact nomatch held.symm.trans none
  · let d : State := { s with writer := { s.writer with selection := none } }
    have dropped : (settle s).writer = (select d).writer := by rw [settle_writer, dropStale_of_stale stale]
    have free_iff : d.writer.free = true ↔ s.writer.inFlight = none ∧ s.writer.abandoned = none ∧
        s.writer.ring ≠ none ∧ s.writer.broken = false := (Writer.free_iff _).trans (and_iff_right rfl)
    refine ⟨fun free => ⟨fun before src after kind kinds order nothing first => ?_, fun nothing => ?_⟩, fun busy => ?_⟩
    · rw [dropped, select_of_first (s := d) (free_iff.2 free) order nothing first]
      rfl
    · rw [dropped, select_of_nothing (s := d) nothing]
    · rw [dropped, select_of_not_free]
      rw [free_iff]
      rintro ⟨inFlight, abandoned, ring, broken⟩
      simp [inFlight, abandoned, ring, broken] at busy
  · refine ⟨exec_ageTimerExpiry runs due, fun delay => ?_⟩
    rw [evaluate_condition, attentionTrue_iff, age_iff]
    exact .inr (.inl ⟨delay, rfl⟩)

end Sys2Proof.Machine
end

section
/-! PROOF. The start of a record's write (R163, R164, R166, R167): the bytes of its header, the pending mark it
clears, and what it leaves of the part. -/

namespace Sys2Proof.Machine

open Sys2Proof Sys2Proof.Safety

/-! ### The bytes of a record (R163, R167) -/

theorem length_padTo (n : Nat) (b : List Byte) : (padTo n b).length = n := by
  rw [padTo, List.length_take, List.length_append, zeroBytes, List.length_replicate]
  omega

/-- R163: a record of 16 bytes or more begins with its header. -/
theorem take_recordBytes {s : State} {sel : Selection} (long : 16 ≤ sel.length) : (recordBytes s sel).take 16 =
    headerBytes sel.kind sel.source.byte sel.length (moreFlag s sel.source sel.kind) s.writer.seq s.us := by
  have header := (headerBytes_spans s sel).length
  rw [Nat.zero_add] at header
  rw [recordBytes, padTo, List.take_take, Nat.min_eq_left long, List.append_assoc]
  exact List.take_left' header.symm

/-- R167: the status source has one kind only. -/
theorem bit_moreFlag_status (s : State) (kind : RecordKind) : bit (moreFlag s .status kind) = 0 := rfl

theorem bit_moreFlag_slot (s : State) (i : SlotId) (kind : RecordKind) : bit (moreFlag s (.slot i) kind) =
    if ∃ k ∈ pendingKinds s (.slot i), k ≠ kind then 1 else 0 :=
  bit_eq_flag (by simp [moreFlag])

/-! ### The write that starts (R164, R166, R167) -/

theorem waitingSelection_of_free {w : Writer} {sel : Selection} (held : w.selection = some sel)
    (free : w.inFlight = none) : w.waitingSelection = some sel := by
  rw [Writer.waitingSelection, free, held]
  rfl

section
variable {s : State} {sel : Selection} {r : Ring}

/-- R166: the room test against the bytes before the ring's end. -/
theorem fits_iff_room (ring : s.writer.ring = some r) (length : Nat) : s.writer.fits length = true ↔
    if s.writer.write + length ≤ r.size then length ≤ r.size - s.writer.used
    else r.size - s.writer.write + length ≤ r.size - s.writer.used := by
  rw [fits_iff ring]
  by_cases before : s.writer.write + length ≤ r.size
  · simp [Writer.padNeeded, before]
  · simp [Writer.padNeeded, before, Nat.lt_of_not_le before]

theorem exec_recordWriteStart_of_not_fits (waits : s.writer.waitingSelection = some sel)
    (tooLong : ¬ s.writer.fits sel.length = true) : exec .recordWriteStart s = .next s := by
  simp only [exec, execRecordWriteStart, waits, if_neg tooLong]

theorem startWrite_of_not_fits (waits : s.writer.waitingSelection = some sel)
    (tooLong : ¬ s.writer.fits sel.length = true) : startWrite s = s := by
  unfold startWrite
  split
  · rename_i other _ held _
    obtain rfl : sel = other := Option.some.inj (waits.symm.trans held)
    exact if_neg tooLong
  · rfl

/-- R166, R167: the write of a record that needs no PAD. -/
theorem startWrite_of_fits (waits : s.writer.waitingSelection = some sel) (ring : s.writer.ring = some r)
    (fits : s.writer.fits sel.length = true) (before : s.writer.write + sel.length ≤ r.size) :
    startWrite s = clearPending sel.source sel.kind { s with writer := { s.writer with
      inFlight := some (recordInFlight s r sel), selection := none } } := by
  have noPad : s.writer.padNeeded r.size sel.length = false := by simpa [Writer.padNeeded] using before
  show startWrite s = clearPending sel.source sel.kind (s.modWriter fun w =>
    { w with inFlight := some (recordInFlight s r sel), selection := none })
  simp only [startWrite, waits, ring, fits, noPad, if_true, Bool.false_eq_true, if_false]

/-- R166: the write of the PAD before a record. -/
theorem startWrite_of_pad (waits : s.writer.waitingSelection = some sel) (ring : s.writer.ring = some r)
    (fits : s.writer.fits sel.length = true) (past : r.size < s.writer.write + sel.length) :
    startWrite s = { s with writer := { s.writer with inFlight := some (padInFlight s r sel) } } := by
  have pad : s.writer.padNeeded r.size sel.length = true := decide_eq_true past
  show startWrite s = s.modWriter fun w => { w with inFlight := some (padInFlight s r sel) }
  simp only [startWrite, waits, ring, fits, pad, if_true]

end

/-! ### What the start of a write leaves (R164, R167) -/

section
variable (s : State)

theorem clearPending_frame (src : RecSource) (kind : RecordKind) : clearPending src kind s = { s with
    slots := (clearPending src kind s).slots
    decoder := { s.decoder with statusPending := (clearPending src kind s).decoder.statusPending } } := by
  unfold clearPending
  split <;> rfl

theorem startWrite_frame : startWrite s = { s with
    writer := { s.writer with
      selection := (startWrite s).writer.selection, inFlight := (startWrite s).writer.inFlight }
    slots := (startWrite s).slots
    decoder := { s.decoder with statusPending := (startWrite s).decoder.statusPending } } := by
  obtain e | ⟨sel, r, -, -, -, -, e⟩ | ⟨sel, r, -, -, -, -, e⟩ := startWrite_cases s
  · rw [e]
  · rw [e]
    rfl
  · rw [e, clearPending_frame]
    rfl

/-- The Record Writer after the event in which a write may have started. -/
theorem settle_startWrite_writer : (settle (startWrite s)).writer = { s.writer with
    selection := (settle (startWrite s)).writer.selection
    lastSource := (settle (startWrite s)).writer.lastSource
    inFlight := (startWrite s).writer.inFlight } := by
  refine (congrArg State.writer (settle_settled (startWrite s))).trans ?_
  rw [congrArg State.writer (startWrite_frame s)]

/-- Outside the Record Writer, a write that starts changes only pending marks, and the end of the event the
condition, the count and the waiting word. -/
theorem settle_startWrite_frame : settle (startWrite s) = { s with
    writer := (settle (startWrite s)).writer
    slots := (settle (startWrite s)).slots
    decoder := { s.decoder with statusPending := (settle (startWrite s)).decoder.statusPending }
    attention := { s.attention with
      condition := (settle (startWrite s)).attention.condition
      count := (settle (startWrite s)).attention.count
      waiting := (settle (startWrite s)).attention.waiting } } := by
  have ended := settle_settled (startWrite s)
  have writer := congrArg State.writer ended
  refine Eq.trans ended ?_
  rw [settle_slots, settle_decoder, writer, startWrite_frame s]

end

/-- Settles O52: the selection fits before the end of the ring, fits behind a PAD, or does not fit. -/
theorem selectedRecordsAreWritten : Obligations.SelectedRecordsAreWritten := by
  intro s sel r held free ring pending long inside w room header more
  have waits := waitingSelection_of_free held free
  have fits_iff := fits_iff_room ring sel.length
  refine ⟨fun before fitsRoom => ?_, fun past fitsRoom => ?_, fun tooLong => ?_⟩
  · have fits := fits_iff.2 ((if_pos before).symm ▸ fitsRoom)
    let begun : State := { s with writer := { s.writer with
      inFlight := some (recordInFlight s r sel), selection := none } }
    have started : startWrite s = clearPending sel.source sel.kind begun := startWrite_of_fits waits ring fits before
    have more_eq : bit (moreFlag s sel.source sel.kind) = more := by
      obtain ⟨source, kind, length⟩ := sel
      cases source with
      | status => exact bit_moreFlag_status s kind
      | slot i => exact bit_moreFlag_slot s i kind
    have writer : (startWrite s).writer = begun.writer := by
      obtain ⟨-, -, -, writer⟩ := clearPending_apart sel.source sel.kind begun
      rw [started, writer]
    have busy : ¬ (startWrite s).writer.free = true := fun h => by
      obtain ⟨-, inFlight, -⟩ := (Writer.free_iff _).1 h
      exact nomatch (congrArg Writer.inFlight writer).symm.trans inFlight
    have noSelection : (startWrite s).writer.selection = none := congrArg Writer.selection writer
    have ended : (settle (startWrite s)).writer = begun.writer :=
      (settle_writer_of_not_free (fun other h => nomatch noSelection.symm.trans h) busy).trans writer
    refine ⟨settle (startWrite s), recordInFlight s r sel, recordBytes s sel, exec_recordWriteStart waits fits,
      length_padTo .., ?_, ended, rfl, rfl, rfl, rfl, rfl, rfl, fun i => ?_, fun kind i source => ?_, fun kind => ?_,
      settle_startWrite_frame s⟩
    · rw [take_recordBytes long, headerBytes, more_eq]
      rfl
    · rw [settle_slot, started, clearPending_slot]
      rfl
    · show (if sel.kind = .event then flagsOf s sel.source else 0) = _
      rw [if_pos kind, source]
      rfl
    · have source : sel.source = .status := by
        cases source : sel.source with
        | status => rfl
        | slot i =>
          rw [source, kind] at pending
          obtain h | h | h | h := kind_of_slotPending pending <;> cases h
      rw [settle_decoder, started, source, kind]
      rfl
  · have fits := fits_iff.2 ((if_neg (Nat.not_le.2 past)).symm ▸ fitsRoom)
    intro pad
    rw [exec_recordWriteStart waits fits, startWrite_of_pad waits ring fits past]
    rfl
  · refine exec_recordWriteStart_of_not_fits waits fun fits => ?_
    have := fits_iff.1 fits
    split at this <;> omega

end Sys2Proof.Machine
end

section
/-! PROOF. A REPORT read answered OK (R166, R172, R174): the records it consumes, and the write of a waiting
selection that then fits. -/

namespace Sys2Proof.Machine

open Sys2Proof Sys2Proof.Safety

/-! ### Consumption (R172) -/

theorem headerCovered_iff (base : Addr) (p : Published) (addr : Addr) (beats : Nat) :
    headerCovered base p addr beats = true ↔
      addr.toNat ≤ base.toNat + p.offset ∧ base.toNat + p.offset + 16 ≤ addr.toNat + 16 * beats := by
  simp [headerCovered]

section
variable {covered : Published → Bool} {consumed rest : List Published}

/-- R172: the entries at the front whose headers are covered leave the list, up to the first that is not. -/
theorem consumeList_append (front : ∀ p ∈ consumed, covered p = true)
    (stop : ∀ p, rest.head? = some p → ¬ covered p = true) : consumeList covered (consumed ++ rest) = rest := by
  rw [consumeList_eq_dropWhile, List.dropWhile_append_of_pos front]
  cases rest with
  | nil => rfl
  | cons p ps => exact List.dropWhile_cons_of_neg (stop p rfl)

theorem consumedBytes_append (front : ∀ p ∈ consumed, covered p = true)
    (stop : ∀ p, rest.head? = some p → ¬ covered p = true) :
    consumedBytes covered (consumed ++ rest) = (consumed.map Published.length).sum := by
  rw [consumedBytes_eq_sum, List.takeWhile_append_of_pos front]
  cases rest with
  | nil => rw [List.takeWhile_nil, List.append_nil]
  | cons p ps => rw [List.takeWhile_cons_of_neg (stop p rfl), List.append_nil]

theorem Writer.consume_append {w : Writer} (list : w.list = consumed ++ rest)
    (front : ∀ p ∈ consumed, covered p = true) (stop : ∀ p, rest.head? = some p → ¬ covered p = true) :
    w.consume covered = { w with
      list := rest, used := w.used - (consumed.map Published.length).sum
      oldest := (rest.head?.map Published.offset).getD w.write } := by
  simp only [Writer.consume, list, consumeList_append front stop, consumedBytes_append front stop]
  cases rest <;> rfl

end

/-! ### The hand-off of the read (R3, R172) -/

/-- R3: the hand-off of a REPORT read answered OK. -/
theorem exec_forwardedResponse_report {s : State} {id : BitVec 8} {data : List Byte} {e : OutEntry}
    (found : s.path.out.find? (fun e => decide (e.id = id)) = some e) (kept : e.discarded = false)
    (role : e.cls.role = .report) (kind : e.kind = .read) : exec (.forwardedResponse id .ok data) s =
      .next (consumeRead e.addr e.beats { s with path := { s.path with
        out := s.path.out.eraseP fun e => decide (e.id = id)
        sysOut := some { id := id, status := .ok, data := data } } }) := by
  have matched : matchOut id s.path.out = some e := found
  rw [← dropOut_eq_eraseP]
  simp only [exec, execForwardedResponse, matched, kept, handOff, role, kind]
  rfl

section
variable {s : State} {r : Ring} {addr : Addr} {beats : Nat}

theorem consumeRead_of_uncovered (ring : s.writer.ring = some r)
    (none : ∀ p, s.writer.list.head? = some p → ¬ headerCovered r.base p addr beats = true) :
    consumeRead addr beats s = s := by
  simp only [consumeRead, ring]
  refine if_neg fun oldest => ?_
  cases list : s.writer.list with
  | nil => simp [list] at oldest
  | cons p ps =>
    rw [list] at none oldest
    exact none p rfl oldest

theorem consumeRead_of_covered {consumed rest : List Published} (ring : s.writer.ring = some r)
    (list : s.writer.list = consumed ++ rest) (some_ : consumed ≠ [])
    (front : ∀ p ∈ consumed, headerCovered r.base p addr beats = true)
    (stop : ∀ p, rest.head? = some p → ¬ headerCovered r.base p addr beats = true) :
    consumeRead addr beats s = settle (startWrite { s with
      writer := { s.writer with
        list := rest, used := s.writer.used - (consumed.map Published.length).sum
        oldest := (rest.head?.map Published.offset).getD s.writer.write }
      attention := { s.attention with age := ageFrom s.attention.mask s.attention.delay s.us rest } }) := by
  have oldest : s.writer.list.head?.any (fun p => headerCovered r.base p addr beats) = true := by
    cases consumed with
    | nil => exact absurd rfl some_
    | cons p ps =>
      rw [list]
      exact front p List.mem_cons_self
  simp only [consumeRead, ring, oldest, if_true, State.modWriter, Writer.consume_append list front stop, resetAge_eq]

end

/-- Settles O10, by whether the oldest header is covered, and then by whether the waiting selection fits. -/
theorem reportReadsConsume : Obligations.ReportReadsConsume := by
  intro s id data e r consumed rest found kept role kind ring list covered front stop path used age after fits
  have taken : exec (.forwardedResponse id .ok data) s = .next (consumeRead e.addr e.beats { s with path := path }) :=
    exec_forwardedResponse_report found kept role kind
  have covered_iff (p : Published) : headerCovered r.base p e.addr e.beats = true ↔ covered p := headerCovered_iff ..
  have front' : ∀ p ∈ consumed, headerCovered r.base p e.addr e.beats = true :=
    fun p h => (covered_iff p).2 (front p h)
  have stop' : ∀ p, rest.head? = some p → ¬ headerCovered r.base p e.addr e.beats = true :=
    fun p h => mt (covered_iff p).1 (stop p h)
  refine ⟨fun nothing => ?_, fun some_ => ?_⟩
  · have first : s.writer.list = rest := by rw [list, nothing, List.nil_append]
    rw [taken, consumeRead_of_uncovered (s := { s with path := path }) ring]
    intro p oldest
    exact stop' p (first ▸ oldest)
  · have consumes : exec (.forwardedResponse id .ok data) s = .next (settle (startWrite after)) :=
      taken.trans (congrArg _ (consumeRead_of_covered (s := { s with path := path }) ring list some_ front' stop'))
    have fits_iff (length : Nat) : after.writer.fits length = true ↔ fits length :=
      fits_iff_room (s := after) ring length
    have frame := settle_startWrite_frame after
    have writer := settle_startWrite_writer after
    refine ⟨fun sel held free fit => ?_, fun tooLong => ?_, settle (startWrite after), consumes,
      (congrArg Writer.list writer :), (congrArg Writer.used writer :), (congrArg Writer.oldest writer :),
      (congrArg Writer.write writer :), (congrArg Writer.seq writer :), (congrArg Writer.ring writer :),
      (congrArg Writer.broken writer :), frame⟩
    · have waits : after.writer.waitingSelection = some sel := waitingSelection_of_free held free
      rw [consumes, exec_recordWriteStart waits ((fits_iff sel.length).2 fit)]
    · have same : startWrite after = after := by
        cases waits : after.writer.waitingSelection with
        | none => exact startWrite_of_not_waiting waits
        | some sel =>
          obtain ⟨free, held⟩ := waitingSelection_eq_some waits
          exact startWrite_of_not_fits waits (mt (fits_iff sel.length).1 (tooLong sel held free))
      rw [consumes, same]

end Sys2Proof.Machine
end

section
/-! PROOF. The queue of the commands that wait (logs 5 and 28): no operation of the part changes it. The
transitions of the slots and the end of an event leave it by their frames, and every other operation writes named
parts of the state beside it. -/

namespace Sys2Proof.Safety

open Sys2Proof Sys2Proof.Machine

theorem SameOutsideTest.pending {s t : State} (h : SameOutsideTest s t) : t.pending = s.pending := by rw [h]

theorem SameButSettled.pending {s t : State} (h : SameButSettled s t) : t.pending = s.pending := by rw [h]

end Sys2Proof.Safety

namespace Sys2Proof.Machine

open Sys2Proof Sys2Proof.Safety

/-- Settles O1: the front of the queue decides the step. -/
theorem stepRunsTheFrontCommand : Obligations.StepRunsTheFrontCommand := by
  intro c rest s front
  rw [step, front]

/-! ### The Record Writer and the Attention Unit -/

section
variable (s : State)

@[simp] theorem evaluate_pending : (evaluate s).pending = s.pending := (evaluate_settled s).pending

@[simp] theorem resetAge_pending : (resetAge s).pending = s.pending := rfl

@[simp] theorem insertedFailed_pending : (insertedFailed s).pending = s.pending := rfl

@[simp] theorem startWrite_pending : (startWrite s).pending = s.pending := by rw [startWrite_frame]

@[simp] theorem publish_pending (f : InFlight) : (publish f s).pending = s.pending := by
  cases ring : s.writer.ring with
  | none => simp only [publish, ring]
  | some r =>
    rw [publish_eq ring, settle_pending, startWrite_pending, evaluate_pending]
    rfl

@[simp] theorem failRecord_pending (f : InFlight) : (failRecord f s).pending = s.pending := by
  rw [failRecord_eq, evaluate_pending]

@[simp] theorem pieceDone_pending (f : InFlight) : (pieceDone f s).pending = s.pending := by
  unfold pieceDone
  split
  · exact publish_pending s f
  · rfl

@[simp] theorem repended_pending : (repended s).pending = s.pending := by
  unfold repended
  split <;> rfl

@[simp] theorem ringReset_pending (keep : Bool) : (ringReset keep s).pending = s.pending := by
  rw [ringReset_eq]
  exact repended_pending s

@[simp] theorem consumeRead_pending (a : Addr) (beats : Nat) : (consumeRead a beats s).pending = s.pending := by
  simp only [consumeRead]
  split
  · rfl
  · split
    · rw [settle_pending, startWrite_pending, resetAge_pending, State.modWriter_pending]
    · rfl

end

/-! ### Command blocks -/

section
variable (s : State)

@[simp] theorem giveAnswer_pending (n : BlockId) (tag : BitVec 16) (a : Answer) :
    (giveAnswer n tag a s).pending = s.pending := by
  unfold giveAnswer
  split <;> rfl

theorem examine_pending {n : BlockId} {tag : BitVec 16} {faults : List (Bool × Nat × Nat)}
    {act : State → State × Option Answer} {s : State} (acts : (act s).1.pending = s.pending) :
    (examine n tag faults act s).pending = s.pending := by
  unfold examine
  split
  · exact giveAnswer_pending ..
  · split
    · rename_i acted
      rwa [acted] at acts
    · rename_i acted
      rw [acted] at acts
      exact (giveAnswer_pending ..).trans acts

theorem takeCandidate_pending {n : BlockId} {tag : BitVec 16} {body : State → State}
    (takes : ∀ s, (body s).pending = s.pending) : (takeCandidate n tag body s).pending = s.pending := by
  unfold takeCandidate
  split
  · rfl
  · simp only [settle_pending]
    split
    · exact giveAnswer_pending (countTaken s) ..
    · exact takes (countTaken s)

/-- A command that is examined leaves the queue where its effect does. -/
theorem takeExamined_pending {n : BlockId} {tag : BitVec 16} {faults : State → List (Bool × Nat × Nat)}
    {act : State → State × Option Answer} (acts : ∀ s, (act s).1.pending = s.pending) :
    (takeCandidate n tag (fun s => examine n tag (faults s) act s) s).pending = s.pending :=
  takeCandidate_pending s fun s => examine_pending (acts s)

@[simp] theorem actSetWindow_pending (h : BlockHead) (p : WindowParams) :
    (actSetWindow h p s).1.pending = s.pending := by
  simp only [actSetWindow]
  split
  · exact ringReset_pending _ true
  · rfl

@[simp] theorem actSetTimebase_pending (p : TimebaseParams) : (actSetTimebase p s).1.pending = s.pending := by
  unfold actSetTimebase
  split <;> rfl

@[simp] theorem actSideband_pending (n : BlockId) (h : BlockHead) (p : SidebandParams) :
    (actSideband n h p s).1.pending = s.pending := by
  simp only [actSideband]
  split
  · rfl
  · split
    · rfl
    · exact (sbJoin_test _ _).pending

@[simp] theorem takeBlock_pending (c : Instr) : (takeBlock c s).pending = s.pending := by
  cases c with
  | unknownCode n code h =>
    unfold takeBlock takeUnknown
    exact takeCandidate_pending s fun s => giveAnswer_pending s ..
  | setWindow n h p =>
    unfold takeBlock takeSetWindow
    exact takeExamined_pending s fun s => actSetWindow_pending s h p
  | setProfile n h p =>
    unfold takeBlock takeSetProfile
    exact takeExamined_pending s fun _ => rfl
  | definePattern n h l =>
    unfold takeBlock takeDefinePattern
    exact takeExamined_pending s fun s => (actDefinePattern_test h l s).pending
  | setTimebase n h p =>
    unfold takeBlock takeSetTimebase
    exact takeExamined_pending s fun s => actSetTimebase_pending s p
  | setAttention n h p =>
    unfold takeBlock takeSetAttention
    exact takeExamined_pending s fun _ => rfl
  | start n h =>
    unfold takeBlock takeStart
    exact takeExamined_pending s fun s => (actStart_test h s).pending
  | abort n h =>
    unfold takeBlock takeAbort
    exact takeExamined_pending s fun s => (actAbort_test h s).pending
  | retest n h =>
    unfold takeBlock takeRetest
    exact takeExamined_pending s fun s => (actRetest_test h s).pending
  | clear n h =>
    unfold takeBlock takeClear
    exact takeExamined_pending s fun s => (actClear_test h s).pending
  | snapshot n h =>
    unfold takeBlock takeSnapshot
    exact takeExamined_pending s fun s => (actSnapshot_test h s).pending
  | sideband n h p =>
    unfold takeBlock takeSideband
    exact takeExamined_pending s fun s => actSideband_pending s n h p
  | status n h =>
    unfold takeBlock takeStatus
    exact takeExamined_pending s fun _ => rfl
  | _ => rfl

@[simp] theorem takeCandidates_pending (blocks : List (BlockId × List Byte)) :
    (takeCandidates blocks s).pending = s.pending := by
  induction blocks generalizing s with
  | nil => rfl
  | cons b blocks ih => exact (ih _).trans (takeBlock_pending s _)

end

/-! ### The memory path -/

section
variable (s : State)

@[simp] theorem accept_pending (r : Request) : (accept r s).pending = s.pending := by
  simp only [accept, countAccepted_eq, State.modPath_pending]

@[simp] theorem handCommand_pending (cls : Class) (status : RespStatus) :
    (handCommand cls status s).pending = s.pending := by
  have partly : (if cls.partly then countPartial s else s).pending = s.pending := by split <;> rfl
  simp only [handCommand]
  split
  · exact (takeCandidates_pending _ _).trans partly
  · split <;> exact partly

@[simp] theorem handOff_pending (e : OutEntry) (status : RespStatus) : (handOff e status s).pending = s.pending := by
  unfold handOff
  split
  · exact handCommand_pending s ..
  · rfl
  · exact consumeRead_pending s ..
  all_goals rfl

@[simp] theorem joinNext_pending : (joinNext s).pending = s.pending := by rw [joinNext_frame]

@[simp] theorem joinUntilAnswered_pending (n : BlockId) (k : Nat) :
    (joinUntilAnswered n k s).pending = s.pending := by
  rw [joinUntilAnswered_frame]

@[simp] theorem recordAcked_pending (k : Fin 8) (status : RespStatus) :
    (recordAcked k status s).pending = s.pending := by
  unfold recordAcked
  split
  · split
    · cases status with
      | ok => exact pieceDone_pending s _
      | error => exact failRecord_pending s _
    · rfl
  · split
    · cases status <;> exact settle_pending _
    · rfl

@[simp] theorem producerAcked_pending (prod : Producer) (k : Fin 8) (status : RespStatus) :
    (producerAcked prod k status s).pending = s.pending := by
  cases prod with
  | record => exact recordAcked_pending s k status
  | decoder => cases status <;> rfl
  | attention => cases status <;> rfl

@[simp] theorem portReset_pending : (portReset s).pending = s.pending := by
  rw [portReset, evaluate_pending, ringReset_pending]
  exact (sidebandPortReset_test _).pending

end

/-! ### The sideband line and the timebase -/

section
variable (s : State)

@[simp] theorem hostEnd_pending (e : HostEntry) (r : TxnResult) : (hostEnd e r s).pending = s.pending := by
  have reported : (reportHost e r (headEnds s)).pending = (headEnds s).pending := by
    unfold reportHost
    split <;> rfl
  rw [hostEnd, joinUntilAnswered_pending, reported, (headEnds_test s).pending]

@[simp] theorem txnEnd_pending (r : TxnResult) : (txnEnd r s).pending = s.pending := by
  unfold txnEnd
  split
  · exact (engineFree_test s).pending
  · split
    · exact (engineFree_test s).pending
    · exact (walkGoesOn_test _ r s).pending
    · unfold hostWait
      split
      · exact hostEnd_pending s _ r
      · rfl

@[simp] theorem tryResult_pending (r : TryResult) : (tryResult r s).pending = s.pending := by
  cases r with
  | success bytes => exact txnEnd_pending s _
  | dataNak acked => exact txnEnd_pending s _
  | addressNak byte =>
    simp only [tryResult, tryFailed]
    split
    · exact (engineFree_test s).pending
    · split
      · rfl
      · exact txnEnd_pending s _

@[simp] theorem postWaited_pending : (postWaited s).pending = s.pending := by
  unfold postWaited
  split
  · exact hostEnd_pending s _ _
  · exact (engineFree_test s).pending

@[simp] theorem usTick_pending : (usTick s).pending = s.pending := by
  unfold usTick prescalerTick
  split
  · unfold periodTick
    split
    · unfold intervalTick
      split
      · exact (checkpointAll_test _).pending
      · rfl
    · rfl
  · rfl

@[simp] theorem tick_pending : (tick s).pending = s.pending := by
  unfold tick
  split
  · rw [settle_pending, usTick_pending]
  · exact usTick_pending s

/-- An event of a lane, told to its slot, to the scanner and to training, and ended. -/
theorem laneEvent_pending (i : SlotId) (l : LaneId) (x : Lane) (es : List LaneEvent) :
    (settle (laneReports i l x es s)).pending = s.pending := by
  rw [settle_pending, (laneReports_test i l x es s).pending]

end

/-! ### The commands -/

/-- A meaning that has an effect under a condition, and none without it. -/
theorem pending_of_guarded {c : Prop} [Decidable c] {s t u : State} (kept : t.pending = s.pending)
    (h : (if c then .next t else .next s : Result) = .next u) : u.pending = s.pending := by
  split at h <;> cases h
  · exact kept
  · rfl

section
variable {s t : State}

theorem execRequestAccept_pending {r : Request} (h : execRequestAccept r s = .next t) :
    t.pending = s.pending := by
  unfold execRequestAccept at h
  split at h
  · cases h
  · exact pending_of_guarded (accept_pending s r) h

theorem execForwardedIssue_pending (h : execForwardedIssue s = .next t) : t.pending = s.pending := by
  unfold execForwardedIssue at h
  split at h <;> cases h <;> rfl

theorem execInsertedIssue_pending (h : execInsertedIssue s = .next t) : t.pending = s.pending := by
  unfold execInsertedIssue at h
  split at h <;> cases h <;> rfl

theorem execForwardedResponse_pending {id : BitVec 8} {status : RespStatus} {data : List Byte}
    (h : execForwardedResponse id status data s = .next t) : t.pending = s.pending := by
  unfold execForwardedResponse at h
  split at h
  · cases h; rfl
  · split at h <;> cases h
    · rfl
    · exact handOff_pending ..

theorem execInsertAck_pending {place : BitVec 8} {status : RespStatus}
    (h : execInsertAck place status s = .next t) : t.pending = s.pending := by
  unfold execInsertAck at h
  split at h
  · cases h; rfl
  · split at h <;> cases h
    · rfl
    · exact producerAcked_pending ..

theorem execPortReset_pending (h : execPortReset s = .next t) : t.pending = s.pending := by
  unfold execPortReset at h
  split at h <;> cases h
  · rfl
  · exact portReset_pending s

theorem execUnknownCode_pending {n : BlockId} {code : Byte} {head : BlockHead}
    (h : execUnknownCode n code head s = .next t) : t.pending = s.pending := by
  unfold execUnknownCode at h
  split at h <;> cases h
  exact takeBlock_pending s (.unknownCode n code head)

theorem execFrameStart_pending {i : SlotId} {l : LaneId} (h : execFrameStart i l s = .next t) :
    t.pending = s.pending := by
  simp only [execFrameStart] at h
  split at h
  · cases h; rfl
  · split at h <;> cases h <;> rfl

theorem execFrameReceived_pending {i : SlotId} {l : LaneId} {payload : BitVec 4096}
    (h : execFrameReceived i l payload s = .next t) : t.pending = s.pending := by
  simp only [execFrameReceived] at h
  split at h
  · split at h <;> cases h
    · rw [settle_pending, (scanReport_test i l _ _).pending, State.withSlot_pending]
    · rfl
  · cases h; rfl

theorem execClockHeldLow_pending (h : execClockHeldLow s = .next t) : t.pending = s.pending := by
  unfold execClockHeldLow at h
  split at h <;> cases h
  · rfl
  · rw [settle_pending, endStuck, txnEnd_pending]
  all_goals rfl

theorem execRecordWriteStart_pending (h : execRecordWriteStart s = .next t) : t.pending = s.pending := by
  unfold execRecordWriteStart at h
  split at h
  · cases h; rfl
  · exact pending_of_guarded (by rw [settle_pending, startWrite_pending]) h

end

/-- Settles O2: each of the commands by what its operations leave. -/
theorem commandsLeaveTheQueue : Obligations.CommandsLeaveTheQueue := by
  intro c s t h
  cases c with
  | requestAccept r => exact execRequestAccept_pending h
  | forwardedIssue => exact execForwardedIssue_pending h
  | insertedIssue => exact execInsertedIssue_pending h
  | forwardedResponse id status data => exact execForwardedResponse_pending h
  | insertJoin => cases h; exact joinNext_pending s
  | insertAck place status => exact execInsertAck_pending h
  | portReset => exact execPortReset_pending h
  | portResetRelease => cases h; rfl
  | powerOnReset => cases h; rfl
  | powerOnResetRelease wbase => exact pending_of_guarded (by rfl) h
  | noneBlock n => cases h; rfl
  | unknownCode n code head => exact execUnknownCode_pending h
  | setWindow n head p => cases h; exact takeBlock_pending s (.setWindow n head p)
  | setProfile n head p => cases h; exact takeBlock_pending s (.setProfile n head p)
  | definePattern n head l => cases h; exact takeBlock_pending s (.definePattern n head l)
  | setTimebase n head p => cases h; exact takeBlock_pending s (.setTimebase n head p)
  | setAttention n head p => cases h; exact takeBlock_pending s (.setAttention n head p)
  | start n head => cases h; exact takeBlock_pending s (.start n head)
  | abort n head => cases h; exact takeBlock_pending s (.abort n head)
  | retest n head => cases h; exact takeBlock_pending s (.retest n head)
  | clear n head => cases h; exact takeBlock_pending s (.clear n head)
  | snapshot n head => cases h; exact takeBlock_pending s (.snapshot n head)
  | sideband n head p => cases h; exact takeBlock_pending s (.sideband n head p)
  | status n head => cases h; exact takeBlock_pending s (.status n head)
  | frameStart i l => exact execFrameStart_pending h
  | headerInHunt i l bits => exact pending_of_guarded (laneEvent_pending s i l _ _) h
  | headerInLock i l bits => exact pending_of_guarded (laneEvent_pending s i l _ _) h
  | frameReceived i l payload => exact execFrameReceived_pending h
  | relockTimeout i l => exact pending_of_guarded (laneEvent_pending s i l _ _) h
  | presNChange i asserted => cases h; exact (rawChanged_test i _ _).pending
  | energyDetectChange i l present => cases h; exact (rawChanged_test i _ _).pending
  | debounceExpiry i =>
    exact pending_of_guarded ((settle_pending _).trans (debounceTaken_test i s).pending) h
  | settleExpiry i => exact pending_of_guarded ((modSlot_test i _ s).trans (sbJoin_test _ _)).pending h
  | trainTimeout i => exact pending_of_guarded ((settle_pending _).trans (endTraining_test i s).pending) h
  | tryEnd r =>
    exact pending_of_guarded
      ((settle_pending _).trans (tryResult_pending (lineUsed (s.sideband.engine.txn.sent r) s) r)) h
  | retryWaitExpiry => exact pending_of_guarded (withEngine_test _ s).pending h
  | clockHeldLow => exact execClockHeldLow_pending h
  | dataStuckLow => exact pending_of_guarded (withEngine_test _ s).pending h
  | recoveryEnd =>
    exact pending_of_guarded ((settle_pending _).trans (txnEnd_pending (lineUsed recoverySequence s) _)) h
  | plugSettleExpiry => exact pending_of_guarded ((settle_pending _).trans (plugSettled_test s).pending) h
  | postWaitExpiry => exact pending_of_guarded (postWaited_pending s) h
  | interval => exact pending_of_guarded (tick_pending s) h
  | checkpoint => exact pending_of_guarded (tick_pending s) h
  | recordWriteStart => exact execRecordWriteStart_pending h
  | ageTimerExpiry =>
    exact pending_of_guarded (evaluate_pending (s.modAttention fun a => { a with age := .expired })) h
  | prescalerWrap => exact pending_of_guarded (tick_pending s) h

end Sys2Proof.Machine
end
